-- ==== Sys2Proof/Word.lean ====
section
/-!
DEFINITION. The word types of the TM6464 and the shapes of the tables that name its registers. A register word is 32 bits (R5).
-/

namespace Sys2Proof

/-- A register, bank or frame word (R5). -/
abbrev Word := BitVec 32

/-- One byte of a memory window or a network frame. -/
abbrev Byte := BitVec 8

/-- One register of the manual's register tables, or an equally spaced group of them: the first page it stands on, its
offset, how many there are on the page and their stride, its reset value, and its writable bits by access code (R6):
`rw` RW, `rwl` RWL, `w1c` W1C. A bit in none of the three masks is RO, WO, W1P or reserved: no write stores it. -/
structure Reg where
  page : Nat
  off : Nat
  cnt : Nat
  stride : Nat
  reset : Nat
  rw : Nat
  rwl : Nat
  w1c : Nat
deriving DecidableEq, Repr

/-- One field of a register: its lowest bit and its width. -/
structure Fld where
  reg : Reg
  lo : Nat
  w : Nat
deriving DecidableEq, Repr

/-- The byte address of register `r` on the page of unit `i`, element `j` (R80, R81). -/
def Reg.addr (r : Reg) (i j : Nat) : Nat := (r.page + i) * 4096 + r.off + j * r.stride

/-- A finite table: keys strictly rising, and no entry that holds the table's default value. -/
abbrev Tab (α : Type) := List (Nat × α)

end Sys2Proof
end

