-- ==== Sys2Proof/Syntax.lean ====
section
/-!
DEFINITION. The commands of the TM6464: one constructor of `Instr` for each row of spec/opcode_table.json. The table gives its
rows no operands and no bits; the operands here are what the row's rule needs from outside the block: who writes and what word
is written, which unit is meant, what level or raw measurement arrives at a pin, what a frame carries, and what a
computation returns whose arithmetic the manual does not fix (DESIGN CHOICE, log entry 5).
-/

namespace Sys2Proof

/-- The party that makes an access or causes an error, in the coding of `FCR.FIRST_SRC.MASTER` (R385). -/
inductive Master where
  | hsp | spu | debug | qre | net | tcu | lea | hw
deriving DecidableEq, Repr

/-- The monitored supply rails (R42, R43). -/
inductive Rail where
  | vdd | vdda | vddio18 | vddio33
deriving DecidableEq, Repr

/-- The three reads of one fuse word, as stored bits, at the three sense margins (R72). -/
structure FuseRaw where
  normal : BitVec 39
  low : BitVec 39
  high : BitVec 39
deriving DecidableEq, Repr

/-- The node comparators of a leg (R160). -/
inductive NodeCmp where
  | lo | mid | hi
deriving DecidableEq, Repr

/-- What every HSP frame carries besides its data: tag, address phase and the CRC trailer that the host sends, the bits that it drives in the
dummy phase and in the data phase of a read (0 past the end of the list), and the data words that were not ready in time; a READ carries those in an
operand of its own (R93, R96, R99). -/
structure HspHdr where
  tag : Byte
  addr : BitVec 24
  crc : Byte
  fill : List Bool
  late : List Nat
deriving DecidableEq, Repr

/-- A CAN frame on the bus: its data length code, its data and the CRC that followed them (R119, R121, R343). -/
structure CanFrame where
  id : BitVec 29
  ide : Bool
  fd : Bool
  brs : Bool
  esi : Bool
  remote : Bool
  dlc : Nat
  data : List Byte
  crc : Nat
deriving DecidableEq, Repr

/-- A received Ethernet frame from its destination address on, and the FCS that followed it (R116, R118). -/
structure EthFrame where
  bytes : List Byte
  fcs : Word
deriving DecidableEq, Repr

/-- The filtered levels of a feedback channel's taps in SHL (R309, R396). -/
structure Taps where
  a : Bool := false
  b : Bool := false
  /-- H3:H2:H1. -/
  hall : Nat := 0
deriving DecidableEq, Repr

/-- What a channel's taps have read for 16 NW (R399): a wire disagreement on A or B, or an invalid Hall state. -/
inductive TapFault where
  | wire (ch : Nat)
  | hall (ch : Nat)
deriving DecidableEq, Repr

/-- What the return check of a fenced unit finds (R380). -/
structure ReturnCheck where
  /-- A converter's zero-scale result less its expected value, LSB. -/
  devZero : Int := 0
  /-- A converter's half-scale result less its expected value, LSB. -/
  devHalf : Int := 0
  /-- The program store matches its digest, the input comparators read a valid state, or the pointer store's parity holds. -/
  sound : Bool := true
deriving DecidableEq, Repr

/-- A frame that the Futra snooper samples, of Ethernet or of CAN (R404). -/
inductive SnoopFrame where
  | eth (f : EthFrame)
  | can (f : CanFrame)
deriving DecidableEq, Repr

/-- The networks that carry Futra copies (R404). -/
inductive FutraNet where
  | eth | can0 | can1
deriving DecidableEq, Repr

/-- What a run gives besides the laws the manual prints: whether the two runs of a dual-run context agree (R238), and the results of the laws
it names without printing them: the back-EMF observer's speed, angle and residual, the speed filter of OBS_ENC, the output of HARM (R243, R268,
R287). They are free values (DESIGN CHOICE, log entry 5). -/
structure RunResult where
  agree : Bool
  w : Int
  theta : Nat
  resid : Int
  out : Int
deriving DecidableEq, Repr

/-- What the stored code bits of a word show when the word is read: clean, one bit wrong, or not correctable (R50, R225, R330). -/
inductive Ecc where
  | clean | single | double
deriving DecidableEq, Repr

/-- The width of an access of the SPU to a memory window, and whether it is an instruction fetch (R338). -/
inductive SpuWidth where
  | byte | half | word | fetch
deriving DecidableEq, Repr

/-- A source raised towards FCR: its number, the page of the unit it names plus 0x1000 times the bus (SNS_BUS_OV, SNS_BUS_UV) or
command pin (CMD_LOSS), the address and master of the access that caused it, and the access type (R373). -/
structure Raised where
  src : Nat
  unit : Nat
  addr : Nat
  master : Nat
  access : Nat
deriving DecidableEq, Repr

/-- A leg and a position in its period, in fine steps (R147, R185). -/
structure LegAt where
  leg : Nat
  pos : Nat
deriving DecidableEq, Repr

/-- A current at a comparator of a leg, and the position at which it acts (R185). -/
structure Trip where
  current : Int
  pos : Nat
deriving DecidableEq, Repr

/-- A leg and the current at its hard comparator (R186). -/
structure LegTrip where
  leg : Nat
  current : Int
deriving DecidableEq, Repr

/-- A leg and the path of its node after an edge, in time and voltage (R165). -/
structure LegPath where
  leg : Nat
  path : List (Nat × Int)
deriving DecidableEq, Repr

/-- What the other side drove in a transfer of the expansion port besides the data: its bits up to them, and its trailer (R99, R114). -/
structure XspWire where
  head : List Bool
  crc : Byte
deriving DecidableEq, Repr

/-- The commands of the block, in the order of the opcode table. -/
inductive Instr where
  | porstNAssert
  | porstNRelease (refsel : Bool)
  | supplyRailChange (rail : Rail) (inRange : Bool)
  | vqpsChange (inRange : Bool)
  | startupArrayReadDone
  | startupDigestsDone
  | pllLock (cycles : Nat)
  | pllLockTimeout
  | coreRelease
  | pllCheckWindow (count : Nat) (unlockedNw : Nat)
  | pllLoss
  | pllRelockAttempt
  | nwCheckWindow (count : Nat)
  | avsEvaluate (slacks : List Nat)
  | avsSettleElapsed
  | modeRequest (m : Master) (w : Word)
  | modeTransitionDone
  | coreResetRequest (m : Master) (w : Word)
  | dormantEntryComplete
  | wakeInputChange (pin : Nat) (level : Bool)
  | wakeQualified (pin : Nat)
  | wakeSettleElapsed
  | bankGroupAwake
  | wakeComplete
  | otpRead (m : Master) (key : Byte)
  | otpProgram (m : Master) (key : Byte)
  | otpRestrike (m : Master) (key : Byte)
  | otpFinalise (m : Master) (key : Byte) (force : Byte)
  | otpAdvance (m : Master) (key : Byte)
  | otpUnknownOp (m : Master) (op : Nat) (key : Byte)
  | otpCommandDone (reads : List FuseRaw) (retries : Nat)
  | hspRead (h : HspHdr) (n : Nat) (late : List Nat)
  | hspWrite (h : HspHdr) (data : List Word)
  | hspWriteMasked (h : HspHdr) (pairs : List (Word × Word))
  | hspStatus (h : HspHdr) (n : Nat)
  | hspIdent (h : HspHdr) (n : Nat)
  | hspRingPush (h : HspHdr) (data : List Word)
  | hspRingPop (h : HspHdr) (n : Nat)
  | debugEnter (h : HspHdr)
  | debugChallenge (h : HspHdr) (data : List Word)
  | hspBadCommand (h : HspHdr) (code : Byte) (data : List Word)
  | hspShortFrame (h : HspHdr) (code : Byte) (data : List Word) (inWord : Bool)
  | hspSelectTimeout (h : HspHdr) (code : Byte) (data : List Word) (inWord : Bool)
  | counterLowRead (m : Master) (addr : Nat)
  | pageLock (m : Master) (page : Nat) (w : Word)
  | registerWrite (m : Master) (addr : Nat) (w : Word)
  | xspDescriptorArm (m : Master) (n : Nat) (w : Word)
  | xspEphemerisFire (n : Nat)
  | xspGo (m : Master) (w : Word)
  | xspSwTransferStart
  | xspTransferDone (data : List Word) (wire : XspWire)
  | firmwareLoad (header : List Word) (payload : List Word) (readOk : Bool)
  | flashRetry
  | bootLoad (m : Master) (w : Word)
  | authDone
  | ethFrameReceived (f : EthFrame)
  | ethTransmitStart
  | ethTransmitDone
  | mdioGo (m : Master) (w : Word)
  | mdioPoll
  | mdioFrameDone (data : BitVec 16)
  | canFrameReceived (c : Nat) (f : CanFrame)
  | canTransmitStart (c : Nat)
  | canTransmitDone (c : Nat) (ok : Bool)
  | canBusOffRecovery (c : Nat)
  | canRecover (m : Master) (c : Nat) (w : Word)
  | tbStart (m : Master) (k : Nat) (w : Word)
  | tbFirstMeridian (k : Nat)
  | tbStop (m : Master) (k : Nat) (w : Word)
  | tbGo (m : Master) (k : Nat) (w : Word)
  | constellationTick (k : Nat) (anti : Bool)
  | legWindowOpen (leg : Nat)
  | legCommit (leg : Nat) (anti : Bool)
  | legGo (m : Master) (leg : Nat)
  | groupGo (m : Master) (hi : Bool) (mask : Word)
  | legEdge (leg : Nat) (pos : Nat)
  | interlockTurnOn (leg : Nat) (pos : Nat)
  | egaInterlock (x : LegAt)
  | dllLock (g : Nat)
  | dllUnlock (g : Nat)
  | dllCodeUpdate (g : Nat) (up : Bool)
  | legTrimMeasure (leg : Nat) (trim : Int)
  | overcurrentTrip (leg : Nat) (x : Trip)
  | blankingEnd (leg : Nat) (i : Int) (pos : Nat)
  | hardOvercurrentTrip (x : LegTrip)
  | fltNChange (leg : Nat) (level : Bool)
  | legDriverFault (leg : Nat)
  | legFaultRelease (m : Master) (leg : Nat) (w : Word)
  | nodeCrossing (leg : Nat) (cmp : NodeCmp) (up : Bool) (t : Nat)
  | edgeSenseWindowEnd (x : LegPath)
  | nodeStuckTimeout (leg : Nat)
  | servoClear (m : Master) (leg : Nat) (w : Word)
  | sampleHold (axis : Nat) (anti : Bool)
  | conversionDone (conv : Nat) (raw : BitVec 14)
  | converterSelftest (conv : Nat) (devZero : Int) (devHalf : Int)
  | converterSelftestSkip (conv : Nat)
  | busConversionDone (bus : Nat) (raw : BitVec 14)
  | hkConversionDone (ch : Nat) (raw : BitVec 12)
  | mbxCreate (m : Master) (mbx : Nat)
  | mbxDestroy (m : Master) (mbx : Nat)
  | mbxReform (m : Master) (mbx : Nat)
  | mbxCheck (m : Master) (mbx : Nat)
  | mbxBadOp (m : Master) (mbx : Nat) (op : Nat)
  | mbxQueuedStart (mbx : Nat)
  | axisCommitMeridian (axis : Nat)
  | axisDestroyMeridian (axis : Nat)
  | axisReformMeridian (axis : Nat)
  | mailboxDone (mbx : Nat)
  | cmdPinMeasure (pin : Nat) (high : Nat) (period : Nat)
  | cmdLoss (pin : Nat)
  | cmdPinRecover (pin : Nat)
  | loopRunStart (ctx : Nat)
  | loopRunComplete (ctx : Nat) (r : RunResult)
  | lcSwap (m : Master) (ctx : Nat) (w : Word)
  | lcXfer (m : Master) (ctx : Nat) (w : Word)
  | lcRampRestart (m : Master) (ctx : Nat) (w : Word)
  | ctxScrub (addr : Nat) (seen : Ecc)
  | storeScrub (addr : Nat) (seen : Ecc)
  | coverPlanDone
  | axCmdStart (m : Master) (axis : Nat) (w : Word)
  | axCmdStop (m : Master) (axis : Nat) (w : Word)
  | axCmdCoast (m : Master) (axis : Nat) (w : Word)
  | axCmdBrakeAsc (m : Master) (axis : Nat) (w : Word)
  | axCmdBrakeDc (m : Master) (axis : Nat) (w : Word)
  | axCmdBadOp (m : Master) (axis : Nat) (w : Word)
  | axisCommandAct (axis : Nat)
  | catchTimeout (axis : Nat)
  | hfiTimeout (axis : Nat)
  | alignDone (axis : Nat)
  | relockTimeout (axis : Nat)
  | rideTimeout (axis : Nat)
  | cfuStall (axis : Nat)
  | dcTimeout (axis : Nat)
  | holdTimeout (axis : Nat)
  | quadCount (fb : Nat) (a : Bool) (b : Bool)
  | indexEvent (fb : Nat)
  | hallTransition (fb : Nat) (h : Nat)
  | wireDisagree (fb : Nat) (pair : Nat) (disagree : Bool)
  | ssiTrigger (fb : Nat)
  | ssiReadingDone (fb : Nat) (frame : Nat)
  | fbFreeLatch (fb : Nat)
  | speedZeroTimeout (fb : Nat)
  | pcTargetWrite (m : Master) (pc : Nat) (w : Word)
  | pcDisarm (m : Master) (pc : Nat) (w : Word)
  | pcoPulseEnd (pin : Nat)
  | fbRearm (m : Master) (fb : Nat) (w : Word)
  | fbHomeArm (m : Master) (fb : Nat) (w : Word)
  | sesArm (m : Master) (ses : Nat) (w : Word)
  | sesTrig (m : Master) (ses : Nat) (w : Word)
  | sesStop (m : Master) (ses : Nat) (w : Word)
  | sesClear (m : Master) (ses : Nat) (w : Word)
  | tcuRecordWrite (ses : Nat)
  | bankInitDone (bank : Nat)
  | bankScrub (addr : Nat) (seen : Ecc)
  | stripeEnable (m : Master) (w : Word)
  | stripeRecomputeDone (stripe : Nat)
  | bankHandover (m : Master) (bank : Nat) (w : Word)
  | bankHandoverTakeEffect (bank : Nat)
  | bankTwilight (m : Master) (bank : Nat) (w : Word)
  | bankWake (m : Master) (bank : Nat) (w : Word)
  | bankReady (bank : Nat)
  | quarantineScrubDone (bank : Nat)
  | rgCreate (m : Master) (ring : Nat) (w : Word)
  | rgDestroy (m : Master) (ring : Nat) (w : Word)
  | rgThaw (m : Master) (ring : Nat) (w : Word)
  | spuRhWrite (m : Master) (w : Word)
  | spuRingPushWord (m : Master) (w : Word)
  | spuRingPopWord (m : Master)
  | ringStagedEntryWrite (ring : Nat)
  | fcrSourceRaised (r : Raised)
  | spuLockstep
  | spuWatchdog
  | watchdogKick (m : Master) (w : Word)
  | escWindowExpire (src : Nat)
  | srcCountClear (m : Master) (src : Nat) (w : Word)
  | fenceRequest (m : Master) (w : Word)
  | unfence (m : Master) (w : Word)
  | unfenceCheckDone (res : ReturnCheck)
  | haltClear (m : Master) (w : Word)
  | axisRelease (m : Master) (w : Word)
  | firstClear (m : Master) (w : Word)
  | swRaise (m : Master) (w : Word)
  | degradeClear (m : Master) (n : Nat) (w : Word)
  | stoWireFiltered (pair : Nat) (wireB : Bool) (level : Bool)
  | stoDiscrepancy (pair : Nat)
  | shlAck (m : Master) (w : Word)
  | ss1Timeout (grp : Nat)
  | speedWindowEnd (grp : Nat)
  | shlCount (ch : Nat) (taps : Taps)
  | shlEnc (fault : TapFault)
  | cfbTransitionEnd (cdr : Nat)
  | shlCfb (cdr : Nat)
  | cdrDropDelay (cdr : Nat)
  | cdrRequest (m : Master) (w : Word)
  | pllRelease (m : Master) (w : Word)
  | futraCopy (net : FutraNet) (frame : SnoopFrame) (sampled : Bool)
  | futraSkewTimeout (net : FutraNet)
  | futraTimeout
  | pchBeat (m : Master) (w : Word)
  | pchLost
  | pchRequest (m : Master) (w : Word)
  | pchCheckWrite (m : Master) (w : Word)
  | shlCheckDone
  | swapWindowTimeout
  | shlSelfcheck
  | lifecycleArm (m : Master) (w : Word)
  | debugVerifyDone
  | challengeExpire
  | swapCheck (m : Master) (w : Word)
  | swapCheckDone
  | swapGo (m : Master) (w : Word)
  | jtagIdcode
  | jtagSamplePreload
  | jtagExtest
  | jtagClamp
  | jtagHighz
  | jtagDtmcs
  | jtagDmi (write : Bool) (addr : Nat) (data : Word)
  | jtagBypass (code : Nat)
  | debugHalt
  | debugResume
  | ndmreset
  | timeStampWrap
  | cfbInputChange (cfb : Nat) (level : Bool)
  | shlTapsValid (ch : Nat)
  | spuBankAccess (write : Bool) (width : SpuWidth) (addr : Nat) (data : Word) (seen : Ecc)
  | mailboxChecksComplete (mbx : Nat)
  | canBusError (c : Nat) (primary : Bool)
  | canBusIntegration (c : Nat)
deriving DecidableEq, Repr

end Sys2Proof
end

