-- ==== Sys2Proof/Config.lean ====
section
/-!
DEFINITION. What the manual leaves open and the part fixes: values without a body, so that nothing in Lean can evaluate them or
prove one of them. Each is named in an entry of the assumption log.
-/

namespace Sys2Proof.Config

/-- A fresh open value, drawn by the counter `Block.free` (challenge bytes of R427, DESIGN CHOICE, log entry 6). -/
opaque freeWord : Nat → Word

/-- The seven check bits that the fuse array's single-error-correcting, double-error-detecting code gives a 32-bit datum; the
manual gives the code's power and not its polynomial (R50, DESIGN CHOICE, log entry 7). -/
opaque fuseCheck : BitVec 32 → BitVec 7

/-- The next pair of delay-locked-loop codes (coarse in bits 5:0, fine in bits 11:6) when a step by one fine code leaves the fine
field's range (R136, DESIGN CHOICE, log entry 8). -/
opaque dllCarry : Nat → Bool → Nat

/-- The delay in fine steps from a node's crossing to a comparator's output, by leg, comparator number and direction (R163,
R166, R187; DESIGN CHOICE, log entry 9). -/
opaque cmpDelay : Nat → Nat → Bool → Nat

/-- A parallax correction that leaves its 20-bit field (R171, DESIGN CHOICE, log entry 12). -/
opaque corrOut : Int → Nat

/-- A bit that the device drives in a phase of a serial frame for which the manual gives no value: on HSDO in the dummy phase and in the data
phase of a frame that sends data to it, on XSDO in the dummy phase and in the data phase of a read (R92, R95, R109, DESIGN CHOICE, log entry
104). -/
opaque idleBit : Nat → Bool

/-- The level of a line of an edge output below the VDDIO18 minimum, by leg × 4 + line; the manual calls it undefined (R43, DESIGN CHOICE, log
entry 98). -/
opaque edgeLevel : Nat → Bool

/-- The value that a boundary cell drives under EXTEST or CLAMP, by time and cell; the scans that load the cells are no commands (R431, DESIGN
CHOICE, log entry 121). -/
opaque boundaryCell : Nat → Nat → Bool

/-- A word of a program store as the boot ROM's library loads it (R220, DESIGN CHOICE, log entry 10). -/
opaque storeWord : Nat → Word

/-- The target of the branch that the SPU takes in a span of its execution, if it takes one (R425, DESIGN CHOICE, log entry 11). -/
opaque spuBranch : Nat → Option Word

/-- A register or CSR of the SPU after a span of its execution, by its abstract number (R425, DESIGN CHOICE, log entry 11). -/
opaque spuReg : Nat → Nat → Word

/-- An enabled trigger meets its condition in a span of the SPU's execution (R425, DESIGN CHOICE, log entry 11). -/
opaque spuTrigger : Nat → Nat → Bool

/-- The manufacturer identity of IDCODE, 11 bits (R431, DESIGN CHOICE, log entry 88). -/
opaque jtagMaker : BitVec 11

/-- The stages fed back in the pseudo-random register of an order, in force where they give maximal length; the manual names no polynomial
(R319, DESIGN CHOICE, log entry 16). -/
opaque prbsTaps : Nat → Nat

/-- The stage of the pseudo-random register that gives the waveform's sign (R319, DESIGN CHOICE, log entry 16). -/
opaque prbsStage : Nat → Nat

/-- The level of that stage which stands for +1 (R319, DESIGN CHOICE, log entry 16). -/
opaque prbsPlus : Bool

/-- The sine of a 32-bit phase in Q1.15, up to one LSB open (R319, DESIGN CHOICE, log entry 16). -/
opaque sineQ15 : Nat → Int

/-- The fraction bits, beyond 30, of the per-run factor of an exponential chirp (R319, DESIGN CHOICE, log entry 16). -/
opaque chirpBits : Nat

/-- Which way the factor of an exponential chirp (run 0) and its increment at a run are rounded, from its start, end, length and the run's number:
up where odd (R319, DESIGN CHOICE, log entry 16). -/
opaque chirpRound : Nat → Nat → Nat → Nat → Nat

/-- The die temperature in units of 0.25 °C, from the converter's word, the offset and the slope trim; the manual gives no transfer
function of the sensor (R184, DESIGN CHOICE, log entry 18). -/
opaque dieTemp : Nat → Int → Int → Int

/-- RELOCK_N of an axis of COMM 1 or 3, whose observer program has no such coefficient (R272, R287; DESIGN CHOICE, log entry 20). -/
opaque relockN : Nat → Nat

/-- The sine that CORDIC gives for an angle, inside the 2 LSB of its error (R219, DESIGN CHOICE, log entry 93). -/
opaque cordicSin : Nat → Int

/-- The cosine that CORDIC gives for an angle, inside the 2 LSB of its error (R219, DESIGN CHOICE, log entry 93). -/
opaque cordicCos : Nat → Int

/-- The error of the angle that CORDIC gives for a vector, inside 2 LSB (R219, DESIGN CHOICE, log entry 93). -/
opaque cordicAngle : Int → Int → Int

/-- The reciprocal that the unit gives, inside 2⁻¹⁵ of the exact one (R219, DESIGN CHOICE, log entry 93). -/
opaque recipOf : Int → Int

/-- The square root that the unit gives, inside 2⁻¹⁵ of the exact one (R219, DESIGN CHOICE, log entry 93). -/
opaque sqrtOf : Int → Int

/-- The square root of a negative value, for which the manual states no result (R219, DESIGN CHOICE, log entry 93). -/
opaque sqrtNeg : Int → Int

/-- A word of the input latch, from the values it holds and its place; the manual gives the content and no layout (R224, DESIGN CHOICE, log entry 21). -/
opaque latchWord : List Int → Nat → Word

/-- A word of a run's outputs, from the program, what the run gave and the word's place; the manual gives the content and no layout (R224,
R343, DESIGN CHOICE, log entry 21). -/
opaque outputWord : Nat → List Int → Nat → Word

/-- A state word of a program whose law the manual does not print, from the program, what the run gave and the word's place (R224, DESIGN
CHOICE, log entry 5). -/
opaque stateWord : Nat → List Int → Nat → Word

/-- The angle error that OBS_HFI demodulates from the change of i_q between two half-cycles; the manual gives no scale (R261, DESIGN CHOICE, log entry 94). -/
opaque hfError : Int → Int

end Sys2Proof.Config
end

