-- ==== Sys2Proof/Machine/RegsAxis.lean ====
section
/-!
DEFINITION. The registers of the pages CFU, AX, as the register tables of 08_axes_handles_and_command_pins (R214); 08_axes_handles_and_command_pins (R215); 10_field_control_and_start_up (R290); 10_field_control_and_start_up (R291) give them: first page, offset, count and stride on the page, reset value, and the masks of the RW, RWL and W1C bits; then
each field as lowest bit and width. `<PAGE>.all` lists the registers of the page body.
-/

namespace Sys2Proof

def CFU.MBX_CMD : Reg := ⟨0xE, 0x40, 2, 32, 0x0, 0xF, 0x0, 0x0⟩
def CFU.MBX_CMD_OP : Fld := ⟨CFU.MBX_CMD, 0, 4⟩
def CFU.MBX_CMD_GO : Fld := ⟨CFU.MBX_CMD, 31, 1⟩
def CFU.MBX_P0 : Reg := ⟨0xE, 0x44, 2, 32, 0x0, 0xFFFFFFFF, 0x0, 0x0⟩
def CFU.MBX_P0_P0 : Fld := ⟨CFU.MBX_P0, 0, 32⟩
def CFU.MBX_P1 : Reg := ⟨0xE, 0x48, 2, 32, 0x0, 0xFFFFFFFF, 0x0, 0x0⟩
def CFU.MBX_P1_P1 : Fld := ⟨CFU.MBX_P1, 0, 32⟩
def CFU.MBX_P2 : Reg := ⟨0xE, 0x4C, 2, 32, 0x0, 0x7F3F7777, 0x0, 0x0⟩
def CFU.MBX_P2_TB : Fld := ⟨CFU.MBX_P2, 0, 3⟩
def CFU.MBX_P2_COMM : Fld := ⟨CFU.MBX_P2, 4, 3⟩
def CFU.MBX_P2_MOD : Fld := ⟨CFU.MBX_P2, 8, 3⟩
def CFU.MBX_P2_BUS : Fld := ⟨CFU.MBX_P2, 12, 3⟩
def CFU.MBX_P2_FB : Fld := ⟨CFU.MBX_P2, 16, 5⟩
def CFU.MBX_P2_FB_EN : Fld := ⟨CFU.MBX_P2, 21, 1⟩
def CFU.MBX_P2_SAFE_PAT : Fld := ⟨CFU.MBX_P2, 24, 2⟩
def CFU.MBX_P2_FAILSET : Fld := ⟨CFU.MBX_P2, 26, 2⟩
def CFU.MBX_P2_CHOP_EN : Fld := ⟨CFU.MBX_P2, 28, 1⟩
def CFU.MBX_P2_CHOP_MODE : Fld := ⟨CFU.MBX_P2, 29, 1⟩
def CFU.MBX_P2_CHOP_REL : Fld := ⟨CFU.MBX_P2, 30, 1⟩
def CFU.MBX_P3 : Reg := ⟨0xE, 0x50, 2, 32, 0x0, 0x1FFFFF, 0x0, 0x0⟩
def CFU.MBX_P3_STAGGER : Fld := ⟨CFU.MBX_P3, 0, 16⟩
def CFU.MBX_P3_SP_SRC : Fld := ⟨CFU.MBX_P3, 16, 2⟩
def CFU.MBX_P3_TM_EN : Fld := ⟨CFU.MBX_P3, 18, 1⟩
def CFU.MBX_P3_FORMAT : Fld := ⟨CFU.MBX_P3, 19, 1⟩
def CFU.MBX_P3_LINK : Fld := ⟨CFU.MBX_P3, 20, 1⟩
def CFU.MBX_P4 : Reg := ⟨0xE, 0x54, 2, 32, 0x0, 0xFFFFFFFF, 0x0, 0x0⟩
def CFU.MBX_P4_SP_RING : Fld := ⟨CFU.MBX_P4, 0, 16⟩
def CFU.MBX_P4_TM_RING : Fld := ⟨CFU.MBX_P4, 16, 16⟩
def CFU.MBX_RESULT : Reg := ⟨0xE, 0x58, 2, 32, 0x0, 0x0, 0x0, 0x0⟩
def CFU.MBX_RESULT_CODE : Fld := ⟨CFU.MBX_RESULT, 0, 8⟩
def CFU.MBX_RESULT_RES_KIND : Fld := ⟨CFU.MBX_RESULT, 8, 4⟩
def CFU.MBX_RESULT_RES_INDEX : Fld := ⟨CFU.MBX_RESULT, 16, 8⟩
def CFU.MBX_RESULT_OP : Fld := ⟨CFU.MBX_RESULT, 24, 4⟩
def CFU.MBX_RESULT_QUEUED : Fld := ⟨CFU.MBX_RESULT, 29, 1⟩
def CFU.MBX_RESULT_BUSY : Fld := ⟨CFU.MBX_RESULT, 30, 1⟩
def CFU.MBX_HANDLE : Reg := ⟨0xE, 0x5C, 2, 32, 0x0, 0x0, 0x0, 0x0⟩
def CFU.MBX_HANDLE_HANDLE : Fld := ⟨CFU.MBX_HANDLE, 0, 16⟩
def CFU.MBX_HANDLE_SEQ : Fld := ⟨CFU.MBX_HANDLE, 16, 16⟩
def CFU.SLOT_USED : Reg := ⟨0xE, 0x80, 1, 0, 0x0, 0x0, 0x0, 0x0⟩
def CFU.SLOT_USED_SLOT : Fld := ⟨CFU.SLOT_USED, 0, 24⟩
def CFU.SLOT_FAILED : Reg := ⟨0xE, 0x84, 1, 0, 0x0, 0x0, 0x0, 0x0⟩
def CFU.SLOT_FAILED_SLOT : Fld := ⟨CFU.SLOT_FAILED, 0, 24⟩
def CFU.CP_LOSS_MAP : Reg := ⟨0xE, 0x88, 1, 0, 0x0, 0x0, 0x0, 0x0⟩
def CFU.CP_LOSS_MAP_PIN : Fld := ⟨CFU.CP_LOSS_MAP, 0, 24⟩
def CFU.REFORM_CNT : Reg := ⟨0xE, 0x8C, 1, 0, 0x0, 0x0, 0x0, 0x0⟩
def CFU.REFORM_CNT_COUNT : Fld := ⟨CFU.REFORM_CNT, 0, 16⟩
def CFU.REFORM_CNT_OVF : Fld := ⟨CFU.REFORM_CNT, 16, 1⟩
def CFU.REFORM_CNT_CLR : Fld := ⟨CFU.REFORM_CNT, 31, 1⟩
def CFU.CP_CFG : Reg := ⟨0xE, 0x100, 24, 64, 0x0, 0xFFFF001F, 0x0, 0x0⟩
def CFU.CP_CFG_MODE : Fld := ⟨CFU.CP_CFG, 0, 2⟩
def CFU.CP_CFG_QTY : Fld := ⟨CFU.CP_CFG, 2, 1⟩
def CFU.CP_CFG_ACTION : Fld := ⟨CFU.CP_CFG, 3, 1⟩
def CFU.CP_CFG_LATCH : Fld := ⟨CFU.CP_CFG, 4, 1⟩
def CFU.CP_CFG_TARGET : Fld := ⟨CFU.CP_CFG, 16, 16⟩
def CFU.CP_IN : Reg := ⟨0xE, 0x104, 24, 64, 0x8000, 0xFFFFFFFF, 0x0, 0x0⟩
def CFU.CP_IN_U_MID : Fld := ⟨CFU.CP_IN, 0, 16⟩
def CFU.CP_IN_DEADBAND : Fld := ⟨CFU.CP_IN, 16, 16⟩
def CFU.CP_SLOPE : Reg := ⟨0xE, 0x108, 24, 64, 0x10000, 0xFFFFFFFF, 0x0, 0x0⟩
def CFU.CP_SLOPE_SLOPE : Fld := ⟨CFU.CP_SLOPE, 0, 32⟩
def CFU.CP_OUT : Reg := ⟨0xE, 0x10C, 24, 64, 0x0, 0xFFFFFFFF, 0x0, 0x0⟩
def CFU.CP_OUT_Y_MID : Fld := ⟨CFU.CP_OUT, 0, 16⟩
def CFU.CP_OUT_Y_LOS : Fld := ⟨CFU.CP_OUT, 16, 16⟩
def CFU.CP_LIM : Reg := ⟨0xE, 0x110, 24, 64, 0x7FFF8000, 0xFFFFFFFF, 0x0, 0x0⟩
def CFU.CP_LIM_Y_MIN : Fld := ⟨CFU.CP_LIM, 0, 16⟩
def CFU.CP_LIM_Y_MAX : Fld := ⟨CFU.CP_LIM, 16, 16⟩
def CFU.CP_LOS : Reg := ⟨0xE, 0x114, 24, 64, 0xFFFF0000, 0xFFFFFFFF, 0x0, 0x0⟩
def CFU.CP_LOS_LOS_LO : Fld := ⟨CFU.CP_LOS, 0, 16⟩
def CFU.CP_LOS_LOS_HI : Fld := ⟨CFU.CP_LOS, 16, 16⟩
def CFU.CP_TIME : Reg := ⟨0xE, 0x118, 24, 64, 0x640064, 0xFFF0FFF, 0x0, 0x0⟩
def CFU.CP_TIME_LOS_TIME : Fld := ⟨CFU.CP_TIME, 0, 12⟩
def CFU.CP_TIME_RECOV : Fld := ⟨CFU.CP_TIME, 16, 12⟩
def CFU.CP_STAT : Reg := ⟨0xE, 0x11C, 24, 64, 0x0, 0x0, 0x0, 0x0⟩
def CFU.CP_STAT_U : Fld := ⟨CFU.CP_STAT, 0, 16⟩
def CFU.CP_STAT_Y : Fld := ⟨CFU.CP_STAT, 16, 16⟩
def CFU.CP_FLAGS : Reg := ⟨0xE, 0x120, 24, 64, 0x0, 0x0, 0x0, 0x2⟩
def CFU.CP_FLAGS_LOSS : Fld := ⟨CFU.CP_FLAGS, 0, 1⟩
def CFU.CP_FLAGS_LATCHED : Fld := ⟨CFU.CP_FLAGS, 1, 1⟩
def CFU.CP_FLAGS_TARGET_STALE : Fld := ⟨CFU.CP_FLAGS, 2, 1⟩
def CFU.CP_CNT : Reg := ⟨0xE, 0x124, 24, 64, 0x0, 0x0, 0x0, 0x0⟩
def CFU.CP_CNT_COUNT : Fld := ⟨CFU.CP_CNT, 0, 16⟩
def CFU.CP_CNT_OVF : Fld := ⟨CFU.CP_CNT, 16, 1⟩
def CFU.CP_CNT_CLR : Fld := ⟨CFU.CP_CNT, 31, 1⟩
def CFU.CRT_OPT0 : Reg := ⟨0xE, 0x800, 1, 0, 0x0, 0xFFFFF1F, 0x0, 0x0⟩
def CFU.CRT_OPT0_PLAUS : Fld := ⟨CFU.CRT_OPT0, 0, 1⟩
def CFU.CRT_OPT0_SPD : Fld := ⟨CFU.CRT_OPT0, 1, 1⟩
def CFU.CRT_OPT0_POS : Fld := ⟨CFU.CRT_OPT0, 2, 1⟩
def CFU.CRT_OPT0_BIQ4 : Fld := ⟨CFU.CRT_OPT0, 3, 1⟩
def CFU.CRT_OPT0_HARM : Fld := ⟨CFU.CRT_OPT0, 4, 1⟩
def CFU.CRT_OPT0_DIV_SPD : Fld := ⟨CFU.CRT_OPT0, 8, 4⟩
def CFU.CRT_OPT0_DIV_POS : Fld := ⟨CFU.CRT_OPT0, 12, 4⟩
def CFU.CRT_OPT0_DIV_FWK : Fld := ⟨CFU.CRT_OPT0, 16, 4⟩
def CFU.CRT_OPT0_DIV_BIQ4 : Fld := ⟨CFU.CRT_OPT0, 20, 4⟩
def CFU.CRT_OPT0_DIV_HARM : Fld := ⟨CFU.CRT_OPT0, 24, 4⟩
def CFU.CRT_OPT1 : Reg := ⟨0xE, 0x804, 1, 0, 0x0, 0xFFFFF1F, 0x0, 0x0⟩
def CFU.CRT_OPT1_PLAUS : Fld := ⟨CFU.CRT_OPT1, 0, 1⟩
def CFU.CRT_OPT1_SPD : Fld := ⟨CFU.CRT_OPT1, 1, 1⟩
def CFU.CRT_OPT1_POS : Fld := ⟨CFU.CRT_OPT1, 2, 1⟩
def CFU.CRT_OPT1_BIQ4 : Fld := ⟨CFU.CRT_OPT1, 3, 1⟩
def CFU.CRT_OPT1_HARM : Fld := ⟨CFU.CRT_OPT1, 4, 1⟩
def CFU.CRT_OPT1_DIV_SPD : Fld := ⟨CFU.CRT_OPT1, 8, 4⟩
def CFU.CRT_OPT1_DIV_POS : Fld := ⟨CFU.CRT_OPT1, 12, 4⟩
def CFU.CRT_OPT1_DIV_FWK : Fld := ⟨CFU.CRT_OPT1, 16, 4⟩
def CFU.CRT_OPT1_DIV_BIQ4 : Fld := ⟨CFU.CRT_OPT1, 20, 4⟩
def CFU.CRT_OPT1_DIV_HARM : Fld := ⟨CFU.CRT_OPT1, 24, 4⟩
def CFU.COMM_EN : Reg := ⟨0xE, 0x808, 1, 0, 0x0, 0xFFFFFF, 0x0, 0x0⟩
def CFU.COMM_EN_SLOT : Fld := ⟨CFU.COMM_EN, 0, 24⟩
def CFU.DRV_MAP : Reg := ⟨0xE, 0x80C, 1, 0, 0x0, 0x0, 0x0, 0x0⟩
def CFU.DRV_MAP_SLOT : Fld := ⟨CFU.DRV_MAP, 0, 24⟩
def CFU.UCG_MAP : Reg := ⟨0xE, 0x810, 1, 0, 0x0, 0x0, 0x0, 0x0⟩
def CFU.UCG_MAP_SLOT : Fld := ⟨CFU.UCG_MAP, 0, 24⟩
def CFU.HELD_MAP : Reg := ⟨0xE, 0x814, 1, 0, 0x0, 0x0, 0x0, 0x0⟩
def CFU.HELD_MAP_SLOT : Fld := ⟨CFU.HELD_MAP, 0, 24⟩

/-- The registers of the CFU page kind. -/
def CFU.all : List Reg :=
  [CFU.MBX_CMD, CFU.MBX_P0, CFU.MBX_P1, CFU.MBX_P2, CFU.MBX_P3, CFU.MBX_P4, CFU.MBX_RESULT, CFU.MBX_HANDLE, CFU.SLOT_USED, CFU.SLOT_FAILED, CFU.CP_LOSS_MAP, CFU.REFORM_CNT, CFU.CP_CFG, CFU.CP_IN, CFU.CP_SLOPE, CFU.CP_OUT, CFU.CP_LIM, CFU.CP_LOS, CFU.CP_TIME, CFU.CP_STAT, CFU.CP_FLAGS, CFU.CP_CNT, CFU.CRT_OPT0, CFU.CRT_OPT1, CFU.COMM_EN, CFU.DRV_MAP, CFU.UCG_MAP, CFU.HELD_MAP]

def AX.AX_HANDLE : Reg := ⟨0x60, 0x40, 1, 0, 0x0, 0x0, 0x0, 0x0⟩
def AX.AX_HANDLE_HANDLE : Fld := ⟨AX.AX_HANDLE, 0, 16⟩
def AX.AX_HANDLE_VALID : Fld := ⟨AX.AX_HANDLE, 16, 1⟩
def AX.AX_STATE : Reg := ⟨0x60, 0x44, 1, 0, 0x0, 0x0, 0x0, 0x0⟩
def AX.AX_STATE_STATE : Fld := ⟨AX.AX_STATE, 0, 3⟩
def AX.AX_STATE_SETS : Fld := ⟨AX.AX_STATE, 4, 2⟩
def AX.AX_STATE_SETS_LIVE : Fld := ⟨AX.AX_STATE, 8, 3⟩
def AX.AX_STATE_SETS_FAILED : Fld := ⟨AX.AX_STATE, 12, 3⟩
def AX.AX_STATE_LIVE_LEGS : Fld := ⟨AX.AX_STATE, 16, 4⟩
def AX.AX_LEGS_LO : Reg := ⟨0x60, 0x48, 1, 0, 0x0, 0x0, 0x0, 0x0⟩
def AX.AX_LEGS_LO_LEG : Fld := ⟨AX.AX_LEGS_LO, 0, 32⟩
def AX.AX_LEGS_HI : Reg := ⟨0x60, 0x4C, 1, 0, 0x0, 0x0, 0x0, 0x0⟩
def AX.AX_LEGS_HI_LEG : Fld := ⟨AX.AX_LEGS_HI, 0, 32⟩
def AX.AX_CFG : Reg := ⟨0x60, 0x50, 1, 0, 0x0, 0x0, 0x0, 0x0⟩
def AX.AX_CFG_P2 : Fld := ⟨AX.AX_CFG, 0, 32⟩
def AX.AX_CFG3 : Reg := ⟨0x60, 0x54, 1, 0, 0x0, 0x0, 0x0, 0x0⟩
def AX.AX_CFG3_P3 : Fld := ⟨AX.AX_CFG3, 0, 32⟩
def AX.AX_RINGS : Reg := ⟨0x60, 0x58, 1, 0, 0x0, 0x0, 0x0, 0x0⟩
def AX.AX_RINGS_P4 : Fld := ⟨AX.AX_RINGS, 0, 32⟩
def AX.AX_FAILSET : Reg := ⟨0x60, 0x5C, 1, 0, 0x0, 0x3, 0x0, 0x0⟩
def AX.AX_FAILSET_PAT : Fld := ⟨AX.AX_FAILSET, 0, 2⟩
def AX.AX_FAIL : Reg := ⟨0x60, 0x60, 1, 0, 0x0, 0x0, 0x0, 0x0⟩
def AX.AX_FAIL_SET0 : Fld := ⟨AX.AX_FAIL, 0, 4⟩
def AX.AX_FAIL_SET1 : Fld := ⟨AX.AX_FAIL, 4, 4⟩
def AX.AX_FAIL_SET2 : Fld := ⟨AX.AX_FAIL, 8, 4⟩
def AX.AX_FAIL_LEG : Fld := ⟨AX.AX_FAIL, 16, 6⟩
def AX.AX_FAIL_VALID : Fld := ⟨AX.AX_FAIL, 31, 1⟩
def AX.AX_FAIL_TS_LO : Reg := ⟨0x60, 0x64, 1, 0, 0x0, 0x0, 0x0, 0x0⟩
def AX.AX_FAIL_TS_LO_VALUE : Fld := ⟨AX.AX_FAIL_TS_LO, 0, 32⟩
def AX.AX_FAIL_TS_HI : Reg := ⟨0x60, 0x68, 1, 0, 0x0, 0x0, 0x0, 0x0⟩
def AX.AX_FAIL_TS_HI_VALUE : Fld := ⟨AX.AX_FAIL_TS_HI, 0, 32⟩
def AX.AX_CTX0 : Reg := ⟨0x60, 0x6C, 1, 0, 0xFFFFFFFF, 0x0, 0x0, 0x0⟩
def AX.AX_CTX0_LC : Fld := ⟨AX.AX_CTX0, 0, 32⟩
def AX.AX_CTX1 : Reg := ⟨0x60, 0x70, 1, 0, 0xFFFFFFFF, 0x0, 0x0, 0x0⟩
def AX.AX_CTX1_LC : Fld := ⟨AX.AX_CTX1, 0, 32⟩
def AX.AX_CTX2 : Reg := ⟨0x60, 0x7C, 1, 0, 0xFFFFFFFF, 0x0, 0x0, 0x0⟩
def AX.AX_CTX2_LC : Fld := ⟨AX.AX_CTX2, 0, 32⟩
def AX.AX_BORN_LO : Reg := ⟨0x60, 0x74, 1, 0, 0x0, 0x0, 0x0, 0x0⟩
def AX.AX_BORN_LO_VALUE : Fld := ⟨AX.AX_BORN_LO, 0, 32⟩
def AX.AX_BORN_HI : Reg := ⟨0x60, 0x78, 1, 0, 0x0, 0x0, 0x0, 0x0⟩
def AX.AX_BORN_HI_VALUE : Fld := ⟨AX.AX_BORN_HI, 0, 32⟩
def AX.AX_CMD : Reg := ⟨0x60, 0x100, 1, 0, 0x0, 0x0, 0x0, 0x0⟩
def AX.AX_CMD_HANDLE : Fld := ⟨AX.AX_CMD, 0, 16⟩
def AX.AX_CMD_OP : Fld := ⟨AX.AX_CMD, 16, 4⟩
def AX.AX_CMD_FORCE : Fld := ⟨AX.AX_CMD, 20, 1⟩
def AX.AX_CMD_GO : Fld := ⟨AX.AX_CMD, 31, 1⟩
def AX.AX_CMD_RES : Reg := ⟨0x60, 0x104, 1, 0, 0x0, 0x0, 0x0, 0x0⟩
def AX.AX_CMD_RES_CODE : Fld := ⟨AX.AX_CMD_RES, 0, 8⟩
def AX.AX_CMD_RES_OP : Fld := ⟨AX.AX_CMD_RES, 8, 4⟩
def AX.AX_CMD_RES_SEQ : Fld := ⟨AX.AX_CMD_RES, 16, 16⟩
def AX.AX_DRV : Reg := ⟨0x60, 0x108, 1, 0, 0x10, 0x0, 0x0, 0x80⟩
def AX.AX_DRV_STATE : Fld := ⟨AX.AX_DRV, 0, 4⟩
def AX.AX_DRV_MASKED : Fld := ⟨AX.AX_DRV, 4, 1⟩
def AX.AX_DRV_UCG : Fld := ⟨AX.AX_DRV, 5, 1⟩
def AX.AX_DRV_ASC_AUTO : Fld := ⟨AX.AX_DRV, 6, 1⟩
def AX.AX_DRV_STALL : Fld := ⟨AX.AX_DRV, 7, 1⟩
def AX.AX_DRV_FOLD : Fld := ⟨AX.AX_DRV, 8, 1⟩
def AX.AX_DRV_ALIGNED : Fld := ⟨AX.AX_DRV, 9, 1⟩
def AX.AX_DRV_W_VALID : Fld := ⟨AX.AX_DRV, 10, 1⟩
def AX.AX_DRV_FW_SAT : Fld := ⟨AX.AX_DRV, 11, 1⟩
def AX.AX_DRV_CMD_PEND : Fld := ⟨AX.AX_DRV, 12, 1⟩
def AX.AX_DRV_HELD_SRC : Fld := ⟨AX.AX_DRV, 13, 2⟩
def AX.AX_DRV_FAIL_CAUSE : Fld := ⟨AX.AX_DRV, 16, 3⟩
def AX.AX_DRV_PREV : Fld := ⟨AX.AX_DRV, 20, 4⟩
def AX.AX_OPT : Reg := ⟨0x60, 0x10C, 1, 0, 0x0, 0x0, 0x0, 0x0⟩
def AX.AX_OPT_OPT : Fld := ⟨AX.AX_OPT, 0, 32⟩
def AX.AX_START : Reg := ⟨0x60, 0x110, 1, 0, 0x13, 0x3F, 0x0, 0x0⟩
def AX.AX_START_CATCH_EN : Fld := ⟨AX.AX_START, 0, 1⟩
def AX.AX_START_ALIGN : Fld := ⟨AX.AX_START, 1, 2⟩
def AX.AX_START_RESTART : Fld := ⟨AX.AX_START, 3, 1⟩
def AX.AX_START_STALL_ACT : Fld := ⟨AX.AX_START, 4, 1⟩
def AX.AX_START_ASC_SIDE : Fld := ⟨AX.AX_START, 5, 1⟩
def AX.AX_TIME : Reg := ⟨0x60, 0x114, 1, 0, 0x64021405, 0xFF3FFF1F, 0x0, 0x0⟩
def AX.AX_TIME_T_RIDE : Fld := ⟨AX.AX_TIME, 0, 5⟩
def AX.AX_TIME_T_RELOCK : Fld := ⟨AX.AX_TIME, 8, 8⟩
def AX.AX_TIME_CATCH_T : Fld := ⟨AX.AX_TIME, 16, 6⟩
def AX.AX_TIME_T_ALIGN : Fld := ⟨AX.AX_TIME, 24, 8⟩
def AX.AX_TIME2 : Reg := ⟨0x60, 0x118, 1, 0, 0x19000000, 0xFFFFFFFF, 0x0, 0x0⟩
def AX.AX_TIME2_T_DC : Fld := ⟨AX.AX_TIME2, 0, 12⟩
def AX.AX_TIME2_T_HOLD : Fld := ⟨AX.AX_TIME2, 12, 12⟩
def AX.AX_TIME2_T_HFI : Fld := ⟨AX.AX_TIME2, 24, 8⟩
def AX.AX_UCG : Reg := ⟨0x60, 0x11C, 1, 0, 0xE6660000, 0xFFFFFFFF, 0x0, 0x0⟩
def AX.AX_UCG_KE : Fld := ⟨AX.AX_UCG, 0, 16⟩
def AX.AX_UCG_UCG_RATIO : Fld := ⟨AX.AX_UCG, 16, 16⟩
def AX.AX_STILL : Reg := ⟨0x60, 0x120, 1, 0, 0x6666028F, 0xFFFFFFFF, 0x0, 0x0⟩
def AX.AX_STILL_W_STILL : Fld := ⟨AX.AX_STILL, 0, 16⟩
def AX.AX_STILL_V_HEAD : Fld := ⟨AX.AX_STILL, 16, 16⟩
def AX.AX_STALL : Reg := ⟨0x60, 0x124, 1, 0, 0x28F4000, 0xFFFFFFFF, 0x0, 0x0⟩
def AX.AX_STALL_STALL_I : Fld := ⟨AX.AX_STALL, 0, 16⟩
def AX.AX_STALL_STALL_W : Fld := ⟨AX.AX_STALL, 16, 16⟩
def AX.AX_STALL_T : Reg := ⟨0x60, 0x128, 1, 0, 0x1F4, 0xFFF, 0x0, 0x0⟩
def AX.AX_STALL_T_STALL_T : Fld := ⟨AX.AX_STALL_T, 0, 12⟩
def AX.AX_I2T : Reg := ⟨0x60, 0x12C, 1, 0, 0x7FFF7FFF, 0xFFFFFFFF, 0x0, 0x0⟩
def AX.AX_I2T_I_CONT : Fld := ⟨AX.AX_I2T, 0, 16⟩
def AX.AX_I2T_I_FOLD : Fld := ⟨AX.AX_I2T, 16, 16⟩
def AX.AX_I2T_MAX : Reg := ⟨0x60, 0x130, 1, 0, 0xFFFFFFFF, 0xFFFFFFFF, 0x0, 0x0⟩
def AX.AX_I2T_MAX_MAX : Fld := ⟨AX.AX_I2T_MAX, 0, 32⟩
def AX.AX_I2T_ACC : Reg := ⟨0x60, 0x134, 1, 0, 0x0, 0x0, 0x0, 0x0⟩
def AX.AX_I2T_ACC_ACC : Fld := ⟨AX.AX_I2T_ACC, 0, 32⟩
def AX.AX_DC : Reg := ⟨0x60, 0x138, 1, 0, 0x0, 0xFFFFFFFF, 0x0, 0x0⟩
def AX.AX_DC_I_DC : Fld := ⟨AX.AX_DC, 0, 16⟩
def AX.AX_DC_THETA_DC : Fld := ⟨AX.AX_DC, 16, 16⟩
def AX.AX_ALIGN_POS : Reg := ⟨0x60, 0x13C, 1, 0, 0x0, 0x0, 0x0, 0x0⟩
def AX.AX_ALIGN_POS_POS : Fld := ⟨AX.AX_ALIGN_POS, 0, 32⟩
def AX.AX_EST : Reg := ⟨0x60, 0x140, 1, 0, 0x0, 0x0, 0x0, 0x0⟩
def AX.AX_EST_W : Fld := ⟨AX.AX_EST, 0, 16⟩
def AX.AX_EST_THETA : Fld := ⟨AX.AX_EST, 16, 16⟩
def AX.AX_CATCH : Reg := ⟨0x60, 0x144, 1, 0, 0x0, 0x0, 0x0, 0x0⟩
def AX.AX_CATCH_W : Fld := ⟨AX.AX_CATCH, 0, 16⟩
def AX.AX_CATCH_RESULT : Fld := ⟨AX.AX_CATCH, 16, 3⟩
def AX.AX_CATCH_STEPS : Fld := ⟨AX.AX_CATCH, 20, 4⟩
def AX.AX_CATCH_T_DEC : Fld := ⟨AX.AX_CATCH, 24, 8⟩
def AX.AX_LOSS_CNT : Reg := ⟨0x60, 0x148, 1, 0, 0x0, 0x0, 0x0, 0x0⟩
def AX.AX_LOSS_CNT_COUNT : Fld := ⟨AX.AX_LOSS_CNT, 0, 16⟩
def AX.AX_LOSS_CNT_OVF : Fld := ⟨AX.AX_LOSS_CNT, 16, 1⟩
def AX.AX_LOSS_CNT_CLR : Fld := ⟨AX.AX_LOSS_CNT, 31, 1⟩
def AX.AX_RIDE_CNT : Reg := ⟨0x60, 0x14C, 1, 0, 0x0, 0x0, 0x0, 0x0⟩
def AX.AX_RIDE_CNT_COUNT : Fld := ⟨AX.AX_RIDE_CNT, 0, 16⟩
def AX.AX_RIDE_CNT_OVF : Fld := ⟨AX.AX_RIDE_CNT, 16, 1⟩
def AX.AX_RIDE_CNT_CLR : Fld := ⟨AX.AX_RIDE_CNT, 31, 1⟩
def AX.AX_STALL_CNT : Reg := ⟨0x60, 0x150, 1, 0, 0x0, 0x0, 0x0, 0x0⟩
def AX.AX_STALL_CNT_COUNT : Fld := ⟨AX.AX_STALL_CNT, 0, 16⟩
def AX.AX_STALL_CNT_OVF : Fld := ⟨AX.AX_STALL_CNT, 16, 1⟩
def AX.AX_STALL_CNT_CLR : Fld := ⟨AX.AX_STALL_CNT, 31, 1⟩
def AX.AX_SP_DROP : Reg := ⟨0x60, 0x154, 1, 0, 0x0, 0x0, 0x0, 0x0⟩
def AX.AX_SP_DROP_COUNT : Fld := ⟨AX.AX_SP_DROP, 0, 16⟩
def AX.AX_SP_DROP_OVF : Fld := ⟨AX.AX_SP_DROP, 16, 1⟩
def AX.AX_SP_DROP_CLR : Fld := ⟨AX.AX_SP_DROP, 31, 1⟩
def AX.AX_DRV_TS_LO : Reg := ⟨0x60, 0x158, 1, 0, 0x0, 0x0, 0x0, 0x0⟩
def AX.AX_DRV_TS_LO_VALUE : Fld := ⟨AX.AX_DRV_TS_LO, 0, 32⟩
def AX.AX_DRV_TS_HI : Reg := ⟨0x60, 0x15C, 1, 0, 0x0, 0x0, 0x0, 0x0⟩
def AX.AX_DRV_TS_HI_VALUE : Fld := ⟨AX.AX_DRV_TS_HI, 0, 32⟩

/-- The registers of the AX page kind. -/
def AX.all : List Reg :=
  [AX.AX_HANDLE, AX.AX_STATE, AX.AX_LEGS_LO, AX.AX_LEGS_HI, AX.AX_CFG, AX.AX_CFG3, AX.AX_RINGS, AX.AX_FAILSET, AX.AX_FAIL, AX.AX_FAIL_TS_LO, AX.AX_FAIL_TS_HI, AX.AX_CTX0, AX.AX_CTX1, AX.AX_CTX2, AX.AX_BORN_LO, AX.AX_BORN_HI, AX.AX_CMD, AX.AX_CMD_RES, AX.AX_DRV, AX.AX_OPT, AX.AX_START, AX.AX_TIME, AX.AX_TIME2, AX.AX_UCG, AX.AX_STILL, AX.AX_STALL, AX.AX_STALL_T, AX.AX_I2T, AX.AX_I2T_MAX, AX.AX_I2T_ACC, AX.AX_DC, AX.AX_ALIGN_POS, AX.AX_EST, AX.AX_CATCH, AX.AX_LOSS_CNT, AX.AX_RIDE_CNT, AX.AX_STALL_CNT, AX.AX_SP_DROP, AX.AX_DRV_TS_LO, AX.AX_DRV_TS_HI]

end Sys2Proof
end

