-- ==== Sys2Proof/Machine/RegsClock.lean ====
section
/-!
DEFINITION. The registers of the pages CRM, OTP, as the register tables of 02_clocks_modes_power (R48); 03_fuses_and_start_up (R79) give them: first page, offset, count and stride on the page, reset value, and the masks of the RW, RWL and W1C bits; then
each field as lowest bit and width. `<PAGE>.all` lists the registers of the page body.
-/

namespace Sys2Proof

def CRM.CLK_STAT : Reg := ⟨0x1, 0x40, 1, 0, 0x0, 0x0, 0x0, 0x300⟩
def CRM.CLK_STAT_PLL_LOCK : Fld := ⟨CRM.CLK_STAT, 0, 1⟩
def CRM.CLK_STAT_REF_SRC : Fld := ⟨CRM.CLK_STAT, 1, 1⟩
def CRM.CLK_STAT_NW_OK : Fld := ⟨CRM.CLK_STAT, 2, 1⟩
def CRM.CLK_STAT_PLL_LOST : Fld := ⟨CRM.CLK_STAT, 8, 1⟩
def CRM.CLK_STAT_NW_FAULT : Fld := ⟨CRM.CLK_STAT, 9, 1⟩
def CRM.PLL_LOSS_CNT : Reg := ⟨0x1, 0x44, 1, 0, 0x0, 0x0, 0x0, 0x0⟩
def CRM.PLL_LOSS_CNT_COUNT : Fld := ⟨CRM.PLL_LOSS_CNT, 0, 16⟩
def CRM.PLL_LOSS_CNT_OVF : Fld := ⟨CRM.PLL_LOSS_CNT, 16, 1⟩
def CRM.PLL_LOSS_CNT_CLR : Fld := ⟨CRM.PLL_LOSS_CNT, 31, 1⟩
def CRM.LOCK_TIME : Reg := ⟨0x1, 0x48, 1, 0, 0x0, 0x0, 0x0, 0x0⟩
def CRM.LOCK_TIME_LAST : Fld := ⟨CRM.LOCK_TIME, 0, 16⟩
def CRM.MODE : Reg := ⟨0x1, 0x50, 1, 0, 0x0, 0x0, 0x0, 0x0⟩
def CRM.MODE_CUR : Fld := ⟨CRM.MODE, 0, 3⟩
def CRM.MODE_PREV : Fld := ⟨CRM.MODE, 3, 3⟩
def CRM.MODE_BUSY : Fld := ⟨CRM.MODE, 6, 1⟩
def CRM.MODE_ENERGISED : Fld := ⟨CRM.MODE, 7, 1⟩
def CRM.MODE_REQ : Reg := ⟨0x1, 0x54, 1, 0, 0x0, 0x7, 0x0, 0x0⟩
def CRM.MODE_REQ_TARGET : Fld := ⟨CRM.MODE_REQ, 0, 3⟩
def CRM.MODE_REQ_GO : Fld := ⟨CRM.MODE_REQ, 8, 1⟩
def CRM.MODE_RESULT : Reg := ⟨0x1, 0x58, 1, 0, 0x0, 0x0, 0x0, 0x0⟩
def CRM.MODE_RESULT_CODE : Fld := ⟨CRM.MODE_RESULT, 0, 4⟩
def CRM.MODE_RESULT_TARGET : Fld := ⟨CRM.MODE_RESULT, 4, 3⟩
def CRM.MODE_RESULT_SEQ : Fld := ⟨CRM.MODE_RESULT, 16, 16⟩
def CRM.RST_CTL : Reg := ⟨0x1, 0x5C, 1, 0, 0x0, 0x0, 0x0, 0x0⟩
def CRM.RST_CTL_KEY : Fld := ⟨CRM.RST_CTL, 0, 8⟩
def CRM.RST_CTL_CORE_RST : Fld := ⟨CRM.RST_CTL, 8, 1⟩
def CRM.RST_CAUSE : Reg := ⟨0x1, 0x60, 1, 0, 0x1, 0x0, 0x0, 0x0⟩
def CRM.RST_CAUSE_PORST : Fld := ⟨CRM.RST_CAUSE, 0, 1⟩
def CRM.RST_CAUSE_PLL_LOSS : Fld := ⟨CRM.RST_CAUSE, 1, 1⟩
def CRM.RST_CAUSE_CMD : Fld := ⟨CRM.RST_CAUSE, 2, 1⟩
def CRM.RST_CAUSE_DEBUG : Fld := ⟨CRM.RST_CAUSE, 3, 1⟩
def CRM.WAKE_CFG : Reg := ⟨0x1, 0x64, 1, 0, 0x0, 0xFFF, 0x0, 0x0⟩
def CRM.WAKE_CFG_EN : Fld := ⟨CRM.WAKE_CFG, 0, 4⟩
def CRM.WAKE_CFG_POL : Fld := ⟨CRM.WAKE_CFG, 4, 4⟩
def CRM.WAKE_CFG_EDGE : Fld := ⟨CRM.WAKE_CFG, 8, 4⟩
def CRM.WAKE_STAT : Reg := ⟨0x1, 0x68, 1, 0, 0x0, 0x0, 0x0, 0x1F⟩
def CRM.WAKE_STAT_SRC : Fld := ⟨CRM.WAKE_STAT, 0, 4⟩
def CRM.WAKE_STAT_IGNORED : Fld := ⟨CRM.WAKE_STAT, 4, 1⟩
def CRM.KEEP0 : Reg := ⟨0x1, 0x6C, 1, 0, 0x0, 0xFFFFFFFF, 0x0, 0x0⟩
def CRM.KEEP0_BK : Fld := ⟨CRM.KEEP0, 0, 32⟩
def CRM.KEEP1 : Reg := ⟨0x1, 0x70, 1, 0, 0x0, 0xFFF, 0x0, 0x0⟩
def CRM.KEEP1_BK : Fld := ⟨CRM.KEEP1, 0, 8⟩
def CRM.KEEP1_DP : Fld := ⟨CRM.KEEP1, 8, 4⟩
def CRM.AVS_CFG : Reg := ⟨0x1, 0x74, 1, 0, 0x100001, 0x0, 0x1F1F01, 0x0⟩
def CRM.AVS_CFG_EN : Fld := ⟨CRM.AVS_CFG, 0, 1⟩
def CRM.AVS_CFG_VID_MIN : Fld := ⟨CRM.AVS_CFG, 8, 5⟩
def CRM.AVS_CFG_VID_MAX : Fld := ⟨CRM.AVS_CFG, 16, 5⟩
def CRM.AVS_SLACK : Reg := ⟨0x1, 0x78, 1, 0, 0x142810, 0x0, 0xFFFFFF, 0x0⟩
def CRM.AVS_SLACK_SLACK_LO : Fld := ⟨CRM.AVS_SLACK, 0, 8⟩
def CRM.AVS_SLACK_SLACK_HI : Fld := ⟨CRM.AVS_SLACK, 8, 8⟩
def CRM.AVS_SLACK_SETTLE : Fld := ⟨CRM.AVS_SLACK, 16, 8⟩
def CRM.AVS_STAT : Reg := ⟨0x1, 0x7C, 1, 0, 0x8, 0x0, 0x0, 0x0⟩
def CRM.AVS_STAT_VID_NOW : Fld := ⟨CRM.AVS_STAT, 0, 5⟩
def CRM.AVS_STAT_AT_MAX : Fld := ⟨CRM.AVS_STAT, 7, 1⟩
def CRM.AVS_STAT_SLACK_MIN : Fld := ⟨CRM.AVS_STAT, 8, 8⟩
def CRM.AVS_STAT_MON_WORST : Fld := ⟨CRM.AVS_STAT, 16, 4⟩
def CRM.TS_LO : Reg := ⟨0x1, 0x80, 1, 0, 0x0, 0x0, 0x0, 0x0⟩
def CRM.TS_LO_VALUE : Fld := ⟨CRM.TS_LO, 0, 32⟩
def CRM.TS_HI : Reg := ⟨0x1, 0x84, 1, 0, 0x0, 0x0, 0x0, 0x0⟩
def CRM.TS_HI_VALUE : Fld := ⟨CRM.TS_HI, 0, 32⟩
def CRM.TS_STAT : Reg := ⟨0x1, 0x88, 1, 0, 0x0, 0x0, 0x0, 0x1⟩
def CRM.TS_STAT_TS_WRAP : Fld := ⟨CRM.TS_STAT, 0, 1⟩

/-- The registers of the CRM page kind. -/
def CRM.all : List Reg :=
  [CRM.CLK_STAT, CRM.PLL_LOSS_CNT, CRM.LOCK_TIME, CRM.MODE, CRM.MODE_REQ, CRM.MODE_RESULT, CRM.RST_CTL, CRM.RST_CAUSE, CRM.WAKE_CFG, CRM.WAKE_STAT, CRM.KEEP0, CRM.KEEP1, CRM.AVS_CFG, CRM.AVS_SLACK, CRM.AVS_STAT, CRM.TS_LO, CRM.TS_HI, CRM.TS_STAT]

def OTP.CMD : Reg := ⟨0x2, 0x40, 1, 0, 0x0, 0xF, 0x0, 0x0⟩
def OTP.CMD_OP : Fld := ⟨OTP.CMD, 0, 4⟩
def OTP.CMD_KEY : Fld := ⟨OTP.CMD, 8, 8⟩
def OTP.CMD_FORCE : Fld := ⟨OTP.CMD, 16, 8⟩
def OTP.CMD_GO : Fld := ⟨OTP.CMD, 31, 1⟩
def OTP.ADDR : Reg := ⟨0x2, 0x44, 1, 0, 0x0, 0x1F0303FF, 0x0, 0x0⟩
def OTP.ADDR_WORD : Fld := ⟨OTP.ADDR, 0, 10⟩
def OTP.ADDR_MARGIN : Fld := ⟨OTP.ADDR, 16, 2⟩
def OTP.ADDR_UNIT : Fld := ⟨OTP.ADDR, 24, 5⟩
def OTP.WDATA : Reg := ⟨0x2, 0x48, 1, 0, 0x0, 0xFFFFFFFF, 0x0, 0x0⟩
def OTP.WDATA_DATA : Fld := ⟨OTP.WDATA, 0, 32⟩
def OTP.RDATA : Reg := ⟨0x2, 0x4C, 1, 0, 0x0, 0x0, 0x0, 0x0⟩
def OTP.RDATA_DATA : Fld := ⟨OTP.RDATA, 0, 32⟩
def OTP.RCHECK : Reg := ⟨0x2, 0x50, 1, 0, 0x0, 0x0, 0x0, 0x0⟩
def OTP.RCHECK_CHECK : Fld := ⟨OTP.RCHECK, 0, 7⟩
def OTP.RCHECK_CORRECTED : Fld := ⟨OTP.RCHECK, 8, 1⟩
def OTP.RCHECK_UNCORRECTABLE : Fld := ⟨OTP.RCHECK, 9, 1⟩
def OTP.STATUS : Reg := ⟨0x2, 0x54, 1, 0, 0x0, 0x0, 0x0, 0x0⟩
def OTP.STATUS_BUSY : Fld := ⟨OTP.STATUS, 0, 1⟩
def OTP.STATUS_VQPS_OK : Fld := ⟨OTP.STATUS, 4, 1⟩
def OTP.STATUS_RESULT : Fld := ⟨OTP.STATUS, 8, 5⟩
def OTP.STATUS_OP : Fld := ⟨OTP.STATUS, 16, 4⟩
def OTP.STATUS_PULSES : Fld := ⟨OTP.STATUS, 20, 4⟩
def OTP.STATUS_SEQ : Fld := ⟨OTP.STATUS, 24, 8⟩
def OTP.PROG_CFG : Reg := ⟨0x2, 0x58, 1, 0, 0x3, 0x0, 0x7, 0x0⟩
def OTP.PROG_CFG_RETRY : Fld := ⟨OTP.PROG_CFG, 0, 3⟩
def OTP.BOOT_STATUS : Reg := ⟨0x2, 0x5C, 1, 0, 0x0, 0x0, 0x0, 0x0⟩
def OTP.BOOT_STATUS_WORD : Fld := ⟨OTP.BOOT_STATUS, 0, 32⟩
def OTP.LIFECYCLE : Reg := ⟨0x2, 0x60, 1, 0, 0x0, 0x0, 0x0, 0x0⟩
def OTP.LIFECYCLE_STATE : Fld := ⟨OTP.LIFECYCLE, 0, 2⟩
def OTP.LIFECYCLE_PARTIAL : Fld := ⟨OTP.LIFECYCLE, 2, 1⟩
def OTP.MARG_CNT : Reg := ⟨0x2, 0x64, 1, 0, 0x0, 0x0, 0x0, 0x0⟩
def OTP.MARG_CNT_COUNT : Fld := ⟨OTP.MARG_CNT, 0, 11⟩
def OTP.MARG_CNT_FIRST : Fld := ⟨OTP.MARG_CNT, 16, 10⟩
def OTP.CORR_CNT : Reg := ⟨0x2, 0x68, 1, 0, 0x0, 0x0, 0x0, 0x0⟩
def OTP.CORR_CNT_COUNT : Fld := ⟨OTP.CORR_CNT, 0, 11⟩
def OTP.CAL_STAT : Reg := ⟨0x2, 0x6C, 1, 0, 0x0, 0x0, 0x0, 0x0⟩
def OTP.CAL_STAT_ACTIVE : Fld := ⟨OTP.CAL_STAT, 0, 2⟩
def OTP.CAL_STAT_NONE : Fld := ⟨OTP.CAL_STAT, 2, 1⟩
def OTP.CAL_STAT_VALID : Fld := ⟨OTP.CAL_STAT, 4, 4⟩
def OTP.CAL_STAT_RETIRED : Fld := ⟨OTP.CAL_STAT, 8, 4⟩
def OTP.CAL_STAT_INCOMPLETE : Fld := ⟨OTP.CAL_STAT, 12, 4⟩
def OTP.CAL_STAT_DEFAULTED : Fld := ⟨OTP.CAL_STAT, 16, 6⟩
def OTP.CAL_STAT_NEXT : Fld := ⟨OTP.CAL_STAT, 24, 2⟩
def OTP.UNIT_STAT0 : Reg := ⟨0x2, 0x70, 1, 0, 0x0, 0x0, 0x0, 0x0⟩
def OTP.UNIT_STAT0_U : Fld := ⟨OTP.UNIT_STAT0, 0, 32⟩
def OTP.UNIT_STAT1 : Reg := ⟨0x2, 0x74, 1, 0, 0x0, 0x0, 0x0, 0x0⟩
def OTP.UNIT_STAT1_U : Fld := ⟨OTP.UNIT_STAT1, 0, 26⟩
def OTP.FEAT : Reg := ⟨0x2, 0x78, 1, 0, 0x0, 0x0, 0x0, 0x0⟩
def OTP.FEAT_VARIANT : Fld := ⟨OTP.FEAT, 0, 8⟩
def OTP.FEAT_GRADE : Fld := ⟨OTP.FEAT, 8, 8⟩
def OTP.FEAT_PACKAGE : Fld := ⟨OTP.FEAT, 16, 8⟩
def OTP.FEAT_DEFAULTED : Fld := ⟨OTP.FEAT, 24, 1⟩
def OTP.COMM_STAT : Reg := ⟨0x2, 0x7C, 1, 0, 0x0, 0x0, 0x0, 0x0⟩
def OTP.COMM_STAT_LATEST : Fld := ⟨OTP.COMM_STAT, 0, 4⟩
def OTP.COMM_STAT_NONE : Fld := ⟨OTP.COMM_STAT, 4, 1⟩
def OTP.COMM_STAT_VALID : Fld := ⟨OTP.COMM_STAT, 16, 16⟩
def OTP.MARG_MAP : Reg := ⟨0x2, 0x100, 32, 4, 0x0, 0x0, 0x0, 0x0⟩
def OTP.MARG_MAP_WORD : Fld := ⟨OTP.MARG_MAP, 0, 32⟩

/-- The registers of the OTP page kind. -/
def OTP.all : List Reg :=
  [OTP.CMD, OTP.ADDR, OTP.WDATA, OTP.RDATA, OTP.RCHECK, OTP.STATUS, OTP.PROG_CFG, OTP.BOOT_STATUS, OTP.LIFECYCLE, OTP.MARG_CNT, OTP.CORR_CNT, OTP.CAL_STAT, OTP.UNIT_STAT0, OTP.UNIT_STAT1, OTP.FEAT, OTP.COMM_STAT, OTP.MARG_MAP]

end Sys2Proof
end

