-- ==== Sys2Proof/Machine/RegsFeedback.lean ====
section
/-!
DEFINITION. The registers of the pages FBI, FB, PC, as the register tables of 11_position_and_speed_feedback (R312); 11_position_and_speed_feedback (R313); 11_position_and_speed_feedback (R314) give them: first page, offset, count and stride on the page, reset value, and the masks of the RW, RWL and W1C bits; then
each field as lowest bit and width. `<PAGE>.all` lists the registers of the page body.
-/

namespace Sys2Proof

def FBI.FBI_CTL : Reg := ⟨0x11, 0x40, 1, 0, 0x1, 0x1, 0x0, 0x0⟩
def FBI.FBI_CTL_EN : Fld := ⟨FBI.FBI_CTL, 0, 1⟩
def FBI.VALID_MAP : Reg := ⟨0x11, 0x44, 1, 0, 0x0, 0x0, 0x0, 0x0⟩
def FBI.VALID_MAP_FB : Fld := ⟨FBI.VALID_MAP, 0, 24⟩
def FBI.ATTACH_MAP : Reg := ⟨0x11, 0x48, 1, 0, 0x0, 0x0, 0x0, 0x0⟩
def FBI.ATTACH_MAP_FB : Fld := ⟨FBI.ATTACH_MAP, 0, 24⟩
def FBI.PCO_STAT : Reg := ⟨0x11, 0x4C, 1, 0, 0x0, 0x0, 0x0, 0x0⟩
def FBI.PCO_STAT_LEVEL : Fld := ⟨FBI.PCO_STAT, 0, 8⟩
def FBI.FIRED_MAP : Reg := ⟨0x11, 0x50, 1, 0, 0x0, 0x0, 0x0, 0xFFFFFFFF⟩
def FBI.FIRED_MAP_PC : Fld := ⟨FBI.FIRED_MAP, 0, 32⟩
def FBI.PCO_CFG : Reg := ⟨0x11, 0x60, 8, 4, 0x800, 0x3FF01, 0x0, 0x0⟩
def FBI.PCO_CFG_POL : Fld := ⟨FBI.PCO_CFG, 0, 1⟩
def FBI.PCO_CFG_WIDTH : Fld := ⟨FBI.PCO_CFG, 8, 8⟩
def FBI.PCO_CFG_FORCE_EN : Fld := ⟨FBI.PCO_CFG, 16, 1⟩
def FBI.PCO_CFG_FORCE_LVL : Fld := ⟨FBI.PCO_CFG, 17, 1⟩

/-- The registers of the FBI page kind. -/
def FBI.all : List Reg :=
  [FBI.FBI_CTL, FBI.VALID_MAP, FBI.ATTACH_MAP, FBI.PCO_STAT, FBI.FIRED_MAP, FBI.PCO_CFG]

def FB.FB_CFG : Reg := ⟨0x78, 0x40, 1, 0, 0x3204200, 0x3FFFF3F, 0x0, 0x0⟩
def FB.FB_CFG_MODE : Fld := ⟨FB.FB_CFG, 0, 3⟩
def FB.FB_CFG_DIR_INV : Fld := ⟨FB.FB_CFG, 3, 1⟩
def FB.FB_CFG_ZMODE : Fld := ⟨FB.FB_CFG, 4, 2⟩
def FB.FB_CFG_FILT : Fld := ⟨FB.FB_CFG, 8, 4⟩
def FB.FB_CFG_HFILT : Fld := ⟨FB.FB_CFG, 12, 4⟩
def FB.FB_CFG_WIRE_FILT : Fld := ⟨FB.FB_CFG, 16, 8⟩
def FB.FB_CFG_WIRE_EN : Fld := ⟨FB.FB_CFG, 24, 1⟩
def FB.FB_CFG_HCHK : Fld := ⟨FB.FB_CFG, 25, 1⟩
def FB.FB_CPR : Reg := ⟨0x78, 0x44, 1, 0, 0x1000, 0xFFFFFF, 0x0, 0x0⟩
def FB.FB_CPR_CPR : Fld := ⟨FB.FB_CPR, 0, 24⟩
def FB.FB_POS : Reg := ⟨0x78, 0x48, 1, 0, 0x0, 0xFFFFFF, 0x0, 0x0⟩
def FB.FB_POS_COUNT : Fld := ⟨FB.FB_POS, 0, 24⟩
def FB.FB_REV : Reg := ⟨0x78, 0x4C, 1, 0, 0x0, 0xFFFF, 0x0, 0x10000⟩
def FB.FB_REV_REV : Fld := ⟨FB.FB_REV, 0, 16⟩
def FB.FB_REV_REV_WRAP : Fld := ⟨FB.FB_REV, 16, 1⟩
def FB.FB_PX : Reg := ⟨0x78, 0x50, 1, 0, 0x0, 0x0, 0x0, 0x0⟩
def FB.FB_PX_PX : Fld := ⟨FB.FB_PX, 0, 32⟩
def FB.FB_ANGLE : Reg := ⟨0x78, 0x54, 1, 0, 0x0, 0x0, 0x0, 0x0⟩
def FB.FB_ANGLE_THETA_M : Fld := ⟨FB.FB_ANGLE, 0, 16⟩
def FB.FB_ANGLE_HALL : Fld := ⟨FB.FB_ANGLE, 16, 3⟩
def FB.FB_SPEED : Reg := ⟨0x78, 0x58, 1, 0, 0x0, 0x0, 0x0, 0x0⟩
def FB.FB_SPEED_VALUE : Fld := ⟨FB.FB_SPEED, 0, 32⟩
def FB.FB_SPEED_N : Reg := ⟨0x78, 0x5C, 1, 0, 0x0, 0x0, 0x0, 0x0⟩
def FB.FB_SPEED_N_VALUE : Fld := ⟨FB.FB_SPEED_N, 0, 32⟩
def FB.FB_SPD_CFG : Reg := ⟨0x78, 0x60, 1, 0, 0x27100044, 0xFFFF03FF, 0x0, 0x0⟩
def FB.FB_SPD_CFG_EDGES_P : Fld := ⟨FB.FB_SPD_CFG, 0, 4⟩
def FB.FB_SPD_CFG_MSH : Fld := ⟨FB.FB_SPD_CFG, 4, 4⟩
def FB.FB_SPD_CFG_METHOD_SEL : Fld := ⟨FB.FB_SPD_CFG, 8, 2⟩
def FB.FB_SPD_CFG_ZERO_T : Fld := ⟨FB.FB_SPD_CFG, 16, 16⟩
def FB.FB_SPD_TH : Reg := ⟨0x78, 0x64, 1, 0, 0x400030, 0xFFFFFFFF, 0x0, 0x0⟩
def FB.FB_SPD_TH_N_DN : Fld := ⟨FB.FB_SPD_TH, 0, 16⟩
def FB.FB_SPD_TH_N_UP : Fld := ⟨FB.FB_SPD_TH, 16, 16⟩
def FB.FB_STAT : Reg := ⟨0x78, 0x68, 1, 0, 0x0, 0x0, 0x0, 0x0⟩
def FB.FB_STAT_VALID : Fld := ⟨FB.FB_STAT, 0, 1⟩
def FB.FB_STAT_METHOD : Fld := ⟨FB.FB_STAT, 1, 1⟩
def FB.FB_STAT_HOMED : Fld := ⟨FB.FB_STAT, 2, 1⟩
def FB.FB_STAT_SUSPECT : Fld := ⟨FB.FB_STAT, 3, 1⟩
def FB.FB_STAT_WIRE_A : Fld := ⟨FB.FB_STAT, 4, 1⟩
def FB.FB_STAT_WIRE_B : Fld := ⟨FB.FB_STAT, 5, 1⟩
def FB.FB_STAT_WIRE_Z : Fld := ⟨FB.FB_STAT, 6, 1⟩
def FB.FB_STAT_HALL_ERR : Fld := ⟨FB.FB_STAT, 7, 1⟩
def FB.FB_STAT_SER_ERR : Fld := ⟨FB.FB_STAT, 8, 1⟩
def FB.FB_STAT_STALE : Fld := ⟨FB.FB_STAT, 9, 1⟩
def FB.FB_STAT_STILL : Fld := ⟨FB.FB_STAT, 10, 1⟩
def FB.FB_STAT_ATTACHED : Fld := ⟨FB.FB_STAT, 12, 1⟩
def FB.FB_STAT_AXIS : Fld := ⟨FB.FB_STAT, 16, 5⟩
def FB.FB_ERR : Reg := ⟨0x78, 0x6C, 1, 0, 0x0, 0x0, 0x0, 0xFF0⟩
def FB.FB_ERR_WIRE_A : Fld := ⟨FB.FB_ERR, 4, 1⟩
def FB.FB_ERR_WIRE_B : Fld := ⟨FB.FB_ERR, 5, 1⟩
def FB.FB_ERR_WIRE_Z : Fld := ⟨FB.FB_ERR, 6, 1⟩
def FB.FB_ERR_HALL_ERR : Fld := ⟨FB.FB_ERR, 7, 1⟩
def FB.FB_ERR_SER_ERR : Fld := ⟨FB.FB_ERR, 8, 1⟩
def FB.FB_ERR_STALE : Fld := ⟨FB.FB_ERR, 9, 1⟩
def FB.FB_ERR_INDEX_ERR : Fld := ⟨FB.FB_ERR, 10, 1⟩
def FB.FB_ERR_QUAD_ERR : Fld := ⟨FB.FB_ERR, 11, 1⟩
def FB.FB_CTL : Reg := ⟨0x78, 0x70, 1, 0, 0x0, 0x0, 0x0, 0x0⟩
def FB.FB_CTL_REARM : Fld := ⟨FB.FB_CTL, 0, 1⟩
def FB.FB_CTL_HOME_ARM : Fld := ⟨FB.FB_CTL, 1, 1⟩
def FB.FB_Z : Reg := ⟨0x78, 0x74, 1, 0, 0x2000000, 0xFFFFFFFF, 0x0, 0x0⟩
def FB.FB_Z_Z_POS : Fld := ⟨FB.FB_Z, 0, 24⟩
def FB.FB_Z_Z_TOL : Fld := ⟨FB.FB_Z, 24, 8⟩
def FB.FB_Z_LAST : Reg := ⟨0x78, 0x78, 1, 0, 0x0, 0x0, 0x0, 0x0⟩
def FB.FB_Z_LAST_COUNT : Fld := ⟨FB.FB_Z_LAST, 0, 24⟩
def FB.FB_SER : Reg := ⟨0x78, 0x7C, 1, 0, 0xC, 0xFFF71F1F, 0x0, 0x0⟩
def FB.FB_SER_ST_BITS : Fld := ⟨FB.FB_SER, 0, 5⟩
def FB.FB_SER_MT_BITS : Fld := ⟨FB.FB_SER, 8, 5⟩
def FB.FB_SER_SKIP : Fld := ⟨FB.FB_SER, 16, 3⟩
def FB.FB_SER_ERR_BITS : Fld := ⟨FB.FB_SER, 20, 3⟩
def FB.FB_SER_GRAY : Fld := ⟨FB.FB_SER, 23, 1⟩
def FB.FB_SER_ERR_MASK : Fld := ⟨FB.FB_SER, 24, 7⟩
def FB.FB_SER_ERR_POL : Fld := ⟨FB.FB_SER, 31, 1⟩
def FB.FB_RD : Reg := ⟨0x78, 0x80, 1, 0, 0x4E220, 0xFFFFFFFF, 0x0, 0x0⟩
def FB.FB_RD_DIV : Fld := ⟨FB.FB_RD, 0, 8⟩
def FB.FB_RD_MONO : Fld := ⟨FB.FB_RD, 8, 16⟩
def FB.FB_RD_LAT_COMP : Fld := ⟨FB.FB_RD, 24, 8⟩
def FB.FB_SSI_TRIG : Reg := ⟨0x78, 0x84, 1, 0, 0x4000000, 0xBD7FFFFF, 0x0, 0x0⟩
def FB.FB_SSI_TRIG_OFFSET : Fld := ⟨FB.FB_SSI_TRIG, 0, 23⟩
def FB.FB_SSI_TRIG_AM : Fld := ⟨FB.FB_SSI_TRIG, 24, 1⟩
def FB.FB_SSI_TRIG_SAMP_DLY : Fld := ⟨FB.FB_SSI_TRIG, 26, 4⟩
def FB.FB_SSI_TRIG_EN : Fld := ⟨FB.FB_SSI_TRIG, 31, 1⟩
def FB.FB_RD_TS_LO : Reg := ⟨0x78, 0x88, 1, 0, 0x0, 0x0, 0x0, 0x0⟩
def FB.FB_RD_TS_LO_VALUE : Fld := ⟨FB.FB_RD_TS_LO, 0, 32⟩
def FB.FB_RD_TS_HI : Reg := ⟨0x78, 0x8C, 1, 0, 0x0, 0x0, 0x0, 0x0⟩
def FB.FB_RD_TS_HI_VALUE : Fld := ⟨FB.FB_RD_TS_HI, 0, 32⟩
def FB.FB_RD_RAW : Reg := ⟨0x78, 0x90, 1, 0, 0x0, 0x0, 0x0, 0x0⟩
def FB.FB_RD_RAW_FRAME : Fld := ⟨FB.FB_RD_RAW, 0, 32⟩
def FB.FB_QERR_CNT : Reg := ⟨0x78, 0x94, 1, 0, 0x0, 0x0, 0x0, 0x0⟩
def FB.FB_QERR_CNT_COUNT : Fld := ⟨FB.FB_QERR_CNT, 0, 16⟩
def FB.FB_QERR_CNT_OVF : Fld := ⟨FB.FB_QERR_CNT, 16, 1⟩
def FB.FB_QERR_CNT_CLR : Fld := ⟨FB.FB_QERR_CNT, 31, 1⟩
def FB.FB_SERR_CNT : Reg := ⟨0x78, 0x98, 1, 0, 0x0, 0x0, 0x0, 0x0⟩
def FB.FB_SERR_CNT_COUNT : Fld := ⟨FB.FB_SERR_CNT, 0, 16⟩
def FB.FB_SERR_CNT_OVF : Fld := ⟨FB.FB_SERR_CNT, 16, 1⟩
def FB.FB_SERR_CNT_CLR : Fld := ⟨FB.FB_SERR_CNT, 31, 1⟩
def FB.FB_WIRE_CNT : Reg := ⟨0x78, 0x9C, 1, 0, 0x0, 0x0, 0x0, 0x0⟩
def FB.FB_WIRE_CNT_COUNT : Fld := ⟨FB.FB_WIRE_CNT, 0, 16⟩
def FB.FB_WIRE_CNT_OVF : Fld := ⟨FB.FB_WIRE_CNT, 16, 1⟩
def FB.FB_WIRE_CNT_CLR : Fld := ⟨FB.FB_WIRE_CNT, 31, 1⟩
def FB.FB_SCALE : Reg := ⟨0x78, 0xA0, 1, 0, 0x0, 0x1F, 0x0, 0x0⟩
def FB.FB_SCALE_POS_SHIFT : Fld := ⟨FB.FB_SCALE, 0, 5⟩

/-- The registers of the FB page kind. -/
def FB.all : List Reg :=
  [FB.FB_CFG, FB.FB_CPR, FB.FB_POS, FB.FB_REV, FB.FB_PX, FB.FB_ANGLE, FB.FB_SPEED, FB.FB_SPEED_N, FB.FB_SPD_CFG, FB.FB_SPD_TH, FB.FB_STAT, FB.FB_ERR, FB.FB_CTL, FB.FB_Z, FB.FB_Z_LAST, FB.FB_SER, FB.FB_RD, FB.FB_SSI_TRIG, FB.FB_RD_TS_LO, FB.FB_RD_TS_HI, FB.FB_RD_RAW, FB.FB_QERR_CNT, FB.FB_SERR_CNT, FB.FB_WIRE_CNT, FB.FB_SCALE]

def PC.PC_CFG : Reg := ⟨0x90, 0x40, 1, 0, 0x0, 0xFFFF7FFF, 0x0, 0x0⟩
def PC.PC_CFG_FB : Fld := ⟨PC.PC_CFG, 0, 5⟩
def PC.PC_CFG_DIR : Fld := ⟨PC.PC_CFG, 5, 2⟩
def PC.PC_CFG_PERIODIC : Fld := ⟨PC.PC_CFG, 7, 1⟩
def PC.PC_CFG_PIN : Fld := ⟨PC.PC_CFG, 8, 3⟩
def PC.PC_CFG_PIN_EN : Fld := ⟨PC.PC_CFG, 11, 1⟩
def PC.PC_CFG_ACTION : Fld := ⟨PC.PC_CFG, 12, 2⟩
def PC.PC_CFG_LATE_FIRE : Fld := ⟨PC.PC_CFG, 14, 1⟩
def PC.PC_CFG_HYST : Fld := ⟨PC.PC_CFG, 16, 16⟩
def PC.PC_TARGET : Reg := ⟨0x90, 0x44, 1, 0, 0x0, 0xFFFFFFFF, 0x0, 0x0⟩
def PC.PC_TARGET_TARGET : Fld := ⟨PC.PC_TARGET, 0, 32⟩
def PC.PC_STEP : Reg := ⟨0x90, 0x48, 1, 0, 0x0, 0xFFFFFFFF, 0x0, 0x0⟩
def PC.PC_STEP_STEP : Fld := ⟨PC.PC_STEP, 0, 32⟩
def PC.PC_CTL : Reg := ⟨0x90, 0x4C, 1, 0, 0x0, 0x1, 0x0, 0x0⟩
def PC.PC_CTL_EN : Fld := ⟨PC.PC_CTL, 0, 1⟩
def PC.PC_CTL_DISARM : Fld := ⟨PC.PC_CTL, 1, 1⟩
def PC.PC_STAT : Reg := ⟨0x90, 0x50, 1, 0, 0x0, 0x0, 0x0, 0x6⟩
def PC.PC_STAT_ARMED : Fld := ⟨PC.PC_STAT, 0, 1⟩
def PC.PC_STAT_FIRED : Fld := ⟨PC.PC_STAT, 1, 1⟩
def PC.PC_STAT_LATE : Fld := ⟨PC.PC_STAT, 2, 1⟩
def PC.PC_FIRE_TS_LO : Reg := ⟨0x90, 0x54, 1, 0, 0x0, 0x0, 0x0, 0x0⟩
def PC.PC_FIRE_TS_LO_VALUE : Fld := ⟨PC.PC_FIRE_TS_LO, 0, 32⟩
def PC.PC_FIRE_TS_HI : Reg := ⟨0x90, 0x58, 1, 0, 0x0, 0x0, 0x0, 0x0⟩
def PC.PC_FIRE_TS_HI_VALUE : Fld := ⟨PC.PC_FIRE_TS_HI, 0, 32⟩
def PC.PC_FIRE_PX : Reg := ⟨0x90, 0x5C, 1, 0, 0x0, 0x0, 0x0, 0x0⟩
def PC.PC_FIRE_PX_PX : Fld := ⟨PC.PC_FIRE_PX, 0, 32⟩
def PC.PC_FIRE_CNT : Reg := ⟨0x90, 0x60, 1, 0, 0x0, 0x0, 0x0, 0x0⟩
def PC.PC_FIRE_CNT_COUNT : Fld := ⟨PC.PC_FIRE_CNT, 0, 16⟩
def PC.PC_FIRE_CNT_OVF : Fld := ⟨PC.PC_FIRE_CNT, 16, 1⟩
def PC.PC_FIRE_CNT_CLR : Fld := ⟨PC.PC_FIRE_CNT, 31, 1⟩
def PC.PC_SKIP_CNT : Reg := ⟨0x90, 0x64, 1, 0, 0x0, 0x0, 0x0, 0x0⟩
def PC.PC_SKIP_CNT_COUNT : Fld := ⟨PC.PC_SKIP_CNT, 0, 16⟩
def PC.PC_SKIP_CNT_OVF : Fld := ⟨PC.PC_SKIP_CNT, 16, 1⟩
def PC.PC_SKIP_CNT_CLR : Fld := ⟨PC.PC_SKIP_CNT, 31, 1⟩

/-- The registers of the PC page kind. -/
def PC.all : List Reg :=
  [PC.PC_CFG, PC.PC_TARGET, PC.PC_STEP, PC.PC_CTL, PC.PC_STAT, PC.PC_FIRE_TS_LO, PC.PC_FIRE_TS_HI, PC.PC_FIRE_PX, PC.PC_FIRE_CNT, PC.PC_SKIP_CNT]

end Sys2Proof
end

