-- ==== Sys2Proof/Machine/RegsHost.lean ====
section
/-!
DEFINITION. The registers of the pages HDR, DIR, HSP, SEC, as the register tables of 04_register_pages_and_host_port (R107); 04_register_pages_and_host_port (R108); 04_register_pages_and_host_port (R83); 17_security_lifecycle_and_debug (R436) give them: first page, offset, count and stride on the page, reset value, and the masks of the RW, RWL and W1C bits; then
each field as lowest bit and width. `<PAGE>.all` lists the registers of the page body.
-/

namespace Sys2Proof

def HDR.PAGE_ID : Reg := ⟨0x0, 0x0, 1, 0, 0x0, 0x0, 0x0, 0x0⟩
def HDR.PAGE_ID_FORMAT : Fld := ⟨HDR.PAGE_ID, 0, 8⟩
def HDR.PAGE_ID_INSTANCE : Fld := ⟨HDR.PAGE_ID, 8, 8⟩
def HDR.PAGE_ID_KIND : Fld := ⟨HDR.PAGE_ID, 20, 4⟩
def HDR.PAGE_ID_BLOCK : Fld := ⟨HDR.PAGE_ID, 24, 8⟩
def HDR.PAGE_STAT : Reg := ⟨0x0, 0x4, 1, 0, 0x0, 0x0, 0x0, 0x0⟩
def HDR.PAGE_STAT_FENCED : Fld := ⟨HDR.PAGE_STAT, 0, 1⟩
def HDR.PAGE_STAT_LOCKED : Fld := ⟨HDR.PAGE_STAT, 1, 1⟩
def HDR.PAGE_STAT_SEIZED : Fld := ⟨HDR.PAGE_STAT, 2, 1⟩
def HDR.PAGE_STAT_FENCE_SRC : Fld := ⟨HDR.PAGE_STAT, 8, 8⟩
def HDR.PAGE_LOCK : Reg := ⟨0x0, 0x8, 1, 0, 0x0, 0x0, 0x0, 0x0⟩
def HDR.PAGE_LOCK_KEY : Fld := ⟨HDR.PAGE_LOCK, 0, 8⟩
def HDR.PAGE_LOCK_LOCK : Fld := ⟨HDR.PAGE_LOCK, 8, 1⟩
def HDR.EVT_STAT : Reg := ⟨0x0, 0xC, 1, 0, 0x0, 0x0, 0x0, 0xFFFFFFFF⟩
def HDR.EVT_STAT_BITS : Fld := ⟨HDR.EVT_STAT, 0, 32⟩
def HDR.EVT_EN : Reg := ⟨0x0, 0x10, 1, 0, 0x0, 0xFFFFFFFF, 0x0, 0x0⟩
def HDR.EVT_EN_BITS : Fld := ⟨HDR.EVT_EN, 0, 32⟩
def HDR.EVT_LINE : Reg := ⟨0x0, 0x14, 1, 0, 0x0, 0xFFFFFFFF, 0x0, 0x0⟩
def HDR.EVT_LINE_BITS : Fld := ⟨HDR.EVT_LINE, 0, 32⟩
def HDR.REFUSAL : Reg := ⟨0x0, 0x18, 1, 0, 0x0, 0x0, 0x0, 0x0⟩
def HDR.REFUSAL_CODE : Fld := ⟨HDR.REFUSAL, 0, 8⟩
def HDR.REFUSAL_OFFSET : Fld := ⟨HDR.REFUSAL, 8, 12⟩
def HDR.REFUSAL_MASTER : Fld := ⟨HDR.REFUSAL, 20, 2⟩
def HDR.REFUSAL_CNT : Reg := ⟨0x0, 0x1C, 1, 0, 0x0, 0x0, 0x0, 0x0⟩
def HDR.REFUSAL_CNT_COUNT : Fld := ⟨HDR.REFUSAL_CNT, 0, 16⟩
def HDR.REFUSAL_CNT_OVF : Fld := ⟨HDR.REFUSAL_CNT, 16, 1⟩
def HDR.REFUSAL_CNT_CLR : Fld := ⟨HDR.REFUSAL_CNT, 31, 1⟩
def HDR.SCRATCH : Reg := ⟨0x0, 0x20, 1, 0, 0x0, 0xFFFFFFFF, 0x0, 0x0⟩
def HDR.SCRATCH_VALUE : Fld := ⟨HDR.SCRATCH, 0, 32⟩

/-- The registers of the HDR page kind. -/
def HDR.all : List Reg :=
  [HDR.PAGE_ID, HDR.PAGE_STAT, HDR.PAGE_LOCK, HDR.EVT_STAT, HDR.EVT_EN, HDR.EVT_LINE, HDR.REFUSAL, HDR.REFUSAL_CNT, HDR.SCRATCH]

def DIR.DEVICE_ID : Reg := ⟨0x0, 0x40, 1, 0, 0x64640001, 0x0, 0x0, 0x0⟩
def DIR.DEVICE_ID_STEPPING : Fld := ⟨DIR.DEVICE_ID, 0, 8⟩
def DIR.DEVICE_ID_VARIANT : Fld := ⟨DIR.DEVICE_ID, 8, 8⟩
def DIR.DEVICE_ID_PART : Fld := ⟨DIR.DEVICE_ID, 16, 16⟩
def DIR.UID : Reg := ⟨0x0, 0x44, 4, 4, 0x0, 0x0, 0x0, 0x0⟩
def DIR.UID_VALUE : Fld := ⟨DIR.UID, 0, 32⟩
def DIR.PRESENT : Reg := ⟨0x0, 0x60, 16, 4, 0x0, 0x0, 0x0, 0x0⟩
def DIR.PRESENT_PAGE : Fld := ⟨DIR.PRESENT, 0, 32⟩
def DIR.PEND : Reg := ⟨0x0, 0xA0, 16, 4, 0x0, 0x0, 0x0, 0x0⟩
def DIR.PEND_PAGE : Fld := ⟨DIR.PEND, 0, 32⟩
def DIR.FIRST_PEND : Reg := ⟨0x0, 0xE0, 1, 0, 0x80008000, 0x0, 0x0, 0x0⟩
def DIR.FIRST_PEND_PAGE0 : Fld := ⟨DIR.FIRST_PEND, 0, 9⟩
def DIR.FIRST_PEND_NONE0 : Fld := ⟨DIR.FIRST_PEND, 15, 1⟩
def DIR.FIRST_PEND_PAGE1 : Fld := ⟨DIR.FIRST_PEND, 16, 9⟩
def DIR.FIRST_PEND_NONE1 : Fld := ⟨DIR.FIRST_PEND, 31, 1⟩

/-- The registers of the DIR page kind. -/
def DIR.all : List Reg :=
  [DIR.DEVICE_ID, DIR.UID, DIR.PRESENT, DIR.PEND, DIR.FIRST_PEND]

def HSP.FRAME_CFG : Reg := ⟨0x4, 0x40, 1, 0, 0x242, 0xFF07FF, 0x0, 0x0⟩
def HSP.FRAME_CFG_CMD16 : Fld := ⟨HSP.FRAME_CFG, 0, 1⟩
def HSP.FRAME_CFG_ADDR24 : Fld := ⟨HSP.FRAME_CFG, 1, 1⟩
def HSP.FRAME_CFG_DUMMY : Fld := ⟨HSP.FRAME_CFG, 2, 6⟩
def HSP.FRAME_CFG_WIDTH : Fld := ⟨HSP.FRAME_CFG, 8, 2⟩
def HSP.FRAME_CFG_CRC_EN : Fld := ⟨HSP.FRAME_CFG, 10, 1⟩
def HSP.FRAME_CFG_ADDR_HI : Fld := ⟨HSP.FRAME_CFG, 16, 8⟩
def HSP.LAST_FRAME : Reg := ⟨0x4, 0x44, 1, 0, 0x0, 0x0, 0x0, 0x0⟩
def HSP.LAST_FRAME_CODE : Fld := ⟨HSP.LAST_FRAME, 0, 5⟩
def HSP.LAST_FRAME_TAG : Fld := ⟨HSP.LAST_FRAME, 8, 8⟩
def HSP.LAST_FRAME_COMMAND : Fld := ⟨HSP.LAST_FRAME, 16, 8⟩
def HSP.LAST_FRAME_WRAP : Fld := ⟨HSP.LAST_FRAME, 24, 1⟩
def HSP.LAST_FRAME_FENCED : Fld := ⟨HSP.LAST_FRAME, 25, 1⟩
def HSP.LAST_FRAME_LOCKED : Fld := ⟨HSP.LAST_FRAME, 26, 1⟩
def HSP.LAST_FRAME_UNMAPPED : Fld := ⟨HSP.LAST_FRAME, 27, 1⟩
def HSP.LAST_FRAME_REFUSED : Fld := ⟨HSP.LAST_FRAME, 28, 1⟩
def HSP.LAST_FRAME_DISCARD : Fld := ⟨HSP.LAST_FRAME, 29, 1⟩
def HSP.LAST_ADDR : Reg := ⟨0x4, 0x48, 1, 0, 0x0, 0x0, 0x0, 0x0⟩
def HSP.LAST_ADDR_ADDR : Fld := ⟨HSP.LAST_ADDR, 0, 24⟩
def HSP.WORDS : Reg := ⟨0x4, 0x4C, 1, 0, 0x0, 0x0, 0x0, 0x0⟩
def HSP.WORDS_DONE : Fld := ⟨HSP.WORDS, 0, 16⟩
def HSP.WORDS_DROPPED : Fld := ⟨HSP.WORDS, 16, 16⟩
def HSP.FRAME_CNT : Reg := ⟨0x4, 0x50, 1, 0, 0x0, 0x0, 0x0, 0x0⟩
def HSP.FRAME_CNT_COUNT : Fld := ⟨HSP.FRAME_CNT, 0, 31⟩
def HSP.FRAME_CNT_OVF : Fld := ⟨HSP.FRAME_CNT, 31, 1⟩
def HSP.ERR_CNT : Reg := ⟨0x4, 0x54, 1, 0, 0x0, 0x0, 0x0, 0x0⟩
def HSP.ERR_CNT_COUNT : Fld := ⟨HSP.ERR_CNT, 0, 16⟩
def HSP.ERR_CNT_OVF : Fld := ⟨HSP.ERR_CNT, 16, 1⟩
def HSP.DISCARD_CNT : Reg := ⟨0x4, 0x58, 1, 0, 0x0, 0x0, 0x0, 0x0⟩
def HSP.DISCARD_CNT_COUNT : Fld := ⟨HSP.DISCARD_CNT, 0, 16⟩
def HSP.DISCARD_CNT_OVF : Fld := ⟨HSP.DISCARD_CNT, 16, 1⟩
def HSP.TIMEOUT : Reg := ⟨0x4, 0x5C, 1, 0, 0x10000, 0xFFFFF, 0x0, 0x0⟩
def HSP.TIMEOUT_PCLK : Fld := ⟨HSP.TIMEOUT, 0, 20⟩
def HSP.CNT_CLR : Reg := ⟨0x4, 0x60, 1, 0, 0x0, 0x0, 0x0, 0x0⟩
def HSP.CNT_CLR_FRAME : Fld := ⟨HSP.CNT_CLR, 0, 1⟩
def HSP.CNT_CLR_ERR : Fld := ⟨HSP.CNT_CLR, 1, 1⟩
def HSP.CNT_CLR_DISCARD : Fld := ⟨HSP.CNT_CLR, 2, 1⟩
def HSP.DEV_STATUS : Reg := ⟨0x4, 0x64, 1, 0, 0x0, 0x0, 0x0, 0x0⟩
def HSP.DEV_STATUS_MODE : Fld := ⟨HSP.DEV_STATUS, 0, 3⟩
def HSP.DEV_STATUS_BUSY : Fld := ⟨HSP.DEV_STATUS, 3, 1⟩
def HSP.DEV_STATUS_ENERGISED : Fld := ⟨HSP.DEV_STATUS, 4, 1⟩
def HSP.DEV_STATUS_IRQ0 : Fld := ⟨HSP.DEV_STATUS, 5, 1⟩
def HSP.DEV_STATUS_IRQ1 : Fld := ⟨HSP.DEV_STATUS, 6, 1⟩
def HSP.DEV_STATUS_ANY_FENCE : Fld := ⟨HSP.DEV_STATUS, 7, 1⟩

/-- The registers of the HSP page kind. -/
def HSP.all : List Reg :=
  [HSP.FRAME_CFG, HSP.LAST_FRAME, HSP.LAST_ADDR, HSP.WORDS, HSP.FRAME_CNT, HSP.ERR_CNT, HSP.DISCARD_CNT, HSP.TIMEOUT, HSP.CNT_CLR, HSP.DEV_STATUS]

def SEC.SEC_STAT : Reg := ⟨0x3, 0x40, 1, 0, 0x0, 0x0, 0x0, 0x0⟩
def SEC.SEC_STAT_LC : Fld := ⟨SEC.SEC_STAT, 0, 2⟩
def SEC.SEC_STAT_UNAUTH : Fld := ⟨SEC.SEC_STAT, 2, 1⟩
def SEC.SEC_STAT_LEVEL : Fld := ⟨SEC.SEC_STAT, 4, 2⟩
def SEC.SEC_STAT_LOCKOUT : Fld := ⟨SEC.SEC_STAT, 6, 1⟩
def SEC.SEC_STAT_HALTED : Fld := ⟨SEC.SEC_STAT, 7, 1⟩
def SEC.AUTH_STAT : Reg := ⟨0x3, 0x44, 1, 0, 0x0, 0x0, 0x0, 0x0⟩
def SEC.AUTH_STAT_CODE : Fld := ⟨SEC.AUTH_STAT, 0, 4⟩
def SEC.AUTH_STAT_KEY : Fld := ⟨SEC.AUTH_STAT, 4, 2⟩
def SEC.AUTH_STAT_SOURCE : Fld := ⟨SEC.AUTH_STAT, 6, 2⟩
def SEC.AUTH_STAT_SVN : Fld := ⟨SEC.AUTH_STAT, 8, 4⟩
def SEC.AUTH_STAT_SVN_MIN : Fld := ⟨SEC.AUTH_STAT, 12, 4⟩
def SEC.AUTH_STAT_REVOKED : Fld := ⟨SEC.AUTH_STAT, 16, 3⟩
def SEC.AUTH_STAT_PRESENT : Fld := ⟨SEC.AUTH_STAT, 20, 3⟩
def SEC.LC_ARM : Reg := ⟨0x3, 0x48, 1, 0, 0x0, 0x3, 0x0, 0x0⟩
def SEC.LC_ARM_TARGET : Fld := ⟨SEC.LC_ARM, 0, 2⟩
def SEC.LC_ARM_KEY : Fld := ⟨SEC.LC_ARM, 8, 8⟩
def SEC.LC_ARM_ARM : Fld := ⟨SEC.LC_ARM, 16, 1⟩
def SEC.LC_ARM_ARMED : Fld := ⟨SEC.LC_ARM, 17, 1⟩
def SEC.DBG_STAT : Reg := ⟨0x3, 0x4C, 1, 0, 0x0, 0x0, 0x0, 0x0⟩
def SEC.DBG_STAT_REQ : Fld := ⟨SEC.DBG_STAT, 0, 2⟩
def SEC.DBG_STAT_CODE : Fld := ⟨SEC.DBG_STAT, 4, 4⟩
def SEC.DBG_STAT_FAILS : Fld := ⟨SEC.DBG_STAT, 8, 4⟩
def SEC.DBG_STAT_SEQ : Fld := ⟨SEC.DBG_STAT, 16, 16⟩
def SEC.DBG_CHAL : Reg := ⟨0x3, 0x50, 8, 4, 0x0, 0x0, 0x0, 0x0⟩
def SEC.DBG_CHAL_BYTES : Fld := ⟨SEC.DBG_CHAL, 0, 32⟩
def SEC.BOOT_LOAD : Reg := ⟨0x3, 0x70, 1, 0, 0x0, 0x0, 0x0, 0x0⟩
def SEC.BOOT_LOAD_ADDR : Fld := ⟨SEC.BOOT_LOAD, 0, 24⟩
def SEC.BOOT_LOAD_GO : Fld := ⟨SEC.BOOT_LOAD, 31, 1⟩
def SEC.SWAP_SRC : Reg := ⟨0x3, 0x74, 1, 0, 0x0, 0xFFFFFF, 0x0, 0x0⟩
def SEC.SWAP_SRC_ADDR : Fld := ⟨SEC.SWAP_SRC, 0, 24⟩
def SEC.SWAP_CMD : Reg := ⟨0x3, 0x78, 1, 0, 0x0, 0x0, 0x0, 0x0⟩
def SEC.SWAP_CMD_KEY : Fld := ⟨SEC.SWAP_CMD, 0, 8⟩
def SEC.SWAP_CMD_CHECK : Fld := ⟨SEC.SWAP_CMD, 8, 1⟩
def SEC.SWAP_CMD_GO : Fld := ⟨SEC.SWAP_CMD, 9, 1⟩
def SEC.SWAP_STAT : Reg := ⟨0x3, 0x7C, 1, 0, 0x0, 0x0, 0x0, 0x0⟩
def SEC.SWAP_STAT_STATE : Fld := ⟨SEC.SWAP_STAT, 0, 3⟩
def SEC.SWAP_STAT_CODE : Fld := ⟨SEC.SWAP_STAT, 4, 4⟩
def SEC.SWAP_STAT_SVN : Fld := ⟨SEC.SWAP_STAT, 8, 4⟩
def SEC.SWAP_STAT_SEQ : Fld := ⟨SEC.SWAP_STAT, 16, 16⟩
def SEC.TRACE : Reg := ⟨0x3, 0x400, 256, 4, 0x0, 0x0, 0x0, 0x0⟩
def SEC.TRACE_PC : Fld := ⟨SEC.TRACE, 0, 32⟩

/-- The registers of the SEC page kind. -/
def SEC.all : List Reg :=
  [SEC.SEC_STAT, SEC.AUTH_STAT, SEC.LC_ARM, SEC.DBG_STAT, SEC.DBG_CHAL, SEC.BOOT_LOAD, SEC.SWAP_SRC, SEC.SWAP_CMD, SEC.SWAP_STAT, SEC.TRACE]

end Sys2Proof
end

