-- ==== Sys2Proof/Machine/RegsLeg.lean ====
section
/-!
DEFINITION. The registers of the pages EGA, LEG, as the register tables of 06_leg_pool_and_edge_generation (R158); 06_leg_pool_and_edge_generation (R159) give them: first page, offset, count and stride on the page, reset value, and the masks of the RW, RWL and W1C bits; then
each field as lowest bit and width. `<PAGE>.all` lists the registers of the page body.
-/

namespace Sys2Proof

def EGA.EGA_CTL : Reg := ⟨0xF, 0x40, 1, 0, 0x1002, 0xFF03, 0x0, 0x0⟩
def EGA.EGA_CTL_EN : Fld := ⟨EGA.EGA_CTL, 0, 1⟩
def EGA.EGA_CTL_DLL_EN : Fld := ⟨EGA.EGA_CTL, 1, 1⟩
def EGA.EGA_CTL_CHOP_LIMIT : Fld := ⟨EGA.EGA_CTL, 8, 8⟩
def EGA.EGA_STAT : Reg := ⟨0xF, 0x44, 1, 0, 0x0, 0x0, 0x0, 0x0⟩
def EGA.EGA_STAT_DLL_LOCK0 : Fld := ⟨EGA.EGA_STAT, 0, 1⟩
def EGA.EGA_STAT_DLL_LOCK1 : Fld := ⟨EGA.EGA_STAT, 1, 1⟩
def EGA.EGA_STAT_COARSE0 : Fld := ⟨EGA.EGA_STAT, 2, 1⟩
def EGA.EGA_STAT_COARSE1 : Fld := ⟨EGA.EGA_STAT, 3, 1⟩
def EGA.DLL_CODE0 : Reg := ⟨0xF, 0x48, 1, 0, 0x0, 0x0, 0x0, 0x0⟩
def EGA.DLL_CODE0_COARSE : Fld := ⟨EGA.DLL_CODE0, 0, 6⟩
def EGA.DLL_CODE0_FINE : Fld := ⟨EGA.DLL_CODE0, 8, 6⟩
def EGA.DLL_CODE1 : Reg := ⟨0xF, 0x4C, 1, 0, 0x0, 0x0, 0x0, 0x0⟩
def EGA.DLL_CODE1_COARSE : Fld := ⟨EGA.DLL_CODE1, 0, 6⟩
def EGA.DLL_CODE1_FINE : Fld := ⟨EGA.DLL_CODE1, 8, 6⟩
def EGA.GROUP_GO0 : Reg := ⟨0xF, 0x50, 1, 0, 0x0, 0x0, 0x0, 0x0⟩
def EGA.GROUP_GO0_LEG : Fld := ⟨EGA.GROUP_GO0, 0, 32⟩
def EGA.GROUP_GO1 : Reg := ⟨0xF, 0x54, 1, 0, 0x0, 0x0, 0x0, 0x0⟩
def EGA.GROUP_GO1_LEG : Fld := ⟨EGA.GROUP_GO1, 0, 32⟩
def EGA.OWN0 : Reg := ⟨0xF, 0x58, 1, 0, 0x0, 0x0, 0x0, 0x0⟩
def EGA.OWN0_LEG : Fld := ⟨EGA.OWN0, 0, 32⟩
def EGA.OWN1 : Reg := ⟨0xF, 0x5C, 1, 0, 0x0, 0x0, 0x0, 0x0⟩
def EGA.OWN1_LEG : Fld := ⟨EGA.OWN1, 0, 32⟩
def EGA.OVR0 : Reg := ⟨0xF, 0x60, 1, 0, 0x0, 0x0, 0x0, 0x0⟩
def EGA.OVR0_LEG : Fld := ⟨EGA.OVR0, 0, 32⟩
def EGA.OVR1 : Reg := ⟨0xF, 0x64, 1, 0, 0x0, 0x0, 0x0, 0x0⟩
def EGA.OVR1_LEG : Fld := ⟨EGA.OVR1, 0, 32⟩
def EGA.CHOPPING0 : Reg := ⟨0xF, 0x68, 1, 0, 0x0, 0x0, 0x0, 0x0⟩
def EGA.CHOPPING0_LEG : Fld := ⟨EGA.CHOPPING0, 0, 32⟩
def EGA.CHOPPING1 : Reg := ⟨0xF, 0x6C, 1, 0, 0x0, 0x0, 0x0, 0x0⟩
def EGA.CHOPPING1_LEG : Fld := ⟨EGA.CHOPPING1, 0, 32⟩
def EGA.TB_CFG : Reg := ⟨0xF, 0x100, 8, 64, 0x2, 0xFFFFFFF7, 0x0, 0x0⟩
def EGA.TB_CFG_EN : Fld := ⟨EGA.TB_CFG, 0, 1⟩
def EGA.TB_CFG_DOUBLE : Fld := ⟨EGA.TB_CFG, 1, 1⟩
def EGA.TB_CFG_LINK_EN : Fld := ⟨EGA.TB_CFG, 2, 1⟩
def EGA.TB_CFG_SYNC : Fld := ⟨EGA.TB_CFG, 4, 4⟩
def EGA.TB_CFG_SYNC_OFS : Fld := ⟨EGA.TB_CFG, 8, 24⟩
def EGA.TB_PERIOD : Reg := ⟨0xF, 0x104, 8, 64, 0xF4240, 0xFFFFFFFF, 0x0, 0x0⟩
def EGA.TB_PERIOD_VALUE : Fld := ⟨EGA.TB_PERIOD, 0, 32⟩
def EGA.TB_GO : Reg := ⟨0xF, 0x108, 8, 64, 0x0, 0x0, 0x0, 0x0⟩
def EGA.TB_GO_GO : Fld := ⟨EGA.TB_GO, 0, 1⟩
def EGA.TB_PERIOD_ACT : Reg := ⟨0xF, 0x10C, 8, 64, 0xF4240, 0x0, 0x0, 0x0⟩
def EGA.TB_PERIOD_ACT_VALUE : Fld := ⟨EGA.TB_PERIOD_ACT, 0, 32⟩
def EGA.TB_STAT : Reg := ⟨0xF, 0x110, 8, 64, 0x10, 0x0, 0x0, 0x700⟩
def EGA.TB_STAT_RUN : Fld := ⟨EGA.TB_STAT, 0, 1⟩
def EGA.TB_STAT_PEND : Fld := ⟨EGA.TB_STAT, 1, 1⟩
def EGA.TB_STAT_ARMED : Fld := ⟨EGA.TB_STAT, 2, 1⟩
def EGA.TB_STAT_LINK_WAIT : Fld := ⟨EGA.TB_STAT, 3, 1⟩
def EGA.TB_STAT_EXACT : Fld := ⟨EGA.TB_STAT, 4, 1⟩
def EGA.TB_STAT_LINK_TIMEOUT : Fld := ⟨EGA.TB_STAT, 8, 1⟩
def EGA.TB_STAT_SUPERSEDED : Fld := ⟨EGA.TB_STAT, 9, 1⟩
def EGA.TB_STAT_SYNC_LOST : Fld := ⟨EGA.TB_STAT, 10, 1⟩
def EGA.TB_MCOUNT : Reg := ⟨0xF, 0x114, 8, 64, 0x0, 0x0, 0x0, 0x0⟩
def EGA.TB_MCOUNT_COUNT : Fld := ⟨EGA.TB_MCOUNT, 0, 32⟩
def EGA.TB_MTS_LO : Reg := ⟨0xF, 0x118, 8, 64, 0x0, 0x0, 0x0, 0x0⟩
def EGA.TB_MTS_LO_VALUE : Fld := ⟨EGA.TB_MTS_LO, 0, 32⟩
def EGA.TB_MTS_HI : Reg := ⟨0xF, 0x11C, 8, 64, 0x0, 0x0, 0x0, 0x0⟩
def EGA.TB_MTS_HI_VALUE : Fld := ⟨EGA.TB_MTS_HI, 0, 32⟩

/-- The registers of the EGA page kind. -/
def EGA.all : List Reg :=
  [EGA.EGA_CTL, EGA.EGA_STAT, EGA.DLL_CODE0, EGA.DLL_CODE1, EGA.GROUP_GO0, EGA.GROUP_GO1, EGA.OWN0, EGA.OWN1, EGA.OVR0, EGA.OVR1, EGA.CHOPPING0, EGA.CHOPPING1, EGA.TB_CFG, EGA.TB_PERIOD, EGA.TB_GO, EGA.TB_PERIOD_ACT, EGA.TB_STAT, EGA.TB_MCOUNT, EGA.TB_MTS_LO, EGA.TB_MTS_HI]

def LEG.LEG_CFG : Reg := ⟨0x20, 0x40, 1, 0, 0x0, 0xFFFF37F7, 0x0, 0x0⟩
def LEG.LEG_CFG_TB : Fld := ⟨LEG.LEG_CFG, 0, 3⟩
def LEG.LEG_CFG_FORM : Fld := ⟨LEG.LEG_CFG, 4, 2⟩
def LEG.LEG_CFG_FORMAT : Fld := ⟨LEG.LEG_CFG, 6, 1⟩
def LEG.LEG_CFG_LINK : Fld := ⟨LEG.LEG_CFG, 7, 1⟩
def LEG.LEG_CFG_CHOP_EN : Fld := ⟨LEG.LEG_CFG, 8, 1⟩
def LEG.LEG_CFG_CHOP_MODE : Fld := ⟨LEG.LEG_CFG, 9, 1⟩
def LEG.LEG_CFG_CHOP_REL : Fld := ⟨LEG.LEG_CFG, 10, 1⟩
def LEG.LEG_CFG_SAFE_PAT : Fld := ⟨LEG.LEG_CFG, 12, 2⟩
def LEG.LEG_CFG_STAGGER : Fld := ⟨LEG.LEG_CFG, 16, 16⟩
def LEG.LEG_STAT : Reg := ⟨0x20, 0x44, 1, 0, 0x1000, 0x0, 0x0, 0x0⟩
def LEG.LEG_STAT_OWNER : Fld := ⟨LEG.LEG_STAT, 0, 2⟩
def LEG.LEG_STAT_AXIS : Fld := ⟨LEG.LEG_STAT, 2, 5⟩
def LEG.LEG_STAT_STAGED : Fld := ⟨LEG.LEG_STAT, 8, 1⟩
def LEG.LEG_STAT_PEND : Fld := ⟨LEG.LEG_STAT, 9, 1⟩
def LEG.LEG_STAT_FRESH : Fld := ⟨LEG.LEG_STAT, 10, 1⟩
def LEG.LEG_STAT_CLAMPED : Fld := ⟨LEG.LEG_STAT, 11, 1⟩
def LEG.LEG_STAT_PAD : Fld := ⟨LEG.LEG_STAT, 12, 2⟩
def LEG.LEG_STAT_OVR_SRC : Fld := ⟨LEG.LEG_STAT, 14, 2⟩
def LEG.LEG_STAT_CHOPPING : Fld := ⟨LEG.LEG_STAT, 16, 1⟩
def LEG.LEG_STAT_COARSE : Fld := ⟨LEG.LEG_STAT, 17, 1⟩
def LEG.LEG_STAT_FLT_LOW : Fld := ⟨LEG.LEG_STAT, 18, 1⟩
def LEG.LEG_CMP1 : Reg := ⟨0x20, 0x48, 1, 0, 0x0, 0xFFFFFFFF, 0x0, 0x0⟩
def LEG.LEG_CMP1_VALUE : Fld := ⟨LEG.LEG_CMP1, 0, 32⟩
def LEG.LEG_CMP2 : Reg := ⟨0x20, 0x4C, 1, 0, 0x0, 0xFFFFFFFF, 0x0, 0x0⟩
def LEG.LEG_CMP2_VALUE : Fld := ⟨LEG.LEG_CMP2, 0, 32⟩
def LEG.LEG_UPD : Reg := ⟨0x20, 0x50, 1, 0, 0x0, 0x0, 0x0, 0x0⟩
def LEG.LEG_UPD_GO : Fld := ⟨LEG.LEG_UPD, 0, 1⟩
def LEG.LEG_ACT1 : Reg := ⟨0x20, 0x54, 1, 0, 0x0, 0x0, 0x0, 0x0⟩
def LEG.LEG_ACT1_VALUE : Fld := ⟨LEG.LEG_ACT1, 0, 32⟩
def LEG.LEG_ACT2 : Reg := ⟨0x20, 0x58, 1, 0, 0x0, 0x0, 0x0, 0x0⟩
def LEG.LEG_ACT2_VALUE : Fld := ⟨LEG.LEG_ACT2, 0, 32⟩
def LEG.LEG_DT : Reg := ⟨0x20, 0x5C, 1, 0, 0x32003E80, 0xFF11FFFF, 0x0, 0x0⟩
def LEG.LEG_DT_DT_FLOOR : Fld := ⟨LEG.LEG_DT, 0, 17⟩
def LEG.LEG_DT_ADAPT_EN : Fld := ⟨LEG.LEG_DT, 20, 1⟩
def LEG.LEG_DT_MIN_PULSE : Fld := ⟨LEG.LEG_DT, 24, 8⟩
def LEG.LEG_FLT : Reg := ⟨0x20, 0x60, 1, 0, 0x108, 0x1FF, 0x0, 0x0⟩
def LEG.LEG_FLT_FILT : Fld := ⟨LEG.LEG_FLT, 0, 8⟩
def LEG.LEG_FLT_EN : Fld := ⟨LEG.LEG_FLT, 8, 1⟩
def LEG.LEG_FLT_RELEASE : Fld := ⟨LEG.LEG_FLT, 16, 1⟩
def LEG.LEG_FLT_HELD : Fld := ⟨LEG.LEG_FLT, 24, 1⟩
def LEG.LEG_CHOP_CNT : Reg := ⟨0x20, 0x64, 1, 0, 0x0, 0x0, 0x0, 0x0⟩
def LEG.LEG_CHOP_CNT_COUNT : Fld := ⟨LEG.LEG_CHOP_CNT, 0, 16⟩
def LEG.LEG_CHOP_CNT_OVF : Fld := ⟨LEG.LEG_CHOP_CNT, 16, 1⟩
def LEG.LEG_CHOP_CNT_CLR : Fld := ⟨LEG.LEG_CHOP_CNT, 31, 1⟩
def LEG.LEG_SUPP_CNT : Reg := ⟨0x20, 0x68, 1, 0, 0x0, 0x0, 0x0, 0x0⟩
def LEG.LEG_SUPP_CNT_COUNT : Fld := ⟨LEG.LEG_SUPP_CNT, 0, 16⟩
def LEG.LEG_SUPP_CNT_OVF : Fld := ⟨LEG.LEG_SUPP_CNT, 16, 1⟩
def LEG.LEG_SUPP_CNT_CLR : Fld := ⟨LEG.LEG_SUPP_CNT, 31, 1⟩
def LEG.LEG_SUPER_CNT : Reg := ⟨0x20, 0x6C, 1, 0, 0x0, 0x0, 0x0, 0x0⟩
def LEG.LEG_SUPER_CNT_COUNT : Fld := ⟨LEG.LEG_SUPER_CNT, 0, 16⟩
def LEG.LEG_SUPER_CNT_OVF : Fld := ⟨LEG.LEG_SUPER_CNT, 16, 1⟩
def LEG.LEG_SUPER_CNT_CLR : Fld := ⟨LEG.LEG_SUPER_CNT, 31, 1⟩
def LEG.LEG_TRIM : Reg := ⟨0x20, 0x70, 1, 0, 0x0, 0x0, 0x0, 0x0⟩
def LEG.LEG_TRIM_TRIM : Fld := ⟨LEG.LEG_TRIM, 0, 6⟩

/-- The registers of the LEG page kind. -/
def LEG.all : List Reg :=
  [LEG.LEG_CFG, LEG.LEG_STAT, LEG.LEG_CMP1, LEG.LEG_CMP2, LEG.LEG_UPD, LEG.LEG_ACT1, LEG.LEG_ACT2, LEG.LEG_DT, LEG.LEG_FLT, LEG.LEG_CHOP_CNT, LEG.LEG_SUPP_CNT, LEG.LEG_SUPER_CNT, LEG.LEG_TRIM]

end Sys2Proof
end

