-- ==== Sys2Proof/Machine/RegsLoop.lean ====
section
/-!
DEFINITION. The registers of the pages LEA, LE, LC, as the register tables of 09_loop_engine_array (R249); 09_loop_engine_array (R250); 09_loop_engine_array (R251) give them: first page, offset, count and stride on the page, reset value, and the masks of the RW, RWL and W1C bits; then
each field as lowest bit and width. `<PAGE>.all` lists the registers of the page body.
-/

namespace Sys2Proof

def LEA.LEA_STAT : Reg := ⟨0xC, 0x40, 1, 0, 0x0, 0x0, 0x0, 0x0⟩
def LEA.LEA_STAT_FENCED : Fld := ⟨LEA.LEA_STAT, 0, 8⟩
def LEA.LEA_STAT_BOUND : Fld := ⟨LEA.LEA_STAT, 8, 8⟩
def LEA.LEA_STAT_COVERED : Fld := ⟨LEA.LEA_STAT, 16, 8⟩
def LEA.LEA_STAT_PLAN_BUSY : Fld := ⟨LEA.LEA_STAT, 24, 1⟩
def LEA.ADM_LAST : Reg := ⟨0xC, 0x44, 1, 0, 0x0, 0x0, 0x0, 0x0⟩
def LEA.ADM_LAST_REASON : Fld := ⟨LEA.ADM_LAST, 0, 4⟩
def LEA.ADM_LAST_ENG : Fld := ⟨LEA.ADM_LAST, 8, 3⟩
def LEA.ADM_LAST_ROLE : Fld := ⟨LEA.ADM_LAST, 12, 3⟩
def LEA.ADM_LAST_PROG : Fld := ⟨LEA.ADM_LAST, 16, 8⟩
def LEA.ADM_LAST_TB : Fld := ⟨LEA.ADM_LAST, 28, 3⟩
def LEA.ADM_CTX : Reg := ⟨0xC, 0x48, 1, 0, 0x0, 0x0, 0x0, 0x0⟩
def LEA.ADM_CTX_CTX : Fld := ⟨LEA.ADM_CTX, 0, 8⟩
def LEA.ADM_CTX_SLOT : Fld := ⟨LEA.ADM_CTX, 8, 19⟩
def LEA.CTX_FREE_CNT : Reg := ⟨0xC, 0x4C, 1, 0, 0x0, 0x0, 0x0, 0x0⟩
def LEA.CTX_FREE_CNT_COUNT : Fld := ⟨LEA.CTX_FREE_CNT, 0, 8⟩
def LEA.DUAL_CNT : Reg := ⟨0xC, 0x50, 1, 0, 0x0, 0x0, 0x0, 0x0⟩
def LEA.DUAL_CNT_COUNT : Fld := ⟨LEA.DUAL_CNT, 0, 16⟩
def LEA.DUAL_CNT_OVF : Fld := ⟨LEA.DUAL_CNT, 16, 1⟩
def LEA.DUAL_CNT_CLR : Fld := ⟨LEA.DUAL_CNT, 31, 1⟩
def LEA.MIG_CNT : Reg := ⟨0xC, 0x54, 1, 0, 0x0, 0x0, 0x0, 0x0⟩
def LEA.MIG_CNT_COUNT : Fld := ⟨LEA.MIG_CNT, 0, 16⟩
def LEA.MIG_CNT_OVF : Fld := ⟨LEA.MIG_CNT, 16, 1⟩
def LEA.MIG_CNT_CLR : Fld := ⟨LEA.MIG_CNT, 31, 1⟩
def LEA.TB_CFG : Reg := ⟨0xC, 0x80, 8, 4, 0x0, 0xFFFFF, 0x0, 0x0⟩
def LEA.TB_CFG_LEAD : Fld := ⟨LEA.TB_CFG, 0, 16⟩
def LEA.TB_CFG_DUAL : Fld := ⟨LEA.TB_CFG, 16, 4⟩
def LEA.TB_SCNT : Reg := ⟨0xC, 0xA0, 8, 4, 0x0, 0x0, 0x0, 0x0⟩
def LEA.TB_SCNT_COUNT : Fld := ⟨LEA.TB_SCNT, 0, 32⟩

/-- The registers of the LEA page kind. -/
def LEA.all : List Reg :=
  [LEA.LEA_STAT, LEA.ADM_LAST, LEA.ADM_CTX, LEA.CTX_FREE_CNT, LEA.DUAL_CNT, LEA.MIG_CNT, LEA.TB_CFG, LEA.TB_SCNT]

def LE.ENG_STAT : Reg := ⟨0x1E0, 0x40, 1, 0, 0x0, 0x0, 0x0, 0x0⟩
def LE.ENG_STAT_BOUND : Fld := ⟨LE.ENG_STAT, 0, 1⟩
def LE.ENG_STAT_TB : Fld := ⟨LE.ENG_STAT, 4, 3⟩
def LE.ENG_STAT_FENCED : Fld := ⟨LE.ENG_STAT, 8, 1⟩
def LE.ENG_STAT_COVERED : Fld := ⟨LE.ENG_STAT, 9, 1⟩
def LE.ENG_STAT_CTXS : Fld := ⟨LE.ENG_STAT, 16, 8⟩
def LE.ENG_STAT_LOAD : Fld := ⟨LE.ENG_STAT, 24, 8⟩
def LE.ENG_NSLOT : Reg := ⟨0x1E0, 0x44, 1, 0, 0x0, 0x0, 0x0, 0x0⟩
def LE.ENG_NSLOT_N : Fld := ⟨LE.ENG_NSLOT, 0, 19⟩
def LE.ENG_PLAN : Reg := ⟨0x1E0, 0x48, 1, 0, 0xFF, 0x0, 0x0, 0x0⟩
def LE.ENG_PLAN_UNPLACED : Fld := ⟨LE.ENG_PLAN, 0, 8⟩
def LE.ENG_STORE_CORR : Reg := ⟨0x1E0, 0x4C, 1, 0, 0x0, 0x0, 0x0, 0x0⟩
def LE.ENG_STORE_CORR_COUNT : Fld := ⟨LE.ENG_STORE_CORR, 0, 16⟩
def LE.ENG_STORE_CORR_OVF : Fld := ⟨LE.ENG_STORE_CORR, 16, 1⟩
def LE.ENG_STORE_CORR_CLR : Fld := ⟨LE.ENG_STORE_CORR, 31, 1⟩
def LE.ENG_RUNS_LO : Reg := ⟨0x1E0, 0x50, 1, 0, 0x0, 0x0, 0x0, 0x0⟩
def LE.ENG_RUNS_LO_VALUE : Fld := ⟨LE.ENG_RUNS_LO, 0, 32⟩
def LE.ENG_RUNS_HI : Reg := ⟨0x1E0, 0x54, 1, 0, 0x0, 0x0, 0x0, 0x0⟩
def LE.ENG_RUNS_HI_VALUE : Fld := ⟨LE.ENG_RUNS_HI, 0, 32⟩

/-- The registers of the LE page kind. -/
def LE.all : List Reg :=
  [LE.ENG_STAT, LE.ENG_NSLOT, LE.ENG_PLAN, LE.ENG_STORE_CORR, LE.ENG_RUNS_LO, LE.ENG_RUNS_HI]

def LC.LC_HANDLE : Reg := ⟨0x140, 0x40, 1, 0, 0x0, 0x0, 0x0, 0x0⟩
def LC.LC_HANDLE_HANDLE : Fld := ⟨LC.LC_HANDLE, 0, 16⟩
def LC.LC_HANDLE_VALID : Fld := ⟨LC.LC_HANDLE, 16, 1⟩
def LC.LC_CFG : Reg := ⟨0x140, 0x44, 1, 0, 0x0, 0x0, 0x0, 0x0⟩
def LC.LC_CFG_PROG : Fld := ⟨LC.LC_CFG, 0, 8⟩
def LC.LC_CFG_AXIS : Fld := ⟨LC.LC_CFG, 8, 5⟩
def LC.LC_CFG_ROLE : Fld := ⟨LC.LC_CFG, 13, 3⟩
def LC.LC_CFG_DIVL : Fld := ⟨LC.LC_CFG, 16, 4⟩
def LC.LC_CFG_PHASE : Fld := ⟨LC.LC_CFG, 20, 8⟩
def LC.LC_CFG_DUAL : Fld := ⟨LC.LC_CFG, 28, 1⟩
def LC.LC_CFG_SETS : Fld := ⟨LC.LC_CFG, 29, 3⟩
def LC.LC_SLOT : Reg := ⟨0x140, 0x48, 1, 0, 0x0, 0x0, 0x0, 0x0⟩
def LC.LC_SLOT_SLOT : Fld := ⟨LC.LC_SLOT, 0, 19⟩
def LC.LC_SLOT_ENG : Fld := ⟨LC.LC_SLOT, 20, 3⟩
def LC.LC_SLOT_ENG2 : Fld := ⟨LC.LC_SLOT, 24, 3⟩
def LC.LC_SLOT_TB : Fld := ⟨LC.LC_SLOT, 28, 3⟩
def LC.LC_CTL : Reg := ⟨0x140, 0x4C, 1, 0, 0x0, 0x0, 0x0, 0x0⟩
def LC.LC_CTL_HANDLE : Fld := ⟨LC.LC_CTL, 0, 16⟩
def LC.LC_CTL_SWAP : Fld := ⟨LC.LC_CTL, 16, 1⟩
def LC.LC_CTL_XFER : Fld := ⟨LC.LC_CTL, 17, 1⟩
def LC.LC_CTL_TO_MANUAL : Fld := ⟨LC.LC_CTL, 18, 1⟩
def LC.LC_CTL_MAN_PRESET : Fld := ⟨LC.LC_CTL, 19, 1⟩
def LC.LC_CTL_RAMP_RESTART : Fld := ⟨LC.LC_CTL, 20, 1⟩
def LC.LC_STAT : Reg := ⟨0x140, 0x50, 1, 0, 0x0, 0x0, 0x0, 0x100⟩
def LC.LC_STAT_ST : Fld := ⟨LC.LC_STAT, 0, 3⟩
def LC.LC_STAT_MODE : Fld := ⟨LC.LC_STAT, 3, 1⟩
def LC.LC_STAT_SWAP_PEND : Fld := ⟨LC.LC_STAT, 4, 1⟩
def LC.LC_STAT_XFER_PEND : Fld := ⟨LC.LC_STAT, 5, 1⟩
def LC.LC_STAT_RAMPING : Fld := ⟨LC.LC_STAT, 6, 1⟩
def LC.LC_STAT_DUAL_LOST : Fld := ⟨LC.LC_STAT, 7, 1⟩
def LC.LC_STAT_ACC_OVF : Fld := ⟨LC.LC_STAT, 8, 1⟩
def LC.LC_STAT_LIMITED : Fld := ⟨LC.LC_STAT, 9, 1⟩
def LC.LC_STAT_BUS_LOW : Fld := ⟨LC.LC_STAT, 10, 1⟩
def LC.LC_STAT_PL_EXCEED : Fld := ⟨LC.LC_STAT, 11, 1⟩
def LC.LC_STAT_SWAP_SEQ : Fld := ⟨LC.LC_STAT, 16, 8⟩
def LC.LC_TS_LO : Reg := ⟨0x140, 0x54, 1, 0, 0x0, 0x0, 0x0, 0x0⟩
def LC.LC_TS_LO_VALUE : Fld := ⟨LC.LC_TS_LO, 0, 32⟩
def LC.LC_TS_HI : Reg := ⟨0x140, 0x58, 1, 0, 0x0, 0x0, 0x0, 0x0⟩
def LC.LC_TS_HI_VALUE : Fld := ⟨LC.LC_TS_HI, 0, 32⟩
def LC.LC_RUNS : Reg := ⟨0x140, 0x60, 1, 0, 0x0, 0x0, 0x0, 0x0⟩
def LC.LC_RUNS_COUNT : Fld := ⟨LC.LC_RUNS, 0, 16⟩
def LC.LC_RUNS_OVF : Fld := ⟨LC.LC_RUNS, 16, 1⟩
def LC.LC_RUNS_CLR : Fld := ⟨LC.LC_RUNS, 31, 1⟩
def LC.LC_MISS : Reg := ⟨0x140, 0x64, 1, 0, 0x0, 0x0, 0x0, 0x0⟩
def LC.LC_MISS_COUNT : Fld := ⟨LC.LC_MISS, 0, 16⟩
def LC.LC_MISS_OVF : Fld := ⟨LC.LC_MISS, 16, 1⟩
def LC.LC_MISS_CLR : Fld := ⟨LC.LC_MISS, 31, 1⟩
def LC.LC_DUAL_CNT : Reg := ⟨0x140, 0x68, 1, 0, 0x0, 0x0, 0x0, 0x0⟩
def LC.LC_DUAL_CNT_COUNT : Fld := ⟨LC.LC_DUAL_CNT, 0, 16⟩
def LC.LC_DUAL_CNT_OVF : Fld := ⟨LC.LC_DUAL_CNT, 16, 1⟩
def LC.LC_DUAL_CNT_CLR : Fld := ⟨LC.LC_DUAL_CNT, 31, 1⟩
def LC.LC_MAN : Reg := ⟨0x140, 0x6C, 1, 0, 0x0, 0xFFFFFFFF, 0x0, 0x0⟩
def LC.LC_MAN_OUT0 : Fld := ⟨LC.LC_MAN, 0, 16⟩
def LC.LC_MAN_OUT1 : Fld := ⟨LC.LC_MAN, 16, 16⟩
def LC.LC_RAMP : Reg := ⟨0x140, 0x70, 1, 0, 0x0, 0xFFFFFFFF, 0x0, 0x0⟩
def LC.LC_RAMP_RATE : Fld := ⟨LC.LC_RAMP, 0, 31⟩
def LC.LC_RAMP_EN : Fld := ⟨LC.LC_RAMP, 31, 1⟩
def LC.LC_SP : Reg := ⟨0x140, 0x74, 1, 0, 0x0, 0x0, 0x0, 0x0⟩
def LC.LC_SP_TARGET : Fld := ⟨LC.LC_SP, 0, 16⟩
def LC.LC_SP_NOW : Fld := ⟨LC.LC_SP, 16, 16⟩
def LC.LC_PL : Reg := ⟨0x140, 0x78, 1, 0, 0x0, 0x0, 0x0, 0x0⟩
def LC.LC_PL_RESID : Fld := ⟨LC.LC_PL, 0, 16⟩
def LC.LC_PL_TH : Fld := ⟨LC.LC_PL, 16, 16⟩
def LC.LC_PL_CNT : Reg := ⟨0x140, 0x7C, 1, 0, 0x0, 0x0, 0x0, 0x0⟩
def LC.LC_PL_CNT_COUNT : Fld := ⟨LC.LC_PL_CNT, 0, 16⟩
def LC.LC_PL_CNT_OVF : Fld := ⟨LC.LC_PL_CNT, 16, 1⟩
def LC.LC_PL_CNT_CLR : Fld := ⟨LC.LC_PL_CNT, 31, 1⟩
def LC.LC_TM : Reg := ⟨0x140, 0x80, 1, 0, 0x0, 0x1, 0x0, 0x0⟩
def LC.LC_TM_EN : Fld := ⟨LC.LC_TM, 0, 1⟩

/-- The registers of the LC page kind. -/
def LC.all : List Reg :=
  [LC.LC_HANDLE, LC.LC_CFG, LC.LC_SLOT, LC.LC_CTL, LC.LC_STAT, LC.LC_TS_LO, LC.LC_TS_HI, LC.LC_RUNS, LC.LC_MISS, LC.LC_DUAL_CNT, LC.LC_MAN, LC.LC_RAMP, LC.LC_SP, LC.LC_PL, LC.LC_PL_CNT, LC.LC_TM]

end Sys2Proof
end

