-- ==== Sys2Proof/Machine/RegsMemory.lean ====
section
/-!
DEFINITION. The registers of the pages TCU, MEM, BK, QRE, RG, as the register tables of 12_tuning_injection_and_capture (R328); 13_memory_banks_and_rings (R353); 13_memory_banks_and_rings (R354); 13_memory_banks_and_rings (R355); 13_memory_banks_and_rings (R356) give them: first page, offset, count and stride on the page, reset value, and the masks of the RW, RWL and W1C bits; then
each field as lowest bit and width. `<PAGE>.all` lists the registers of the page body.
-/

namespace Sys2Proof

def TCU.TCU_CTL : Reg := ⟨0xD, 0x40, 1, 0, 0x1, 0x1, 0x2, 0x0⟩
def TCU.TCU_CTL_EN : Fld := ⟨TCU.TCU_CTL, 0, 1⟩
def TCU.TCU_CTL_RUN_INJ : Fld := ⟨TCU.TCU_CTL, 1, 1⟩
def TCU.TCU_LIM : Reg := ⟨0xD, 0x44, 1, 0, 0x666, 0x0, 0xFFFF, 0x0⟩
def TCU.TCU_LIM_AMP_MAX : Fld := ⟨TCU.TCU_LIM, 0, 16⟩
def TCU.TCU_STAT : Reg := ⟨0xD, 0x48, 1, 0, 0x0, 0x0, 0x0, 0x0⟩
def TCU.TCU_STAT_ACTIVE : Fld := ⟨TCU.TCU_STAT, 0, 4⟩
def TCU.TCU_STAT_INJ : Fld := ⟨TCU.TCU_STAT, 4, 4⟩
def TCU.SES_CFG : Reg := ⟨0xD, 0x100, 4, 128, 0x1000, 0x7FF00F, 0x0, 0x0⟩
def TCU.SES_CFG_DEC : Fld := ⟨TCU.SES_CFG, 0, 4⟩
def TCU.SES_CFG_NSIG : Fld := ⟨TCU.SES_CFG, 12, 4⟩
def TCU.SES_CFG_TRIG_SRC : Fld := ⟨TCU.SES_CFG, 16, 3⟩
def TCU.SES_CFG_TRIG_EDGE : Fld := ⟨TCU.SES_CFG, 19, 1⟩
def TCU.SES_CFG_GEN_START : Fld := ⟨TCU.SES_CFG, 20, 1⟩
def TCU.SES_CFG_GATE : Fld := ⟨TCU.SES_CFG, 21, 1⟩
def TCU.SES_CFG_INJ_EN : Fld := ⟨TCU.SES_CFG, 22, 1⟩
def TCU.SES_CTX : Reg := ⟨0xD, 0x104, 4, 128, 0x0, 0xFFFFFFFF, 0x0, 0x0⟩
def TCU.SES_CTX_CLK : Fld := ⟨TCU.SES_CTX, 0, 16⟩
def TCU.SES_CTX_INJ : Fld := ⟨TCU.SES_CTX, 16, 16⟩
def TCU.SES_INJ : Reg := ⟨0xD, 0x108, 4, 128, 0x700, 0x1FF0F3F, 0x0, 0x0⟩
def TCU.SES_INJ_POINT : Fld := ⟨TCU.SES_INJ, 0, 4⟩
def TCU.SES_INJ_GEN : Fld := ⟨TCU.SES_INJ, 4, 2⟩
def TCU.SES_INJ_ORDER : Fld := ⟨TCU.SES_INJ, 8, 4⟩
def TCU.SES_INJ_HOLD : Fld := ⟨TCU.SES_INJ, 16, 8⟩
def TCU.SES_INJ_LOG : Fld := ⟨TCU.SES_INJ, 24, 1⟩
def TCU.SES_AMP : Reg := ⟨0xD, 0x10C, 4, 128, 0x0, 0xFFFFFFFF, 0x0, 0x0⟩
def TCU.SES_AMP_AMP : Fld := ⟨TCU.SES_AMP, 0, 16⟩
def TCU.SES_AMP_FADE : Fld := ⟨TCU.SES_AMP, 16, 16⟩
def TCU.SES_PINC : Reg := ⟨0xD, 0x110, 4, 128, 0x0, 0xFFFFFFFF, 0x0, 0x0⟩
def TCU.SES_PINC_PINC : Fld := ⟨TCU.SES_PINC, 0, 32⟩
def TCU.SES_PINC2 : Reg := ⟨0xD, 0x114, 4, 128, 0x0, 0xFFFFFFFF, 0x0, 0x0⟩
def TCU.SES_PINC2_PINC2 : Fld := ⟨TCU.SES_PINC2, 0, 32⟩
def TCU.SES_STEP : Reg := ⟨0xD, 0x118, 4, 128, 0x1, 0xFF, 0x0, 0x0⟩
def TCU.SES_STEP_STEPS : Fld := ⟨TCU.SES_STEP, 0, 8⟩
def TCU.SES_DUR : Reg := ⟨0xD, 0x11C, 4, 128, 0x10000, 0xFFFFFFFF, 0x0, 0x0⟩
def TCU.SES_DUR_SETTLE : Fld := ⟨TCU.SES_DUR, 0, 16⟩
def TCU.SES_DUR_MEAS : Fld := ⟨TCU.SES_DUR, 16, 16⟩
def TCU.SES_CHIRP : Reg := ⟨0xD, 0x120, 4, 128, 0x0, 0xFFFFFFFF, 0x0, 0x0⟩
def TCU.SES_CHIRP_DURATION : Fld := ⟨TCU.SES_CHIRP, 0, 32⟩
def TCU.SES_SIG01 : Reg := ⟨0xD, 0x124, 4, 128, 0x0, 0xFFFFFFFF, 0x0, 0x0⟩
def TCU.SES_SIG01_SIG_2j : Fld := ⟨TCU.SES_SIG01, 0, 16⟩
def TCU.SES_SIG01_SIG_2j_1 : Fld := ⟨TCU.SES_SIG01, 16, 16⟩
def TCU.SES_SIG23 : Reg := ⟨0xD, 0x128, 4, 128, 0x0, 0xFFFFFFFF, 0x0, 0x0⟩
def TCU.SES_SIG23_SIG_2j : Fld := ⟨TCU.SES_SIG23, 0, 16⟩
def TCU.SES_SIG23_SIG_2j_1 : Fld := ⟨TCU.SES_SIG23, 16, 16⟩
def TCU.SES_SIG45 : Reg := ⟨0xD, 0x12C, 4, 128, 0x0, 0xFFFFFFFF, 0x0, 0x0⟩
def TCU.SES_SIG45_SIG_2j : Fld := ⟨TCU.SES_SIG45, 0, 16⟩
def TCU.SES_SIG45_SIG_2j_1 : Fld := ⟨TCU.SES_SIG45, 16, 16⟩
def TCU.SES_SIG67 : Reg := ⟨0xD, 0x130, 4, 128, 0x0, 0xFFFFFFFF, 0x0, 0x0⟩
def TCU.SES_SIG67_SIG_2j : Fld := ⟨TCU.SES_SIG67, 0, 16⟩
def TCU.SES_SIG67_SIG_2j_1 : Fld := ⟨TCU.SES_SIG67, 16, 16⟩
def TCU.SES_TRIG : Reg := ⟨0xD, 0x134, 4, 128, 0xFF0000, 0xFFFFFF, 0x0, 0x0⟩
def TCU.SES_TRIG_LEVEL : Fld := ⟨TCU.SES_TRIG, 0, 16⟩
def TCU.SES_TRIG_SRC : Fld := ⟨TCU.SES_TRIG, 16, 8⟩
def TCU.SES_BUF : Reg := ⟨0xD, 0x138, 4, 128, 0x200000, 0xFFFFFF, 0x0, 0x0⟩
def TCU.SES_BUF_BASE : Fld := ⟨TCU.SES_BUF, 0, 24⟩
def TCU.SES_LEN : Reg := ⟨0xD, 0x13C, 4, 128, 0x0, 0x7FFFF, 0x0, 0x0⟩
def TCU.SES_LEN_LEN : Fld := ⟨TCU.SES_LEN, 0, 19⟩
def TCU.SES_POST : Reg := ⟨0xD, 0x140, 4, 128, 0x0, 0x7FFFF, 0x0, 0x0⟩
def TCU.SES_POST_POST : Fld := ⟨TCU.SES_POST, 0, 19⟩
def TCU.SES_CMD : Reg := ⟨0xD, 0x144, 4, 128, 0x0, 0x0, 0x0, 0x0⟩
def TCU.SES_CMD_ARM : Fld := ⟨TCU.SES_CMD, 0, 1⟩
def TCU.SES_CMD_TRIG : Fld := ⟨TCU.SES_CMD, 1, 1⟩
def TCU.SES_CMD_STOP : Fld := ⟨TCU.SES_CMD, 2, 1⟩
def TCU.SES_CMD_CLEAR : Fld := ⟨TCU.SES_CMD, 3, 1⟩
def TCU.SES_STAT : Reg := ⟨0xD, 0x148, 4, 128, 0x0, 0x0, 0x0, 0x0⟩
def TCU.SES_STAT_STATE : Fld := ⟨TCU.SES_STAT, 0, 3⟩
def TCU.SES_STAT_CAUSE : Fld := ⟨TCU.SES_STAT, 4, 3⟩
def TCU.SES_STAT_INJ_ACTIVE : Fld := ⟨TCU.SES_STAT, 8, 1⟩
def TCU.SES_STAT_WRAPPED : Fld := ⟨TCU.SES_STAT, 9, 1⟩
def TCU.SES_STAT_STEP : Fld := ⟨TCU.SES_STAT, 16, 8⟩
def TCU.SES_WPTR : Reg := ⟨0xD, 0x14C, 4, 128, 0x0, 0x0, 0x0, 0x0⟩
def TCU.SES_WPTR_NEXT : Fld := ⟨TCU.SES_WPTR, 0, 19⟩
def TCU.SES_TRIG_REC : Reg := ⟨0xD, 0x150, 4, 128, 0x0, 0x0, 0x0, 0x0⟩
def TCU.SES_TRIG_REC_INDEX : Fld := ⟨TCU.SES_TRIG_REC, 0, 19⟩
def TCU.SES_PRE : Reg := ⟨0xD, 0x154, 4, 128, 0x0, 0x0, 0x0, 0x0⟩
def TCU.SES_PRE_PRE_OK : Fld := ⟨TCU.SES_PRE, 0, 19⟩
def TCU.SES_TS_LO : Reg := ⟨0xD, 0x158, 4, 128, 0x0, 0x0, 0x0, 0x0⟩
def TCU.SES_TS_LO_VALUE : Fld := ⟨TCU.SES_TS_LO, 0, 32⟩
def TCU.SES_TS_HI : Reg := ⟨0xD, 0x15C, 4, 128, 0x0, 0x0, 0x0, 0x0⟩
def TCU.SES_TS_HI_VALUE : Fld := ⟨TCU.SES_TS_HI, 0, 32⟩
def TCU.SES_OVR_CNT : Reg := ⟨0xD, 0x160, 4, 128, 0x0, 0x0, 0x0, 0x0⟩
def TCU.SES_OVR_CNT_COUNT : Fld := ⟨TCU.SES_OVR_CNT, 0, 16⟩
def TCU.SES_OVR_CNT_OVF : Fld := ⟨TCU.SES_OVR_CNT, 16, 1⟩
def TCU.SES_OVR_CNT_CLR : Fld := ⟨TCU.SES_OVR_CNT, 31, 1⟩
def TCU.SES_GAP_CNT : Reg := ⟨0xD, 0x164, 4, 128, 0x0, 0x0, 0x0, 0x0⟩
def TCU.SES_GAP_CNT_COUNT : Fld := ⟨TCU.SES_GAP_CNT, 0, 16⟩
def TCU.SES_GAP_CNT_OVF : Fld := ⟨TCU.SES_GAP_CNT, 16, 1⟩
def TCU.SES_GAP_CNT_CLR : Fld := ⟨TCU.SES_GAP_CNT, 31, 1⟩

/-- The registers of the TCU page kind. -/
def TCU.all : List Reg :=
  [TCU.TCU_CTL, TCU.TCU_LIM, TCU.TCU_STAT, TCU.SES_CFG, TCU.SES_CTX, TCU.SES_INJ, TCU.SES_AMP, TCU.SES_PINC, TCU.SES_PINC2, TCU.SES_STEP, TCU.SES_DUR, TCU.SES_CHIRP, TCU.SES_SIG01, TCU.SES_SIG23, TCU.SES_SIG45, TCU.SES_SIG67, TCU.SES_TRIG, TCU.SES_BUF, TCU.SES_LEN, TCU.SES_POST, TCU.SES_CMD, TCU.SES_STAT, TCU.SES_WPTR, TCU.SES_TRIG_REC, TCU.SES_PRE, TCU.SES_TS_LO, TCU.SES_TS_HI, TCU.SES_OVR_CNT, TCU.SES_GAP_CNT]

def MEM.MEM_CTL : Reg := ⟨0xA, 0x40, 1, 0, 0x31F, 0x11F, 0x200, 0x0⟩
def MEM.MEM_CTL_STRIPE_EN : Fld := ⟨MEM.MEM_CTL, 0, 5⟩
def MEM.MEM_CTL_SCRUB_EN : Fld := ⟨MEM.MEM_CTL, 8, 1⟩
def MEM.MEM_CTL_HOST_HANDOVER : Fld := ⟨MEM.MEM_CTL, 9, 1⟩
def MEM.MEM_STAT : Reg := ⟨0xA, 0x44, 1, 0, 0x100, 0x0, 0x0, 0x0⟩
def MEM.MEM_STAT_STRIPE_BUSY : Fld := ⟨MEM.MEM_STAT, 0, 5⟩
def MEM.MEM_STAT_INIT_BUSY : Fld := ⟨MEM.MEM_STAT, 8, 1⟩
def MEM.SCRUB_CFG : Reg := ⟨0xA, 0x48, 1, 0, 0x64, 0xFFFF, 0x0, 0x0⟩
def MEM.SCRUB_CFG_PERIOD : Fld := ⟨MEM.SCRUB_CFG, 0, 16⟩
def MEM.READY_LO : Reg := ⟨0xA, 0x4C, 1, 0, 0x0, 0x0, 0x0, 0x0⟩
def MEM.READY_LO_BANK : Fld := ⟨MEM.READY_LO, 0, 32⟩
def MEM.READY_HI : Reg := ⟨0xA, 0x50, 1, 0, 0x0, 0x0, 0x0, 0x0⟩
def MEM.READY_HI_BANK : Fld := ⟨MEM.READY_HI, 0, 32⟩
def MEM.TWI_LO : Reg := ⟨0xA, 0x54, 1, 0, 0x0, 0x0, 0x0, 0x0⟩
def MEM.TWI_LO_BANK : Fld := ⟨MEM.TWI_LO, 0, 32⟩
def MEM.TWI_HI : Reg := ⟨0xA, 0x58, 1, 0, 0x0, 0x0, 0x0, 0x0⟩
def MEM.TWI_HI_BANK : Fld := ⟨MEM.TWI_HI, 0, 32⟩
def MEM.QUAR_LO : Reg := ⟨0xA, 0x5C, 1, 0, 0x0, 0x0, 0x0, 0x0⟩
def MEM.QUAR_LO_BANK : Fld := ⟨MEM.QUAR_LO, 0, 32⟩
def MEM.QUAR_HI : Reg := ⟨0xA, 0x60, 1, 0, 0x0, 0x0, 0x0, 0x0⟩
def MEM.QUAR_HI_BANK : Fld := ⟨MEM.QUAR_HI, 0, 32⟩
def MEM.CORR_CNT : Reg := ⟨0xA, 0x64, 1, 0, 0x0, 0x0, 0x0, 0x0⟩
def MEM.CORR_CNT_COUNT : Fld := ⟨MEM.CORR_CNT, 0, 16⟩
def MEM.CORR_CNT_OVF : Fld := ⟨MEM.CORR_CNT, 16, 1⟩
def MEM.CORR_CNT_CLR : Fld := ⟨MEM.CORR_CNT, 31, 1⟩
def MEM.REBUILT_CNT : Reg := ⟨0xA, 0x68, 1, 0, 0x0, 0x0, 0x0, 0x0⟩
def MEM.REBUILT_CNT_COUNT : Fld := ⟨MEM.REBUILT_CNT, 0, 16⟩
def MEM.REBUILT_CNT_OVF : Fld := ⟨MEM.REBUILT_CNT, 16, 1⟩
def MEM.REBUILT_CNT_CLR : Fld := ⟨MEM.REBUILT_CNT, 31, 1⟩
def MEM.UNCORR_CNT : Reg := ⟨0xA, 0x6C, 1, 0, 0x0, 0x0, 0x0, 0x0⟩
def MEM.UNCORR_CNT_COUNT : Fld := ⟨MEM.UNCORR_CNT, 0, 16⟩
def MEM.UNCORR_CNT_OVF : Fld := ⟨MEM.UNCORR_CNT, 16, 1⟩
def MEM.UNCORR_CNT_CLR : Fld := ⟨MEM.UNCORR_CNT, 31, 1⟩
def MEM.ERR_ADDR : Reg := ⟨0xA, 0x70, 1, 0, 0x0, 0x0, 0x0, 0x80000000⟩
def MEM.ERR_ADDR_ADDR : Fld := ⟨MEM.ERR_ADDR, 0, 24⟩
def MEM.ERR_ADDR_VALID : Fld := ⟨MEM.ERR_ADDR, 31, 1⟩

/-- The registers of the MEM page kind. -/
def MEM.all : List Reg :=
  [MEM.MEM_CTL, MEM.MEM_STAT, MEM.SCRUB_CFG, MEM.READY_LO, MEM.READY_HI, MEM.TWI_LO, MEM.TWI_HI, MEM.QUAR_LO, MEM.QUAR_HI, MEM.CORR_CNT, MEM.REBUILT_CNT, MEM.UNCORR_CNT, MEM.ERR_ADDR]

def BK.BANK_OWN : Reg := ⟨0x110, 0x40, 1, 0, 0x0, 0x7, 0x0, 0x0⟩
def BK.BANK_OWN_OWNER : Fld := ⟨BK.BANK_OWN, 0, 3⟩
def BK.BANK_STAT : Reg := ⟨0x110, 0x44, 1, 0, 0x8, 0x0, 0x0, 0x10⟩
def BK.BANK_STAT_READY : Fld := ⟨BK.BANK_STAT, 0, 1⟩
def BK.BANK_STAT_PWR : Fld := ⟨BK.BANK_STAT, 1, 3⟩
def BK.BANK_STAT_OFFERED : Fld := ⟨BK.BANK_STAT, 4, 1⟩
def BK.BANK_STAT_STRIPE : Fld := ⟨BK.BANK_STAT, 8, 3⟩
def BK.BANK_STAT_RINGS : Fld := ⟨BK.BANK_STAT, 16, 8⟩
def BK.BANK_STAT_SESSIONS : Fld := ⟨BK.BANK_STAT, 24, 4⟩
def BK.BANK_PWR : Reg := ⟨0x110, 0x48, 1, 0, 0x0, 0x1, 0x0, 0x0⟩
def BK.BANK_PWR_TWI : Fld := ⟨BK.BANK_PWR, 0, 1⟩
def BK.BANK_CORR : Reg := ⟨0x110, 0x4C, 1, 0, 0x0, 0x0, 0x0, 0x0⟩
def BK.BANK_CORR_COUNT : Fld := ⟨BK.BANK_CORR, 0, 16⟩
def BK.BANK_CORR_OVF : Fld := ⟨BK.BANK_CORR, 16, 1⟩
def BK.BANK_CORR_CLR : Fld := ⟨BK.BANK_CORR, 31, 1⟩
def BK.BANK_REBUILT : Reg := ⟨0x110, 0x50, 1, 0, 0x0, 0x0, 0x0, 0x0⟩
def BK.BANK_REBUILT_COUNT : Fld := ⟨BK.BANK_REBUILT, 0, 16⟩
def BK.BANK_REBUILT_OVF : Fld := ⟨BK.BANK_REBUILT, 16, 1⟩
def BK.BANK_REBUILT_CLR : Fld := ⟨BK.BANK_REBUILT, 31, 1⟩
def BK.BANK_UNCORR : Reg := ⟨0x110, 0x54, 1, 0, 0x0, 0x0, 0x0, 0x0⟩
def BK.BANK_UNCORR_COUNT : Fld := ⟨BK.BANK_UNCORR, 0, 16⟩
def BK.BANK_UNCORR_OVF : Fld := ⟨BK.BANK_UNCORR, 16, 1⟩
def BK.BANK_UNCORR_CLR : Fld := ⟨BK.BANK_UNCORR, 31, 1⟩
def BK.BANK_ERR : Reg := ⟨0x110, 0x58, 1, 0, 0x0, 0x0, 0x0, 0x80000000⟩
def BK.BANK_ERR_OFFSET : Fld := ⟨BK.BANK_ERR, 0, 16⟩
def BK.BANK_ERR_VALID : Fld := ⟨BK.BANK_ERR, 31, 1⟩

/-- The registers of the BK page kind. -/
def BK.all : List Reg :=
  [BK.BANK_OWN, BK.BANK_STAT, BK.BANK_PWR, BK.BANK_CORR, BK.BANK_REBUILT, BK.BANK_UNCORR, BK.BANK_ERR]

def QRE.QRE_CTL : Reg := ⟨0xB, 0x40, 1, 0, 0x1, 0x1, 0x0, 0x0⟩
def QRE.QRE_CTL_EN : Fld := ⟨QRE.QRE_CTL, 0, 1⟩
def QRE.LIVE_LO : Reg := ⟨0xB, 0x44, 1, 0, 0x0, 0x0, 0x0, 0x0⟩
def QRE.LIVE_LO_RING : Fld := ⟨QRE.LIVE_LO, 0, 32⟩
def QRE.LIVE_HI : Reg := ⟨0xB, 0x48, 1, 0, 0x0, 0x0, 0x0, 0x0⟩
def QRE.LIVE_HI_RING : Fld := ⟨QRE.LIVE_HI, 0, 32⟩
def QRE.FROZEN_LO : Reg := ⟨0xB, 0x4C, 1, 0, 0x0, 0x0, 0x0, 0x0⟩
def QRE.FROZEN_LO_RING : Fld := ⟨QRE.FROZEN_LO, 0, 32⟩
def QRE.FROZEN_HI : Reg := ⟨0xB, 0x50, 1, 0, 0x0, 0x0, 0x0, 0x0⟩
def QRE.FROZEN_HI_RING : Fld := ⟨QRE.FROZEN_HI, 0, 32⟩
def QRE.SPU_RH : Reg := ⟨0xB, 0x60, 1, 0, 0x0, 0xFFFF, 0x0, 0x0⟩
def QRE.SPU_RH_HANDLE : Fld := ⟨QRE.SPU_RH, 0, 16⟩
def QRE.SPU_RDATA : Reg := ⟨0xB, 0x64, 1, 0, 0x0, 0xFFFFFFFF, 0x0, 0x0⟩
def QRE.SPU_RDATA_DATA : Fld := ⟨QRE.SPU_RDATA, 0, 32⟩
def QRE.SPU_RSTAT : Reg := ⟨0xB, 0x68, 1, 0, 0x0, 0x0, 0x0, 0x0⟩
def QRE.SPU_RSTAT_CODE : Fld := ⟨QRE.SPU_RSTAT, 0, 4⟩
def QRE.SPU_RSTAT_WORD : Fld := ⟨QRE.SPU_RSTAT, 16, 9⟩

/-- The registers of the QRE page kind. -/
def QRE.all : List Reg :=
  [QRE.QRE_CTL, QRE.LIVE_LO, QRE.LIVE_HI, QRE.FROZEN_LO, QRE.FROZEN_HI, QRE.SPU_RH, QRE.SPU_RDATA, QRE.SPU_RSTAT]

def RG.RG_HANDLE : Reg := ⟨0xD0, 0x40, 1, 0, 0x0, 0x0, 0x0, 0x0⟩
def RG.RG_HANDLE_HANDLE : Fld := ⟨RG.RG_HANDLE, 0, 16⟩
def RG.RG_HANDLE_VALID : Fld := ⟨RG.RG_HANDLE, 16, 1⟩
def RG.RG_CFG : Reg := ⟨0xD0, 0x44, 1, 0, 0x10100, 0x3FF0F37, 0x0, 0x0⟩
def RG.RG_CFG_TYPE : Fld := ⟨RG.RG_CFG, 0, 3⟩
def RG.RG_CFG_POLICY : Fld := ⟨RG.RG_CFG, 4, 2⟩
def RG.RG_CFG_DLOG : Fld := ⟨RG.RG_CFG, 8, 4⟩
def RG.RG_CFG_ESIZE : Fld := ⟨RG.RG_CFG, 16, 10⟩
def RG.RG_ENDS : Reg := ⟨0xD0, 0x48, 1, 0, 0x0, 0xFF, 0x0, 0x0⟩
def RG.RG_ENDS_PROD : Fld := ⟨RG.RG_ENDS, 0, 4⟩
def RG.RG_ENDS_CONS : Fld := ⟨RG.RG_ENDS, 4, 4⟩
def RG.RG_BASE : Reg := ⟨0xD0, 0x4C, 1, 0, 0x200000, 0xFFFFFF, 0x0, 0x0⟩
def RG.RG_BASE_BASE : Fld := ⟨RG.RG_BASE, 0, 24⟩
def RG.RG_CTL : Reg := ⟨0xD0, 0x50, 1, 0, 0x0, 0x0, 0x0, 0x0⟩
def RG.RG_CTL_HANDLE : Fld := ⟨RG.RG_CTL, 0, 16⟩
def RG.RG_CTL_CREATE : Fld := ⟨RG.RG_CTL, 16, 1⟩
def RG.RG_CTL_DESTROY : Fld := ⟨RG.RG_CTL, 17, 1⟩
def RG.RG_CTL_THAW : Fld := ⟨RG.RG_CTL, 18, 1⟩
def RG.RG_WIDX : Reg := ⟨0xD0, 0x54, 1, 0, 0x0, 0x0, 0x0, 0x0⟩
def RG.RG_WIDX_INDEX : Fld := ⟨RG.RG_WIDX, 0, 16⟩
def RG.RG_RIDX : Reg := ⟨0xD0, 0x58, 1, 0, 0x0, 0x0, 0x0, 0x0⟩
def RG.RG_RIDX_INDEX : Fld := ⟨RG.RG_RIDX, 0, 16⟩
def RG.RG_FILL : Reg := ⟨0xD0, 0x5C, 1, 0, 0x0, 0x0, 0x0, 0x0⟩
def RG.RG_FILL_OCC : Fld := ⟨RG.RG_FILL, 0, 13⟩
def RG.RG_FILL_CREDIT : Fld := ⟨RG.RG_FILL, 16, 13⟩
def RG.RG_STAT : Reg := ⟨0xD0, 0x60, 1, 0, 0x0, 0x0, 0x0, 0x0⟩
def RG.RG_STAT_STATE : Fld := ⟨RG.RG_STAT, 0, 2⟩
def RG.RG_STAT_FULL : Fld := ⟨RG.RG_STAT, 4, 1⟩
def RG.RG_STAT_MARK : Fld := ⟨RG.RG_STAT, 5, 1⟩
def RG.RG_STAT_ATTACHED : Fld := ⟨RG.RG_STAT, 6, 1⟩
def RG.RG_STAT_FRZ_SRC : Fld := ⟨RG.RG_STAT, 8, 8⟩
def RG.RG_IN_CNT : Reg := ⟨0xD0, 0x64, 1, 0, 0x0, 0x0, 0x0, 0x0⟩
def RG.RG_IN_CNT_COUNT : Fld := ⟨RG.RG_IN_CNT, 0, 16⟩
def RG.RG_IN_CNT_OVF : Fld := ⟨RG.RG_IN_CNT, 16, 1⟩
def RG.RG_IN_CNT_CLR : Fld := ⟨RG.RG_IN_CNT, 31, 1⟩
def RG.RG_LOST : Reg := ⟨0xD0, 0x68, 1, 0, 0x0, 0x0, 0x0, 0x0⟩
def RG.RG_LOST_COUNT : Fld := ⟨RG.RG_LOST, 0, 16⟩
def RG.RG_LOST_OVF : Fld := ⟨RG.RG_LOST, 16, 1⟩
def RG.RG_LOST_CLR : Fld := ⟨RG.RG_LOST, 31, 1⟩
def RG.RG_SPV0 : Reg := ⟨0xD0, 0x70, 1, 0, 0x0, 0x0, 0x0, 0x0⟩
def RG.RG_SPV0_VALUE : Fld := ⟨RG.RG_SPV0, 0, 32⟩
def RG.RG_SPV1 : Reg := ⟨0xD0, 0x74, 1, 0, 0x0, 0x0, 0x0, 0x0⟩
def RG.RG_SPV1_VALUE : Fld := ⟨RG.RG_SPV1, 0, 32⟩
def RG.RG_SPV2 : Reg := ⟨0xD0, 0x78, 1, 0, 0x0, 0x0, 0x0, 0x0⟩
def RG.RG_SPV2_VALUE : Fld := ⟨RG.RG_SPV2, 0, 32⟩

/-- The registers of the RG page kind. -/
def RG.all : List Reg :=
  [RG.RG_HANDLE, RG.RG_CFG, RG.RG_ENDS, RG.RG_BASE, RG.RG_CTL, RG.RG_WIDX, RG.RG_RIDX, RG.RG_FILL, RG.RG_STAT, RG.RG_IN_CNT, RG.RG_LOST, RG.RG_SPV0, RG.RG_SPV1, RG.RG_SPV2]

end Sys2Proof
end

