-- ==== Sys2Proof/Machine/RegsPort.lean ====
section
/-!
DEFINITION. The registers of the pages XSP, ETH, CAN, as the register tables of 05_expansion_port_and_networks (R125); 05_expansion_port_and_networks (R126) give them: first page, offset, count and stride on the page, reset value, and the masks of the RW, RWL and W1C bits; then
each field as lowest bit and width. `<PAGE>.all` lists the registers of the page body.
-/

namespace Sys2Proof

def XSP.CTL : Reg := ⟨0x5, 0x40, 1, 0, 0x0, 0x71, 0x0, 0x0⟩
def XSP.CTL_EN : Fld := ⟨XSP.CTL, 0, 1⟩
def XSP.CTL_TRIG_TB : Fld := ⟨XSP.CTL, 4, 3⟩
def XSP.STAT : Reg := ⟨0x5, 0x44, 1, 0, 0x0, 0x0, 0x0, 0x0⟩
def XSP.STAT_BUSY : Fld := ⟨XSP.STAT, 0, 1⟩
def XSP.STAT_SEL : Fld := ⟨XSP.STAT, 1, 3⟩
def XSP.STAT_SW_WAIT : Fld := ⟨XSP.STAT, 4, 1⟩
def XSP.STAT_DESC : Fld := ⟨XSP.STAT, 8, 4⟩
def XSP.GO : Reg := ⟨0x5, 0x48, 1, 0, 0x0, 0x0, 0x0, 0x0⟩
def XSP.GO_DESC : Fld := ⟨XSP.GO, 0, 4⟩
def XSP.GO_GO : Fld := ⟨XSP.GO, 8, 1⟩
def XSP.PROF_CLK : Reg := ⟨0x5, 0x80, 8, 8, 0x80008, 0x3FF03FF, 0x0, 0x0⟩
def XSP.PROF_CLK_DIV : Fld := ⟨XSP.PROF_CLK, 0, 8⟩
def XSP.PROF_CLK_CPOL : Fld := ⟨XSP.PROF_CLK, 8, 1⟩
def XSP.PROF_CLK_CPHA : Fld := ⟨XSP.PROF_CLK, 9, 1⟩
def XSP.PROF_CLK_IDLE : Fld := ⟨XSP.PROF_CLK, 16, 10⟩
def XSP.PROF_DLY : Reg := ⟨0x5, 0x84, 8, 8, 0x202, 0xFFFF, 0x0, 0x0⟩
def XSP.PROF_DLY_LEAD : Fld := ⟨XSP.PROF_DLY, 0, 8⟩
def XSP.PROF_DLY_LAG : Fld := ⟨XSP.PROF_DLY, 8, 8⟩
def XSP.XD_FRAME : Reg := ⟨0x5, 0x100, 16, 32, 0x120000, 0xFF33F3F, 0x0, 0x0⟩
def XSP.XD_FRAME_SEL : Fld := ⟨XSP.XD_FRAME, 0, 3⟩
def XSP.XD_FRAME_CMD16 : Fld := ⟨XSP.XD_FRAME, 3, 1⟩
def XSP.XD_FRAME_ADDR_W : Fld := ⟨XSP.XD_FRAME, 4, 2⟩
def XSP.XD_FRAME_DUMMY : Fld := ⟨XSP.XD_FRAME, 8, 6⟩
def XSP.XD_FRAME_WIDTH : Fld := ⟨XSP.XD_FRAME, 16, 2⟩
def XSP.XD_FRAME_WORDS : Fld := ⟨XSP.XD_FRAME, 20, 4⟩
def XSP.XD_FRAME_DIR : Fld := ⟨XSP.XD_FRAME, 24, 1⟩
def XSP.XD_FRAME_CRC_EN : Fld := ⟨XSP.XD_FRAME, 25, 1⟩
def XSP.XD_FRAME_DEST : Fld := ⟨XSP.XD_FRAME, 26, 2⟩
def XSP.XD_CMD : Reg := ⟨0x5, 0x104, 16, 32, 0x0, 0xFFFF, 0x0, 0x0⟩
def XSP.XD_CMD_CMD : Fld := ⟨XSP.XD_CMD, 0, 16⟩
def XSP.XD_ADDR : Reg := ⟨0x5, 0x108, 16, 32, 0x0, 0xFFFFFFFF, 0x0, 0x0⟩
def XSP.XD_ADDR_ADDR : Fld := ⟨XSP.XD_ADDR, 0, 24⟩
def XSP.XD_ADDR_DEST_IDX : Fld := ⟨XSP.XD_ADDR, 24, 8⟩
def XSP.XD_TRIG : Reg := ⟨0x5, 0x10C, 16, 32, 0x0, 0xAFFFFFFF, 0x0, 0x0⟩
def XSP.XD_TRIG_OFFSET : Fld := ⟨XSP.XD_TRIG, 0, 26⟩
def XSP.XD_TRIG_SRC : Fld := ⟨XSP.XD_TRIG, 26, 2⟩
def XSP.XD_TRIG_AM : Fld := ⟨XSP.XD_TRIG, 29, 1⟩
def XSP.XD_TRIG_EN : Fld := ⟨XSP.XD_TRIG, 31, 1⟩
def XSP.XD_STAT : Reg := ⟨0x5, 0x110, 16, 32, 0x0, 0x0, 0x0, 0x1⟩
def XSP.XD_STAT_DONE : Fld := ⟨XSP.XD_STAT, 0, 1⟩
def XSP.XD_STAT_MISS : Fld := ⟨XSP.XD_STAT, 8, 8⟩
def XSP.XD_STAT_CRC_ERR : Fld := ⟨XSP.XD_STAT, 16, 8⟩
def XSP.XD_STAT_MISS_OVF : Fld := ⟨XSP.XD_STAT, 24, 1⟩
def XSP.XD_STAT_CRC_OVF : Fld := ⟨XSP.XD_STAT, 25, 1⟩
def XSP.XD_STAT_CLR : Fld := ⟨XSP.XD_STAT, 31, 1⟩
def XSP.XD_TS_LO : Reg := ⟨0x5, 0x114, 16, 32, 0x0, 0x0, 0x0, 0x0⟩
def XSP.XD_TS_LO_VALUE : Fld := ⟨XSP.XD_TS_LO, 0, 32⟩
def XSP.XD_TS_HI : Reg := ⟨0x5, 0x118, 16, 32, 0x0, 0x0, 0x0, 0x0⟩
def XSP.XD_TS_HI_VALUE : Fld := ⟨XSP.XD_TS_HI, 0, 32⟩
def XSP.XBUF : Reg := ⟨0x5, 0x400, 256, 4, 0x0, 0xFFFFFFFF, 0x0, 0x0⟩
def XSP.XBUF_DATA : Fld := ⟨XSP.XBUF, 0, 32⟩

/-- The registers of the XSP page kind. -/
def XSP.all : List Reg :=
  [XSP.CTL, XSP.STAT, XSP.GO, XSP.PROF_CLK, XSP.PROF_DLY, XSP.XD_FRAME, XSP.XD_CMD, XSP.XD_ADDR, XSP.XD_TRIG, XSP.XD_STAT, XSP.XD_TS_LO, XSP.XD_TS_HI, XSP.XBUF]

def ETH.MAC_CTL : Reg := ⟨0x6, 0x40, 1, 0, 0x2, 0xF, 0x0, 0x0⟩
def ETH.MAC_CTL_EN : Fld := ⟨ETH.MAC_CTL, 0, 1⟩
def ETH.MAC_CTL_SPEED : Fld := ⟨ETH.MAC_CTL, 1, 1⟩
def ETH.MAC_CTL_RX_EN : Fld := ⟨ETH.MAC_CTL, 2, 1⟩
def ETH.MAC_CTL_TX_EN : Fld := ⟨ETH.MAC_CTL, 3, 1⟩
def ETH.MAC_ADDR_LO : Reg := ⟨0x6, 0x44, 1, 0, 0x0, 0xFFFFFFFF, 0x0, 0x0⟩
def ETH.MAC_ADDR_LO_ADDR : Fld := ⟨ETH.MAC_ADDR_LO, 0, 32⟩
def ETH.MAC_ADDR_HI : Reg := ⟨0x6, 0x48, 1, 0, 0x0, 0xFFFF, 0x0, 0x0⟩
def ETH.MAC_ADDR_HI_ADDR : Fld := ⟨ETH.MAC_ADDR_HI, 0, 16⟩
def ETH.ETH_TX_RING : Reg := ⟨0x6, 0x4C, 1, 0, 0x0, 0xFFFF, 0x0, 0x0⟩
def ETH.ETH_TX_RING_HANDLE : Fld := ⟨ETH.ETH_TX_RING, 0, 16⟩
def ETH.MDIO_CTL : Reg := ⟨0x6, 0x50, 1, 0, 0x0, 0xFFF, 0x0, 0x0⟩
def ETH.MDIO_CTL_PHY : Fld := ⟨ETH.MDIO_CTL, 0, 5⟩
def ETH.MDIO_CTL_REG : Fld := ⟨ETH.MDIO_CTL, 5, 5⟩
def ETH.MDIO_CTL_WRITE : Fld := ⟨ETH.MDIO_CTL, 10, 1⟩
def ETH.MDIO_CTL_POLL : Fld := ⟨ETH.MDIO_CTL, 11, 1⟩
def ETH.MDIO_CTL_GO : Fld := ⟨ETH.MDIO_CTL, 12, 1⟩
def ETH.MDIO_CTL_BUSY : Fld := ⟨ETH.MDIO_CTL, 13, 1⟩
def ETH.MDIO_DATA : Reg := ⟨0x6, 0x54, 1, 0, 0x0, 0xFFFF, 0x0, 0x0⟩
def ETH.MDIO_DATA_DATA : Fld := ⟨ETH.MDIO_DATA, 0, 16⟩
def ETH.ETH_STAT : Reg := ⟨0x6, 0x58, 1, 0, 0x0, 0x0, 0x0, 0x0⟩
def ETH.ETH_STAT_LINK : Fld := ⟨ETH.ETH_STAT, 0, 1⟩
def ETH.ETH_RX_FRAMES : Reg := ⟨0x6, 0x60, 1, 0, 0x0, 0x0, 0x0, 0x0⟩
def ETH.ETH_RX_FRAMES_COUNT : Fld := ⟨ETH.ETH_RX_FRAMES, 0, 31⟩
def ETH.ETH_RX_FRAMES_OVF : Fld := ⟨ETH.ETH_RX_FRAMES, 31, 1⟩
def ETH.ETH_RX_DROP : Reg := ⟨0x6, 0x64, 1, 0, 0x0, 0x0, 0x0, 0x0⟩
def ETH.ETH_RX_DROP_COUNT : Fld := ⟨ETH.ETH_RX_DROP, 0, 31⟩
def ETH.ETH_RX_DROP_OVF : Fld := ⟨ETH.ETH_RX_DROP, 31, 1⟩
def ETH.ETH_RX_ERR : Reg := ⟨0x6, 0x68, 1, 0, 0x0, 0x0, 0x0, 0x0⟩
def ETH.ETH_RX_ERR_COUNT : Fld := ⟨ETH.ETH_RX_ERR, 0, 31⟩
def ETH.ETH_RX_ERR_OVF : Fld := ⟨ETH.ETH_RX_ERR, 31, 1⟩
def ETH.ETH_TX_FRAMES : Reg := ⟨0x6, 0x6C, 1, 0, 0x0, 0x0, 0x0, 0x0⟩
def ETH.ETH_TX_FRAMES_COUNT : Fld := ⟨ETH.ETH_TX_FRAMES, 0, 31⟩
def ETH.ETH_TX_FRAMES_OVF : Fld := ⟨ETH.ETH_TX_FRAMES, 31, 1⟩
def ETH.ETH_PAUSE : Reg := ⟨0x6, 0x70, 1, 0, 0x0, 0x0, 0x0, 0x0⟩
def ETH.ETH_PAUSE_COUNT : Fld := ⟨ETH.ETH_PAUSE, 0, 31⟩
def ETH.ETH_PAUSE_OVF : Fld := ⟨ETH.ETH_PAUSE, 31, 1⟩
def ETH.ETH_FLT : Reg := ⟨0x6, 0x80, 8, 8, 0x0, 0x8003FFFF, 0x0, 0x0⟩
def ETH.ETH_FLT_ETYPE : Fld := ⟨ETH.ETH_FLT, 0, 16⟩
def ETH.ETH_FLT_DA : Fld := ⟨ETH.ETH_FLT, 16, 2⟩
def ETH.ETH_FLT_EN : Fld := ⟨ETH.ETH_FLT, 31, 1⟩
def ETH.ETH_FLT_RING : Reg := ⟨0x6, 0x84, 8, 8, 0x0, 0xFFFF, 0x0, 0x0⟩
def ETH.ETH_FLT_RING_HANDLE : Fld := ⟨ETH.ETH_FLT_RING, 0, 16⟩
def ETH.CNT_CLR : Reg := ⟨0x6, 0x7C, 1, 0, 0x0, 0x0, 0x0, 0x0⟩
def ETH.CNT_CLR_CLR : Fld := ⟨ETH.CNT_CLR, 0, 1⟩

/-- The registers of the ETH page kind. -/
def ETH.all : List Reg :=
  [ETH.MAC_CTL, ETH.MAC_ADDR_LO, ETH.MAC_ADDR_HI, ETH.ETH_TX_RING, ETH.MDIO_CTL, ETH.MDIO_DATA, ETH.ETH_STAT, ETH.ETH_RX_FRAMES, ETH.ETH_RX_DROP, ETH.ETH_RX_ERR, ETH.ETH_TX_FRAMES, ETH.ETH_PAUSE, ETH.ETH_FLT, ETH.ETH_FLT_RING, ETH.CNT_CLR]

def CAN.CAN_CTL : Reg := ⟨0x7, 0x40, 1, 0, 0x26, 0x3F, 0x0, 0x0⟩
def CAN.CAN_CTL_EN : Fld := ⟨CAN.CAN_CTL, 0, 1⟩
def CAN.CAN_CTL_FD_EN : Fld := ⟨CAN.CAN_CTL, 1, 1⟩
def CAN.CAN_CTL_BRS_EN : Fld := ⟨CAN.CAN_CTL, 2, 1⟩
def CAN.CAN_CTL_OPMODE : Fld := ⟨CAN.CAN_CTL, 3, 2⟩
def CAN.CAN_CTL_AUTO_REC : Fld := ⟨CAN.CAN_CTL, 5, 1⟩
def CAN.CAN_CTL_RECOVER : Fld := ⟨CAN.CAN_CTL, 6, 1⟩
def CAN.CAN_NBT : Reg := ⟨0x7, 0x44, 1, 0, 0x0, 0x7F7FFFFF, 0x0, 0x0⟩
def CAN.CAN_NBT_BRP : Fld := ⟨CAN.CAN_NBT, 0, 8⟩
def CAN.CAN_NBT_TSEG1 : Fld := ⟨CAN.CAN_NBT, 8, 8⟩
def CAN.CAN_NBT_TSEG2 : Fld := ⟨CAN.CAN_NBT, 16, 7⟩
def CAN.CAN_NBT_SJW : Fld := ⟨CAN.CAN_NBT, 24, 7⟩
def CAN.CAN_DBT : Reg := ⟨0x7, 0x48, 1, 0, 0x0, 0xF0F1F1F, 0x0, 0x0⟩
def CAN.CAN_DBT_BRP : Fld := ⟨CAN.CAN_DBT, 0, 5⟩
def CAN.CAN_DBT_TSEG1 : Fld := ⟨CAN.CAN_DBT, 8, 5⟩
def CAN.CAN_DBT_TSEG2 : Fld := ⟨CAN.CAN_DBT, 16, 4⟩
def CAN.CAN_DBT_SJW : Fld := ⟨CAN.CAN_DBT, 24, 4⟩
def CAN.CAN_TDC : Reg := ⟨0x7, 0x4C, 1, 0, 0x80, 0xFF, 0x0, 0x0⟩
def CAN.CAN_TDC_OFFSET : Fld := ⟨CAN.CAN_TDC, 0, 7⟩
def CAN.CAN_TDC_EN : Fld := ⟨CAN.CAN_TDC, 7, 1⟩
def CAN.CAN_STAT : Reg := ⟨0x7, 0x50, 1, 0, 0x0, 0x0, 0x0, 0x0⟩
def CAN.CAN_STAT_STATE : Fld := ⟨CAN.CAN_STAT, 0, 2⟩
def CAN.CAN_STAT_TEC : Fld := ⟨CAN.CAN_STAT, 8, 8⟩
def CAN.CAN_STAT_REC : Fld := ⟨CAN.CAN_STAT, 16, 8⟩
def CAN.CAN_TX_PRIO : Reg := ⟨0x7, 0x54, 1, 0, 0x0, 0xFFFF, 0x0, 0x0⟩
def CAN.CAN_TX_PRIO_HANDLE : Fld := ⟨CAN.CAN_TX_PRIO, 0, 16⟩
def CAN.CAN_TX_NORM : Reg := ⟨0x7, 0x58, 1, 0, 0x0, 0xFFFF, 0x0, 0x0⟩
def CAN.CAN_TX_NORM_HANDLE : Fld := ⟨CAN.CAN_TX_NORM, 0, 16⟩
def CAN.CAN_RX_FRAMES : Reg := ⟨0x7, 0x60, 1, 0, 0x0, 0x0, 0x0, 0x0⟩
def CAN.CAN_RX_FRAMES_COUNT : Fld := ⟨CAN.CAN_RX_FRAMES, 0, 31⟩
def CAN.CAN_RX_FRAMES_OVF : Fld := ⟨CAN.CAN_RX_FRAMES, 31, 1⟩
def CAN.CAN_RX_DROP : Reg := ⟨0x7, 0x64, 1, 0, 0x0, 0x0, 0x0, 0x0⟩
def CAN.CAN_RX_DROP_COUNT : Fld := ⟨CAN.CAN_RX_DROP, 0, 31⟩
def CAN.CAN_RX_DROP_OVF : Fld := ⟨CAN.CAN_RX_DROP, 31, 1⟩
def CAN.CAN_TX_FRAMES : Reg := ⟨0x7, 0x68, 1, 0, 0x0, 0x0, 0x0, 0x0⟩
def CAN.CAN_TX_FRAMES_COUNT : Fld := ⟨CAN.CAN_TX_FRAMES, 0, 31⟩
def CAN.CAN_TX_FRAMES_OVF : Fld := ⟨CAN.CAN_TX_FRAMES, 31, 1⟩
def CAN.CAN_REMOTE : Reg := ⟨0x7, 0x6C, 1, 0, 0x0, 0x0, 0x0, 0x0⟩
def CAN.CAN_REMOTE_COUNT : Fld := ⟨CAN.CAN_REMOTE, 0, 31⟩
def CAN.CAN_REMOTE_OVF : Fld := ⟨CAN.CAN_REMOTE, 31, 1⟩
def CAN.CAN_FLT_ID : Reg := ⟨0x7, 0x100, 16, 16, 0x0, 0xBFFFFFFF, 0x0, 0x0⟩
def CAN.CAN_FLT_ID_ID : Fld := ⟨CAN.CAN_FLT_ID, 0, 29⟩
def CAN.CAN_FLT_ID_IDE : Fld := ⟨CAN.CAN_FLT_ID, 29, 1⟩
def CAN.CAN_FLT_ID_EN : Fld := ⟨CAN.CAN_FLT_ID, 31, 1⟩
def CAN.CAN_FLT_MASK : Reg := ⟨0x7, 0x104, 16, 16, 0x0, 0x1FFFFFFF, 0x0, 0x0⟩
def CAN.CAN_FLT_MASK_MASK : Fld := ⟨CAN.CAN_FLT_MASK, 0, 29⟩
def CAN.CAN_FLT_RING : Reg := ⟨0x7, 0x108, 16, 16, 0x0, 0xFFFF, 0x0, 0x0⟩
def CAN.CAN_FLT_RING_HANDLE : Fld := ⟨CAN.CAN_FLT_RING, 0, 16⟩
def CAN.CNT_CLR : Reg := ⟨0x7, 0x7C, 1, 0, 0x0, 0x0, 0x0, 0x0⟩
def CAN.CNT_CLR_CLR : Fld := ⟨CAN.CNT_CLR, 0, 1⟩

/-- The registers of the CAN page kind. -/
def CAN.all : List Reg :=
  [CAN.CAN_CTL, CAN.CAN_NBT, CAN.CAN_DBT, CAN.CAN_TDC, CAN.CAN_STAT, CAN.CAN_TX_PRIO, CAN.CAN_TX_NORM, CAN.CAN_RX_FRAMES, CAN.CAN_RX_DROP, CAN.CAN_TX_FRAMES, CAN.CAN_REMOTE, CAN.CAN_FLT_ID, CAN.CAN_FLT_MASK, CAN.CAN_FLT_RING, CAN.CNT_CLR]

end Sys2Proof
end

