-- ==== Sys2Proof/Machine/RegsSafety.lean ====
section
/-!
DEFINITION. The registers of the pages FCR, SHL, as the register tables of 15_fault_collection_and_containment (R385); 16_machine_safety_functions (R416) give them: first page, offset, count and stride on the page, reset value, and the masks of the RW, RWL and W1C bits; then
each field as lowest bit and width. `<PAGE>.all` lists the registers of the page body.
-/

namespace Sys2Proof

def FCR.FCR_CTL : Reg := ⟨0x12, 0x40, 1, 0, 0x0, 0x1FFFF, 0x0, 0x0⟩
def FCR.FCR_CTL_EVT_RING : Fld := ⟨FCR.FCR_CTL, 0, 16⟩
def FCR.FCR_CTL_EVT_EN : Fld := ⟨FCR.FCR_CTL, 16, 1⟩
def FCR.FCR_STAT : Reg := ⟨0x12, 0x44, 1, 0, 0x0, 0x0, 0x0, 0x0⟩
def FCR.FCR_STAT_FENCE_CNT : Fld := ⟨FCR.FCR_STAT, 0, 8⟩
def FCR.FCR_STAT_HALT_REQ : Fld := ⟨FCR.FCR_STAT, 8, 1⟩
def FCR.FCR_STAT_DEGRADED : Fld := ⟨FCR.FCR_STAT, 9, 1⟩
def FCR.FIRST_SRC : Reg := ⟨0x12, 0x48, 1, 0, 0x0, 0x0, 0x0, 0x0⟩
def FCR.FIRST_SRC_SOURCE : Fld := ⟨FCR.FIRST_SRC, 0, 8⟩
def FCR.FIRST_SRC_REACT : Fld := ⟨FCR.FIRST_SRC, 8, 3⟩
def FCR.FIRST_SRC_MULTI : Fld := ⟨FCR.FIRST_SRC, 11, 1⟩
def FCR.FIRST_SRC_MASTER : Fld := ⟨FCR.FIRST_SRC, 12, 3⟩
def FCR.FIRST_SRC_ACCESS : Fld := ⟨FCR.FIRST_SRC, 16, 2⟩
def FCR.FIRST_SRC_UNIT : Fld := ⟨FCR.FIRST_SRC, 20, 9⟩
def FCR.FIRST_SRC_VALID : Fld := ⟨FCR.FIRST_SRC, 31, 1⟩
def FCR.FIRST_ADDR : Reg := ⟨0x12, 0x4C, 1, 0, 0x0, 0x0, 0x0, 0x0⟩
def FCR.FIRST_ADDR_ADDR : Fld := ⟨FCR.FIRST_ADDR, 0, 24⟩
def FCR.FIRST_TS_LO : Reg := ⟨0x12, 0x50, 1, 0, 0x0, 0x0, 0x0, 0x0⟩
def FCR.FIRST_TS_LO_VALUE : Fld := ⟨FCR.FIRST_TS_LO, 0, 32⟩
def FCR.FIRST_TS_HI : Reg := ⟨0x12, 0x54, 1, 0, 0x0, 0x0, 0x0, 0x0⟩
def FCR.FIRST_TS_HI_VALUE : Fld := ⟨FCR.FIRST_TS_HI, 0, 32⟩
def FCR.FIRST_CLR : Reg := ⟨0x12, 0x58, 1, 0, 0x0, 0x0, 0x0, 0x0⟩
def FCR.FIRST_CLR_CLR : Fld := ⟨FCR.FIRST_CLR, 0, 1⟩
def FCR.ERR_TOTAL : Reg := ⟨0x12, 0x5C, 1, 0, 0x0, 0x0, 0x0, 0x0⟩
def FCR.ERR_TOTAL_COUNT : Fld := ⟨FCR.ERR_TOTAL, 0, 16⟩
def FCR.ERR_TOTAL_OVF : Fld := ⟨FCR.ERR_TOTAL, 16, 1⟩
def FCR.ERR_TOTAL_CLR : Fld := ⟨FCR.ERR_TOTAL, 31, 1⟩
def FCR.HALT_CAUSE : Reg := ⟨0x12, 0x60, 1, 0, 0x0, 0x0, 0x0, 0x0⟩
def FCR.HALT_CAUSE_SOURCE : Fld := ⟨FCR.HALT_CAUSE, 0, 8⟩
def FCR.HALT_CAUSE_UNIT : Fld := ⟨FCR.HALT_CAUSE, 20, 9⟩
def FCR.HALT_CAUSE_ACTIVE : Fld := ⟨FCR.HALT_CAUSE, 30, 1⟩
def FCR.HALT_CAUSE_PENDING : Fld := ⟨FCR.HALT_CAUSE, 31, 1⟩
def FCR.HALT_CLR : Reg := ⟨0x12, 0x64, 1, 0, 0x0, 0x0, 0x0, 0x0⟩
def FCR.HALT_CLR_KEY : Fld := ⟨FCR.HALT_CLR, 0, 8⟩
def FCR.HALT_CLR_CLR : Fld := ⟨FCR.HALT_CLR, 8, 1⟩
def FCR.FENCE_REQ : Reg := ⟨0x12, 0x68, 1, 0, 0x0, 0x0, 0x0, 0x0⟩
def FCR.FENCE_REQ_UNIT : Fld := ⟨FCR.FENCE_REQ, 0, 9⟩
def FCR.FENCE_REQ_KEY : Fld := ⟨FCR.FENCE_REQ, 16, 8⟩
def FCR.FENCE_REQ_GO : Fld := ⟨FCR.FENCE_REQ, 31, 1⟩
def FCR.UNFENCE : Reg := ⟨0x12, 0x6C, 1, 0, 0x0, 0x0, 0x0, 0x0⟩
def FCR.UNFENCE_UNIT : Fld := ⟨FCR.UNFENCE, 0, 9⟩
def FCR.UNFENCE_KEY : Fld := ⟨FCR.UNFENCE, 16, 8⟩
def FCR.UNFENCE_GO : Fld := ⟨FCR.UNFENCE, 31, 1⟩
def FCR.FENCE_RES : Reg := ⟨0x12, 0x70, 1, 0, 0x0, 0x0, 0x0, 0x0⟩
def FCR.FENCE_RES_CODE : Fld := ⟨FCR.FENCE_RES, 0, 8⟩
def FCR.FENCE_RES_UNIT : Fld := ⟨FCR.FENCE_RES, 8, 9⟩
def FCR.FENCE_RES_BUSY : Fld := ⟨FCR.FENCE_RES, 17, 1⟩
def FCR.FENCE_RES_SEQ : Fld := ⟨FCR.FENCE_RES, 24, 8⟩
def FCR.DEGRADE_LO : Reg := ⟨0x12, 0x74, 1, 0, 0x0, 0x0, 0x0, 0xFFFFFFFF⟩
def FCR.DEGRADE_LO_SRC : Fld := ⟨FCR.DEGRADE_LO, 0, 32⟩
def FCR.DEGRADE_HI : Reg := ⟨0x12, 0x78, 1, 0, 0x0, 0x0, 0x0, 0xFFFFFFFF⟩
def FCR.DEGRADE_HI_SRC : Fld := ⟨FCR.DEGRADE_HI, 0, 32⟩
def FCR.DEGRADE_X : Reg := ⟨0x12, 0x7C, 1, 0, 0x0, 0x0, 0x0, 0xFFFFFFFF⟩
def FCR.DEGRADE_X_SRC : Fld := ⟨FCR.DEGRADE_X, 0, 32⟩
def FCR.FENCE_MAP_MISC : Reg := ⟨0x12, 0x80, 1, 0, 0x0, 0x0, 0x0, 0x0⟩
def FCR.FENCE_MAP_MISC_UNIT : Fld := ⟨FCR.FENCE_MAP_MISC, 0, 7⟩
def FCR.FENCE_MAP_MISC_LE : Fld := ⟨FCR.FENCE_MAP_MISC, 8, 8⟩
def FCR.FENCE_MAP_SC : Reg := ⟨0x12, 0x84, 1, 0, 0x0, 0x0, 0x0, 0x0⟩
def FCR.FENCE_MAP_SC_SC : Fld := ⟨FCR.FENCE_MAP_SC, 0, 32⟩
def FCR.FENCE_MAP_FB : Reg := ⟨0x12, 0x88, 1, 0, 0x0, 0x0, 0x0, 0x0⟩
def FCR.FENCE_MAP_FB_FB : Fld := ⟨FCR.FENCE_MAP_FB, 0, 24⟩
def FCR.AXREL : Reg := ⟨0x12, 0x90, 1, 0, 0x0, 0x0, 0x0, 0x0⟩
def FCR.AXREL_HANDLE : Fld := ⟨FCR.AXREL, 0, 16⟩
def FCR.AXREL_GO : Fld := ⟨FCR.AXREL, 31, 1⟩
def FCR.AX_SAFE_MAP : Reg := ⟨0x12, 0x94, 1, 0, 0x0, 0x0, 0x0, 0x0⟩
def FCR.AX_SAFE_MAP_SLOT : Fld := ⟨FCR.AX_SAFE_MAP, 0, 24⟩
def FCR.ESC_CFG : Reg := ⟨0x12, 0x98, 1, 0, 0x3E8, 0x0, 0xFFFFFF, 0x0⟩
def FCR.ESC_CFG_WIN : Fld := ⟨FCR.ESC_CFG, 0, 16⟩
def FCR.ESC_CFG_FENCE_MAX : Fld := ⟨FCR.ESC_CFG, 16, 8⟩
def FCR.SW_RAISE : Reg := ⟨0x12, 0x9C, 1, 0, 0x0, 0x0, 0x0, 0x0⟩
def FCR.SW_RAISE_DETAIL : Fld := ⟨FCR.SW_RAISE, 0, 24⟩
def FCR.SW_RAISE_GO : Fld := ⟨FCR.SW_RAISE, 31, 1⟩
def FCR.SURV_SRC : Reg := ⟨0x12, 0xA0, 1, 0, 0x0, 0x0, 0x0, 0x0⟩
def FCR.SURV_SRC_SOURCE : Fld := ⟨FCR.SURV_SRC, 0, 8⟩
def FCR.SURV_SRC_REACT : Fld := ⟨FCR.SURV_SRC, 8, 3⟩
def FCR.SURV_SRC_UNIT : Fld := ⟨FCR.SURV_SRC, 20, 9⟩
def FCR.SURV_SRC_VALID : Fld := ⟨FCR.SURV_SRC, 31, 1⟩
def FCR.SURV_TS_LO : Reg := ⟨0x12, 0xA4, 1, 0, 0x0, 0x0, 0x0, 0x0⟩
def FCR.SURV_TS_LO_VALUE : Fld := ⟨FCR.SURV_TS_LO, 0, 32⟩
def FCR.SURV_TS_HI : Reg := ⟨0x12, 0xA8, 1, 0, 0x0, 0x0, 0x0, 0x0⟩
def FCR.SURV_TS_HI_VALUE : Fld := ⟨FCR.SURV_TS_HI, 0, 32⟩
def FCR.SURV_CNT : Reg := ⟨0x12, 0xAC, 1, 0, 0x0, 0x0, 0x0, 0x0⟩
def FCR.SURV_CNT_COUNT : Fld := ⟨FCR.SURV_CNT, 0, 16⟩
def FCR.SURV_CNT_OVF : Fld := ⟨FCR.SURV_CNT, 16, 1⟩
def FCR.SURV_CNT_CLR : Fld := ⟨FCR.SURV_CNT, 31, 1⟩
def FCR.SPU_WDOG : Reg := ⟨0x12, 0xB0, 1, 0, 0x64, 0x0, 0x1FFFF, 0x0⟩
def FCR.SPU_WDOG_PERIOD : Fld := ⟨FCR.SPU_WDOG, 0, 16⟩
def FCR.SPU_WDOG_EN : Fld := ⟨FCR.SPU_WDOG, 16, 1⟩
def FCR.SPU_WDOG_KICK : Fld := ⟨FCR.SPU_WDOG, 31, 1⟩
def FCR.SRC_CFG : Reg := ⟨0x12, 0x400, 96, 4, 0x0, 0x0, 0xFF77, 0x0⟩
def FCR.SRC_CFG_REACT : Fld := ⟨FCR.SRC_CFG, 0, 3⟩
def FCR.SRC_CFG_ESC_REACT : Fld := ⟨FCR.SRC_CFG, 4, 3⟩
def FCR.SRC_CFG_ESC_N : Fld := ⟨FCR.SRC_CFG, 8, 8⟩
def FCR.SRC_CFG_ALLOWED : Fld := ⟨FCR.SRC_CFG, 24, 8⟩
def FCR.SRC_CNT : Reg := ⟨0x12, 0x600, 96, 4, 0x0, 0x0, 0x0, 0x0⟩
def FCR.SRC_CNT_COUNT : Fld := ⟨FCR.SRC_CNT, 0, 16⟩
def FCR.SRC_CNT_OVF : Fld := ⟨FCR.SRC_CNT, 16, 1⟩
def FCR.SRC_CNT_CLR : Fld := ⟨FCR.SRC_CNT, 31, 1⟩

/-- The registers of the FCR page kind. -/
def FCR.all : List Reg :=
  [FCR.FCR_CTL, FCR.FCR_STAT, FCR.FIRST_SRC, FCR.FIRST_ADDR, FCR.FIRST_TS_LO, FCR.FIRST_TS_HI, FCR.FIRST_CLR, FCR.ERR_TOTAL, FCR.HALT_CAUSE, FCR.HALT_CLR, FCR.FENCE_REQ, FCR.UNFENCE, FCR.FENCE_RES, FCR.DEGRADE_LO, FCR.DEGRADE_HI, FCR.DEGRADE_X, FCR.FENCE_MAP_MISC, FCR.FENCE_MAP_SC, FCR.FENCE_MAP_FB, FCR.AXREL, FCR.AX_SAFE_MAP, FCR.ESC_CFG, FCR.SW_RAISE, FCR.SURV_SRC, FCR.SURV_TS_LO, FCR.SURV_TS_HI, FCR.SURV_CNT, FCR.SPU_WDOG, FCR.SRC_CFG, FCR.SRC_CNT]

def SHL.SHL_STAT : Reg := ⟨0x13, 0x40, 1, 0, 0x0, 0x0, 0x0, 0x0⟩
def SHL.SHL_STAT_CONFIRMED : Fld := ⟨SHL.SHL_STAT, 0, 1⟩
def SHL.SHL_STAT_CHECK_DONE : Fld := ⟨SHL.SHL_STAT, 1, 1⟩
def SHL.SHL_STAT_CHECK_AGREE : Fld := ⟨SHL.SHL_STAT, 2, 1⟩
def SHL.SHL_STAT_SLOT_AGREE : Fld := ⟨SHL.SHL_STAT, 3, 1⟩
def SHL.SHL_STAT_SWAP_WINDOW : Fld := ⟨SHL.SHL_STAT, 4, 1⟩
def SHL.SHL_STAT_SINGLE : Fld := ⟨SHL.SHL_STAT, 5, 1⟩
def SHL.SHL_STAT_PLL_OVR : Fld := ⟨SHL.SHL_STAT, 6, 1⟩
def SHL.SHL_STAT_FUTRA_LIVE : Fld := ⟨SHL.SHL_STAT, 7, 1⟩
def SHL.SHL_STAT_SAFE : Fld := ⟨SHL.SHL_STAT, 8, 1⟩
def SHL.GRP_STATE : Reg := ⟨0x13, 0x44, 1, 0, 0x0, 0x0, 0x0, 0x0⟩
def SHL.GRP_STATE_STATE : Fld := ⟨SHL.GRP_STATE, 0, 16⟩
def SHL.GRP_FAULT : Reg := ⟨0x13, 0x48, 1, 0, 0x0, 0x0, 0x0, 0x0⟩
def SHL.GRP_FAULT_FAULTED : Fld := ⟨SHL.GRP_FAULT, 0, 8⟩
def SHL.GRP_FAULT_SLS_ACT : Fld := ⟨SHL.GRP_FAULT, 8, 8⟩
def SHL.SHL_CHECK : Reg := ⟨0x13, 0x4C, 1, 0, 0x0, 0x0, 0x0, 0x0⟩
def SHL.SHL_CHECK_VALUE : Fld := ⟨SHL.SHL_CHECK, 0, 32⟩
def SHL.SLOT_CHECK : Reg := ⟨0x13, 0x50, 1, 0, 0x0, 0x0, 0x0, 0x0⟩
def SHL.SLOT_CHECK_VALUE : Fld := ⟨SHL.SLOT_CHECK, 0, 32⟩
def SHL.SLOT_VER : Reg := ⟨0x13, 0x54, 1, 0, 0x0, 0x0, 0x0, 0x0⟩
def SHL.SLOT_VER_VERSION : Fld := ⟨SHL.SLOT_VER, 0, 16⟩
def SHL.SLOT_VER_SLOT : Fld := ⟨SHL.SLOT_VER, 16, 4⟩
def SHL.SLOT_VER_VALID : Fld := ⟨SHL.SLOT_VER, 20, 1⟩
def SHL.PCH_CHECK : Reg := ⟨0x13, 0x58, 1, 0, 0x0, 0xFFFFFFFF, 0x0, 0x0⟩
def SHL.PCH_CHECK_VALUE : Fld := ⟨SHL.PCH_CHECK, 0, 32⟩
def SHL.PCH_BEAT : Reg := ⟨0x13, 0x5C, 1, 0, 0x0, 0x0, 0x0, 0x0⟩
def SHL.PCH_BEAT_SEQ : Fld := ⟨SHL.PCH_BEAT, 0, 16⟩
def SHL.PCH_BEAT_GO : Fld := ⟨SHL.PCH_BEAT, 31, 1⟩
def SHL.PCH_REQ : Reg := ⟨0x13, 0x60, 1, 0, 0x0, 0xFFFF, 0x0, 0x0⟩
def SHL.PCH_REQ_STO : Fld := ⟨SHL.PCH_REQ, 0, 8⟩
def SHL.PCH_REQ_SS1 : Fld := ⟨SHL.PCH_REQ, 8, 8⟩
def SHL.SHL_ACK : Reg := ⟨0x13, 0x64, 1, 0, 0x0, 0x0, 0x0, 0x0⟩
def SHL.SHL_ACK_GRP : Fld := ⟨SHL.SHL_ACK, 0, 8⟩
def SHL.SHL_ACK_CDR : Fld := ⟨SHL.SHL_ACK, 8, 8⟩
def SHL.SHL_ACK_KEY : Fld := ⟨SHL.SHL_ACK, 24, 8⟩
def SHL.CDR_REQ : Reg := ⟨0x13, 0x68, 1, 0, 0x0, 0xFF, 0x0, 0x0⟩
def SHL.CDR_REQ_REQ : Fld := ⟨SHL.CDR_REQ, 0, 8⟩
def SHL.CDR_STAT : Reg := ⟨0x13, 0x6C, 1, 0, 0x0, 0x0, 0x0, 0x0⟩
def SHL.CDR_STAT_DRIVEN : Fld := ⟨SHL.CDR_STAT, 0, 8⟩
def SHL.CDR_STAT_LATCHED : Fld := ⟨SHL.CDR_STAT, 8, 8⟩
def SHL.CDR_STAT_CFB : Fld := ⟨SHL.CDR_STAT, 16, 16⟩
def SHL.PLL_REL : Reg := ⟨0x13, 0x70, 1, 0, 0x0, 0x0, 0x0, 0x0⟩
def SHL.PLL_REL_KEY : Fld := ⟨SHL.PLL_REL, 0, 8⟩
def SHL.PLL_REL_GO : Fld := ⟨SHL.PLL_REL, 8, 1⟩
def SHL.OVR_LO : Reg := ⟨0x13, 0x74, 1, 0, 0x0, 0x0, 0x0, 0x0⟩
def SHL.OVR_LO_LEG : Fld := ⟨SHL.OVR_LO, 0, 32⟩
def SHL.OVR_HI : Reg := ⟨0x13, 0x78, 1, 0, 0x0, 0x0, 0x0, 0x0⟩
def SHL.OVR_HI_LEG : Fld := ⟨SHL.OVR_HI, 0, 32⟩
def SHL.UCG_LO : Reg := ⟨0x13, 0x7C, 1, 0, 0x0, 0x0, 0x0, 0x0⟩
def SHL.UCG_LO_LEG : Fld := ⟨SHL.UCG_LO, 0, 32⟩
def SHL.UCG_HI : Reg := ⟨0x13, 0x80, 1, 0, 0x0, 0x0, 0x0, 0x0⟩
def SHL.UCG_HI_LEG : Fld := ⟨SHL.UCG_HI, 0, 32⟩
def SHL.FUT_LAST : Reg := ⟨0x13, 0x84, 1, 0, 0x0, 0x0, 0x0, 0x0⟩
def SHL.FUT_LAST_SEQ : Fld := ⟨SHL.FUT_LAST, 0, 16⟩
def SHL.FUT_LAST_VALID : Fld := ⟨SHL.FUT_LAST, 16, 1⟩
def SHL.FUT_REQ : Reg := ⟨0x13, 0x88, 1, 0, 0x0, 0x0, 0x0, 0x0⟩
def SHL.FUT_REQ_BYTES : Fld := ⟨SHL.FUT_REQ, 0, 32⟩
def SHL.FUT_DATA : Reg := ⟨0x13, 0x8C, 1, 0, 0x0, 0x0, 0x0, 0x0⟩
def SHL.FUT_DATA_DATA : Fld := ⟨SHL.FUT_DATA, 0, 32⟩
def SHL.FUT_ACCEPT : Reg := ⟨0x13, 0x90, 1, 0, 0x0, 0x0, 0x0, 0x0⟩
def SHL.FUT_ACCEPT_COUNT : Fld := ⟨SHL.FUT_ACCEPT, 0, 16⟩
def SHL.FUT_ACCEPT_OVF : Fld := ⟨SHL.FUT_ACCEPT, 16, 1⟩
def SHL.FUT_ACCEPT_CLR : Fld := ⟨SHL.FUT_ACCEPT, 31, 1⟩
def SHL.FUT_INVALID : Reg := ⟨0x13, 0x94, 1, 0, 0x0, 0x0, 0x0, 0x0⟩
def SHL.FUT_INVALID_COUNT : Fld := ⟨SHL.FUT_INVALID, 0, 16⟩
def SHL.FUT_INVALID_OVF : Fld := ⟨SHL.FUT_INVALID, 16, 1⟩
def SHL.FUT_INVALID_CLR : Fld := ⟨SHL.FUT_INVALID, 31, 1⟩
def SHL.FUT_SKEW : Reg := ⟨0x13, 0x98, 1, 0, 0x0, 0x0, 0x0, 0x0⟩
def SHL.FUT_SKEW_COUNT : Fld := ⟨SHL.FUT_SKEW, 0, 16⟩
def SHL.FUT_SKEW_OVF : Fld := ⟨SHL.FUT_SKEW, 16, 1⟩
def SHL.FUT_SKEW_CLR : Fld := ⟨SHL.FUT_SKEW, 31, 1⟩
def SHL.FUT_SEQ : Reg := ⟨0x13, 0x9C, 1, 0, 0x0, 0x0, 0x0, 0x0⟩
def SHL.FUT_SEQ_COUNT : Fld := ⟨SHL.FUT_SEQ, 0, 16⟩
def SHL.FUT_SEQ_OVF : Fld := ⟨SHL.FUT_SEQ, 16, 1⟩
def SHL.FUT_SEQ_CLR : Fld := ⟨SHL.FUT_SEQ, 31, 1⟩
def SHL.SPD : Reg := ⟨0x13, 0xC0, 8, 4, 0x0, 0x0, 0x0, 0x0⟩
def SHL.SPD_COUNT : Fld := ⟨SHL.SPD, 0, 16⟩
def SHL.SPD_SDI_ACC : Fld := ⟨SHL.SPD, 16, 16⟩
def SHL.PVER : Reg := ⟨0x13, 0x100, 1, 0, 0x0, 0x0, 0xFFFF, 0x0⟩
def SHL.PVER_VERSION : Fld := ⟨SHL.PVER, 0, 16⟩
def SHL.SHL_CFG : Reg := ⟨0x13, 0x104, 1, 0, 0x14421408, 0x0, 0x1F7FFF7F, 0x0⟩
def SHL.SHL_CFG_STO_FILT : Fld := ⟨SHL.SHL_CFG, 0, 7⟩
def SHL.SHL_CFG_DISC_T : Fld := ⟨SHL.SHL_CFG, 8, 8⟩
def SHL.SHL_CFG_PCH_T : Fld := ⟨SHL.SHL_CFG, 16, 4⟩
def SHL.SHL_CFG_PCH_LOSS : Fld := ⟨SHL.SHL_CFG, 20, 2⟩
def SHL.SHL_CFG_FCR_STO : Fld := ⟨SHL.SHL_CFG, 22, 1⟩
def SHL.SHL_CFG_CONF_T : Fld := ⟨SHL.SHL_CFG, 24, 5⟩
def SHL.SPD_CFG : Reg := ⟨0x13, 0x108, 1, 0, 0x2009C40, 0x0, 0xF0FFFFF, 0x0⟩
def SHL.SPD_CFG_SPD_WIN : Fld := ⟨SHL.SPD_CFG, 0, 20⟩
def SHL.SPD_CFG_SLS_N : Fld := ⟨SHL.SPD_CFG, 24, 4⟩
def SHL.SWAP_CFG : Reg := ⟨0x13, 0x10C, 1, 0, 0xE60A00, 0x0, 0xFF0F01, 0x0⟩
def SHL.SWAP_CFG_ALLOW : Fld := ⟨SHL.SWAP_CFG, 0, 1⟩
def SHL.SWAP_CFG_SWAP_MAX : Fld := ⟨SHL.SWAP_CFG, 8, 4⟩
def SHL.SWAP_CFG_SWAP_SLS : Fld := ⟨SHL.SWAP_CFG, 16, 8⟩
def SHL.FUT_CFG : Reg := ⟨0x13, 0x110, 1, 0, 0x20088B5, 0x0, 0x87FFFFFF, 0x0⟩
def SHL.FUT_CFG_ETYPE : Fld := ⟨SHL.FUT_CFG, 0, 16⟩
def SHL.FUT_CFG_CONN_ID : Fld := ⟨SHL.FUT_CFG, 16, 8⟩
def SHL.FUT_CFG_SEQ_GAP : Fld := ⟨SHL.FUT_CFG, 24, 3⟩
def SHL.FUT_CFG_EN : Fld := ⟨SHL.FUT_CFG, 31, 1⟩
def SHL.FUT_TIME : Reg := ⟨0x13, 0x114, 1, 0, 0x40A, 0x0, 0x7F7F, 0x0⟩
def SHL.FUT_TIME_WD_T : Fld := ⟨SHL.FUT_TIME, 0, 7⟩
def SHL.FUT_TIME_SKEW : Fld := ⟨SHL.FUT_TIME, 8, 7⟩
def SHL.FUT_CAN0 : Reg := ⟨0x13, 0x118, 1, 0, 0x0, 0x0, 0xBFFFFFFF, 0x0⟩
def SHL.FUT_CAN0_ID : Fld := ⟨SHL.FUT_CAN0, 0, 29⟩
def SHL.FUT_CAN0_IDE : Fld := ⟨SHL.FUT_CAN0, 29, 1⟩
def SHL.FUT_CAN0_EN : Fld := ⟨SHL.FUT_CAN0, 31, 1⟩
def SHL.FUT_CAN1 : Reg := ⟨0x13, 0x11C, 1, 0, 0x0, 0x0, 0xBFFFFFFF, 0x0⟩
def SHL.FUT_CAN1_ID : Fld := ⟨SHL.FUT_CAN1, 0, 29⟩
def SHL.FUT_CAN1_IDE : Fld := ⟨SHL.FUT_CAN1, 29, 1⟩
def SHL.FUT_CAN1_EN : Fld := ⟨SHL.FUT_CAN1, 31, 1⟩
def SHL.FUT_LINK : Reg := ⟨0x13, 0x120, 1, 0, 0x22, 0x0, 0x173, 0x0⟩
def SHL.FUT_LINK_NRATE : Fld := ⟨SHL.FUT_LINK, 0, 2⟩
def SHL.FUT_LINK_DRATE : Fld := ⟨SHL.FUT_LINK, 4, 3⟩
def SHL.FUT_LINK_ETH_10 : Fld := ⟨SHL.FUT_LINK, 8, 1⟩
def SHL.STG_LEGS_LO : Reg := ⟨0x13, 0x140, 8, 32, 0x0, 0x0, 0xFFFFFFFF, 0x0⟩
def SHL.STG_LEGS_LO_LEG : Fld := ⟨SHL.STG_LEGS_LO, 0, 32⟩
def SHL.STG_LEGS_HI : Reg := ⟨0x13, 0x144, 8, 32, 0x0, 0x0, 0xFFFFFFFF, 0x0⟩
def SHL.STG_LEGS_HI_LEG : Fld := ⟨SHL.STG_LEGS_HI, 0, 32⟩
def SHL.STG_CFG : Reg := ⟨0x13, 0x148, 8, 32, 0x0, 0x0, 0xFFFFF, 0x0⟩
def SHL.STG_CFG_PAIRS : Fld := ⟨SHL.STG_CFG, 0, 4⟩
def SHL.STG_CFG_FUTRA : Fld := ⟨SHL.STG_CFG, 4, 1⟩
def SHL.STG_CFG_STO_ASC : Fld := ⟨SHL.STG_CFG, 5, 1⟩
def SHL.STG_CFG_RESTART : Fld := ⟨SHL.STG_CFG, 6, 1⟩
def SHL.STG_CFG_SPD_EN : Fld := ⟨SHL.STG_CFG, 7, 1⟩
def SHL.STG_CFG_SPD_CH : Fld := ⟨SHL.STG_CFG, 8, 5⟩
def SHL.STG_CFG_SPD_SRC : Fld := ⟨SHL.STG_CFG, 13, 1⟩
def SHL.STG_CFG_SLS_EN : Fld := ⟨SHL.STG_CFG, 14, 1⟩
def SHL.STG_CFG_SLS_REACT : Fld := ⟨SHL.STG_CFG, 15, 1⟩
def SHL.STG_CFG_SDI : Fld := ⟨SHL.STG_CFG, 16, 2⟩
def SHL.STG_CFG_SS1_MODE : Fld := ⟨SHL.STG_CFG, 18, 1⟩
def SHL.STG_CFG_SLS_SEL : Fld := ⟨SHL.STG_CFG, 19, 1⟩
def SHL.STG_SPD : Reg := ⟨0x13, 0x14C, 8, 32, 0x7FFF, 0x0, 0xFFFFFFFF, 0x0⟩
def SHL.STG_SPD_SLS_LIM : Fld := ⟨SHL.STG_SPD, 0, 16⟩
def SHL.STG_SPD_STILL_LIM : Fld := ⟨SHL.STG_SPD, 16, 16⟩
def SHL.STG_SDI : Reg := ⟨0x13, 0x150, 8, 32, 0x0, 0x0, 0xFFFF, 0x0⟩
def SHL.STG_SDI_SDI_TOL : Fld := ⟨SHL.STG_SDI, 0, 16⟩
def SHL.STG_SS1 : Reg := ⟨0x13, 0x154, 8, 32, 0x3E8, 0x0, 0xFFFF0FFF, 0x0⟩
def SHL.STG_SS1_SS1_T : Fld := ⟨SHL.STG_SS1, 0, 12⟩
def SHL.STG_SS1_DECEL : Fld := ⟨SHL.STG_SS1, 16, 16⟩
def SHL.STG_SS1M : Reg := ⟨0x13, 0x158, 8, 32, 0x0, 0x0, 0xFFFF, 0x0⟩
def SHL.STG_SS1M_MARGIN : Fld := ⟨SHL.STG_SS1M, 0, 16⟩
def SHL.CDR_CFG : Reg := ⟨0x13, 0x240, 8, 8, 0x0, 0x0, 0x3FFFFF, 0x0⟩
def SHL.CDR_CFG_CFB : Fld := ⟨SHL.CDR_CFG, 0, 16⟩
def SHL.CDR_CFG_POL : Fld := ⟨SHL.CDR_CFG, 16, 1⟩
def SHL.CDR_CFG_GRP_EN : Fld := ⟨SHL.CDR_CFG, 17, 1⟩
def SHL.CDR_CFG_GROUP : Fld := ⟨SHL.CDR_CFG, 18, 3⟩
def SHL.CDR_CFG_EN : Fld := ⟨SHL.CDR_CFG, 21, 1⟩
def SHL.CDR_TIME : Reg := ⟨0x13, 0x244, 8, 8, 0x32, 0x0, 0xFFFF, 0x0⟩
def SHL.CDR_TIME_TRANS_T : Fld := ⟨SHL.CDR_TIME, 0, 8⟩
def SHL.CDR_TIME_DELAY : Fld := ⟨SHL.CDR_TIME, 8, 8⟩

/-- The registers of the SHL page kind. -/
def SHL.all : List Reg :=
  [SHL.SHL_STAT, SHL.GRP_STATE, SHL.GRP_FAULT, SHL.SHL_CHECK, SHL.SLOT_CHECK, SHL.SLOT_VER, SHL.PCH_CHECK, SHL.PCH_BEAT, SHL.PCH_REQ, SHL.SHL_ACK, SHL.CDR_REQ, SHL.CDR_STAT, SHL.PLL_REL, SHL.OVR_LO, SHL.OVR_HI, SHL.UCG_LO, SHL.UCG_HI, SHL.FUT_LAST, SHL.FUT_REQ, SHL.FUT_DATA, SHL.FUT_ACCEPT, SHL.FUT_INVALID, SHL.FUT_SKEW, SHL.FUT_SEQ, SHL.SPD, SHL.PVER, SHL.SHL_CFG, SHL.SPD_CFG, SHL.SWAP_CFG, SHL.FUT_CFG, SHL.FUT_TIME, SHL.FUT_CAN0, SHL.FUT_CAN1, SHL.FUT_LINK, SHL.STG_LEGS_LO, SHL.STG_LEGS_HI, SHL.STG_CFG, SHL.STG_SPD, SHL.STG_SDI, SHL.STG_SS1] ++
  [SHL.STG_SS1M, SHL.CDR_CFG, SHL.CDR_TIME]

end Sys2Proof
end

