-- ==== Sys2Proof/Machine/RegsSense.lean ====
section
/-!
DEFINITION. The registers of the pages SNS, SC, as the register tables of 07_switching_sense_and_edge_servo (R190); 07_switching_sense_and_edge_servo (R191) give them: first page, offset, count and stride on the page, reset value, and the masks of the RW, RWL and W1C bits; then
each field as lowest bit and width. `<PAGE>.all` lists the registers of the page body.
-/

namespace Sys2Proof

def SNS.SNS_CTL : Reg := ⟨0x10, 0x40, 1, 0, 0x4001001, 0xFFFFFF01, 0x0, 0x0⟩
def SNS.SNS_CTL_EN : Fld := ⟨SNS.SNS_CTL, 0, 1⟩
def SNS.SNS_CTL_FB_LIMIT : Fld := ⟨SNS.SNS_CTL, 8, 8⟩
def SNS.SNS_CTL_SERVO_VMIN : Fld := ⟨SNS.SNS_CTL, 16, 16⟩
def SNS.SNS_STAT : Reg := ⟨0x10, 0x44, 1, 0, 0x0, 0x0, 0x0, 0x0⟩
def SNS.SNS_STAT_BUS_OV : Fld := ⟨SNS.SNS_STAT, 0, 8⟩
def SNS.SNS_STAT_BUS_UV : Fld := ⟨SNS.SNS_STAT, 8, 8⟩
def SNS.VB_CFG : Reg := ⟨0x10, 0x80, 8, 8, 0x40003FFF, 0xFFFF3FFF, 0x0, 0x0⟩
def SNS.VB_CFG_OV : Fld := ⟨SNS.VB_CFG, 0, 14⟩
def SNS.VB_CFG_UV : Fld := ⟨SNS.VB_CFG, 16, 14⟩
def SNS.VB_CFG_FILT : Fld := ⟨SNS.VB_CFG, 30, 2⟩
def SNS.VB_RES : Reg := ⟨0x10, 0x84, 8, 8, 0x0, 0x0, 0x0, 0x0⟩
def SNS.VB_RES_VALUE : Fld := ⟨SNS.VB_RES, 0, 14⟩
def SNS.VB_RES_SEQ : Fld := ⟨SNS.VB_RES, 16, 16⟩
def SNS.VB_CAL : Reg := ⟨0x10, 0xC0, 8, 4, 0x0, 0x3FF03FF, 0x0, 0x0⟩
def SNS.VB_CAL_OFFSET : Fld := ⟨SNS.VB_CAL, 0, 10⟩
def SNS.VB_CAL_GAIN : Fld := ⟨SNS.VB_CAL, 16, 10⟩
def SNS.HK_CTL0 : Reg := ⟨0x10, 0xE0, 1, 0, 0xFFFFFF, 0xFFFFFF, 0x0, 0x0⟩
def SNS.HK_CTL0_EN : Fld := ⟨SNS.HK_CTL0, 0, 24⟩
def SNS.HK_CTL1 : Reg := ⟨0x10, 0xE4, 1, 0, 0x1FFFFFF, 0x1FFFFFF, 0x0, 0x0⟩
def SNS.HK_CTL1_TS : Fld := ⟨SNS.HK_CTL1, 0, 16⟩
def SNS.HK_CTL1_HKX : Fld := ⟨SNS.HK_CTL1, 16, 8⟩
def SNS.HK_CTL1_DIE : Fld := ⟨SNS.HK_CTL1, 24, 1⟩
def SNS.HK_CAL0 : Reg := ⟨0x10, 0xE8, 1, 0, 0x0, 0x3FF03FF, 0x0, 0x0⟩
def SNS.HK_CAL0_OFFSET : Fld := ⟨SNS.HK_CAL0, 0, 10⟩
def SNS.HK_CAL0_GAIN : Fld := ⟨SNS.HK_CAL0, 16, 10⟩
def SNS.HK_CAL1 : Reg := ⟨0x10, 0xEC, 1, 0, 0x0, 0x3FF03FF, 0x0, 0x0⟩
def SNS.HK_CAL1_OFFSET : Fld := ⟨SNS.HK_CAL1, 0, 10⟩
def SNS.HK_CAL1_GAIN : Fld := ⟨SNS.HK_CAL1, 16, 10⟩
def SNS.DIE_CAL : Reg := ⟨0x10, 0xF0, 1, 0, 0x0, 0x3FF03FF, 0x0, 0x0⟩
def SNS.DIE_CAL_OFFSET : Fld := ⟨SNS.DIE_CAL, 0, 10⟩
def SNS.DIE_CAL_SLOPE : Fld := ⟨SNS.DIE_CAL, 16, 10⟩
def SNS.DIE_TEMP : Reg := ⟨0x10, 0xF4, 1, 0, 0x0, 0x0, 0x0, 0x0⟩
def SNS.DIE_TEMP_TEMP : Fld := ⟨SNS.DIE_TEMP, 0, 12⟩
def SNS.NCAL : Reg := ⟨0x10, 0x100, 8, 4, 0x0, 0x3FF03FF, 0x0, 0x0⟩
def SNS.NCAL_OFFSET : Fld := ⟨SNS.NCAL, 0, 10⟩
def SNS.NCAL_HYST : Fld := ⟨SNS.NCAL, 16, 10⟩
def SNS.HK_RES : Reg := ⟨0x10, 0x200, 49, 4, 0x0, 0x0, 0x0, 0x0⟩
def SNS.HK_RES_VALUE : Fld := ⟨SNS.HK_RES, 0, 12⟩
def SNS.HK_RES_SEQ : Fld := ⟨SNS.HK_RES, 16, 16⟩
def SNS.AXS_CFG : Reg := ⟨0x10, 0x400, 24, 32, 0x2050A01, 0xFFFFFF7F, 0x0, 0x0⟩
def SNS.AXS_CFG_OS_N : Fld := ⟨SNS.AXS_CFG, 0, 4⟩
def SNS.AXS_CFG_NEIGH : Fld := ⟨SNS.AXS_CFG, 4, 1⟩
def SNS.AXS_CFG_FALLBACK : Fld := ⟨SNS.AXS_CFG, 5, 2⟩
def SNS.AXS_CFG_OS_SPACE : Fld := ⟨SNS.AXS_CFG, 8, 8⟩
def SNS.AXS_CFG_SETTLE : Fld := ⟨SNS.AXS_CFG, 16, 8⟩
def SNS.AXS_CFG_PRE_GUARD : Fld := ⟨SNS.AXS_CFG, 24, 8⟩
def SNS.AXS_LATEST_M : Reg := ⟨0x10, 0x404, 24, 32, 0x0, 0x0, 0x0, 0x0⟩
def SNS.AXS_LATEST_M_LCLK : Fld := ⟨SNS.AXS_LATEST_M, 0, 23⟩
def SNS.AXS_LATEST_A : Reg := ⟨0x10, 0x408, 24, 32, 0x0, 0x0, 0x0, 0x0⟩
def SNS.AXS_LATEST_A_LCLK : Fld := ⟨SNS.AXS_LATEST_A, 0, 23⟩
def SNS.AXS_REC : Reg := ⟨0x10, 0x40C, 24, 32, 0x0, 0x0, 0x0, 0x0⟩
def SNS.AXS_REC_LEAD : Fld := ⟨SNS.AXS_REC, 0, 23⟩
def SNS.AXS_REC_STALE : Fld := ⟨SNS.AXS_REC, 24, 1⟩
def SNS.AXS_REC_HELD : Fld := ⟨SNS.AXS_REC, 25, 1⟩
def SNS.AXS_REC_RECON : Fld := ⟨SNS.AXS_REC, 26, 1⟩
def SNS.AXS_REC_OS_REDUCED : Fld := ⟨SNS.AXS_REC, 27, 1⟩
def SNS.AXS_REC_DISTURBED : Fld := ⟨SNS.AXS_REC, 28, 1⟩
def SNS.AXS_REC_OS_USED : Fld := ⟨SNS.AXS_REC, 29, 3⟩
def SNS.AXS_TS_LO : Reg := ⟨0x10, 0x410, 24, 32, 0x0, 0x0, 0x0, 0x0⟩
def SNS.AXS_TS_LO_VALUE : Fld := ⟨SNS.AXS_TS_LO, 0, 32⟩
def SNS.AXS_TS_HI : Reg := ⟨0x10, 0x414, 24, 32, 0x0, 0x0, 0x0, 0x0⟩
def SNS.AXS_TS_HI_VALUE : Fld := ⟨SNS.AXS_TS_HI, 0, 32⟩
def SNS.AXS_CNT : Reg := ⟨0x10, 0x418, 24, 32, 0x0, 0x0, 0x0, 0x0⟩
def SNS.AXS_CNT_FALLBACKS : Fld := ⟨SNS.AXS_CNT, 0, 16⟩
def SNS.AXS_CNT_OVF : Fld := ⟨SNS.AXS_CNT, 16, 1⟩
def SNS.AXS_CNT_CLR : Fld := ⟨SNS.AXS_CNT, 31, 1⟩
def SNS.AXS_WIN : Reg := ⟨0x10, 0x41C, 24, 32, 0x0, 0x0, 0x0, 0x0⟩
def SNS.AXS_WIN_LCLK : Fld := ⟨SNS.AXS_WIN, 0, 23⟩

/-- The registers of the SNS page kind. -/
def SNS.all : List Reg :=
  [SNS.SNS_CTL, SNS.SNS_STAT, SNS.VB_CFG, SNS.VB_RES, SNS.VB_CAL, SNS.HK_CTL0, SNS.HK_CTL1, SNS.HK_CAL0, SNS.HK_CAL1, SNS.DIE_CAL, SNS.DIE_TEMP, SNS.NCAL, SNS.HK_RES, SNS.AXS_CFG, SNS.AXS_LATEST_M, SNS.AXS_LATEST_A, SNS.AXS_REC, SNS.AXS_TS_LO, SNS.AXS_TS_HI, SNS.AXS_CNT, SNS.AXS_WIN]

def SC.SC_CTL : Reg := ⟨0xB0, 0x40, 1, 0, 0x1, 0x1, 0x0, 0x0⟩
def SC.SC_CTL_SELFTEST : Fld := ⟨SC.SC_CTL, 0, 1⟩
def SC.SC_CAL : Reg := ⟨0xB0, 0x44, 1, 0, 0x0, 0x3FF03FF, 0x0, 0x0⟩
def SC.SC_CAL_OFFSET : Fld := ⟨SC.SC_CAL, 0, 10⟩
def SC.SC_CAL_GAIN : Fld := ⟨SC.SC_CAL, 16, 10⟩
def SC.SC_STAT : Reg := ⟨0xB0, 0x48, 1, 0, 0x1, 0x0, 0x0, 0x0⟩
def SC.SC_STAT_SELF_OK : Fld := ⟨SC.SC_STAT, 0, 1⟩
def SC.SC_STAT_SELF_DEV : Fld := ⟨SC.SC_STAT, 16, 16⟩
def SC.RES_A : Reg := ⟨0xB0, 0x50, 1, 0, 0x0, 0x0, 0x0, 0x0⟩
def SC.RES_A_VALUE : Fld := ⟨SC.RES_A, 0, 14⟩
def SC.RES_A_SEQ : Fld := ⟨SC.RES_A, 24, 8⟩
def SC.RES_B : Reg := ⟨0xB0, 0x54, 1, 0, 0x0, 0x0, 0x0, 0x0⟩
def SC.RES_B_VALUE : Fld := ⟨SC.RES_B, 0, 14⟩
def SC.RES_B_SEQ : Fld := ⟨SC.RES_B, 24, 8⟩
def SC.NS_CFG : Reg := ⟨0xB0, 0x80, 2, 128, 0x10, 0x17, 0x0, 0x0⟩
def SC.NS_CFG_BUS : Fld := ⟨SC.NS_CFG, 0, 3⟩
def SC.NS_CFG_NS_EN : Fld := ⟨SC.NS_CFG, 4, 1⟩
def SC.NS_TH : Reg := ⟨0xB0, 0x84, 2, 128, 0x39A80066, 0x3FFFFFFF, 0x0, 0x0⟩
def SC.NS_TH_TH_LO : Fld := ⟨SC.NS_TH, 0, 10⟩
def SC.NS_TH_TH_MID : Fld := ⟨SC.NS_TH, 10, 10⟩
def SC.NS_TH_TH_HI : Fld := ⟨SC.NS_TH, 20, 10⟩
def SC.NS_HYST : Reg := ⟨0xB0, 0x88, 2, 128, 0x8000000A, 0xFFFF00FF, 0x0, 0x0⟩
def SC.NS_HYST_HYST : Fld := ⟨SC.NS_HYST, 0, 8⟩
def SC.NS_HYST_SCALE : Fld := ⟨SC.NS_HYST, 16, 16⟩
def SC.DT_ADAPT : Reg := ⟨0xB0, 0x8C, 2, 128, 0x3200A, 0xFFF3FF, 0x0, 0x0⟩
def SC.DT_ADAPT_GUARD : Fld := ⟨SC.DT_ADAPT, 0, 10⟩
def SC.DT_ADAPT_HARD : Fld := ⟨SC.DT_ADAPT, 12, 12⟩
def SC.DT_MAX : Reg := ⟨0xB0, 0x90, 2, 128, 0x3E8, 0xFFF, 0x0, 0x0⟩
def SC.DT_MAX_ADAPT_MAX : Fld := ⟨SC.DT_MAX, 0, 12⟩
def SC.OC_LIM : Reg := ⟨0xB0, 0x94, 2, 128, 0x1FFF1FFF, 0x1FFF1FFF, 0x0, 0x0⟩
def SC.OC_LIM_POS : Fld := ⟨SC.OC_LIM, 0, 13⟩
def SC.OC_LIM_NEG : Fld := ⟨SC.OC_LIM, 16, 13⟩
def SC.OC_HARD : Reg := ⟨0xB0, 0x98, 2, 128, 0x11FFF, 0x11FFF, 0x0, 0x0⟩
def SC.OC_HARD_HARD : Fld := ⟨SC.OC_HARD, 0, 13⟩
def SC.OC_HARD_HARD_EN : Fld := ⟨SC.OC_HARD, 16, 1⟩
def SC.BLANK : Reg := ⟨0xB0, 0x9C, 2, 128, 0x81F40A14, 0x8FFFFFFF, 0x0, 0x0⟩
def SC.BLANK_MIN : Fld := ⟨SC.BLANK, 0, 8⟩
def SC.BLANK_GUARD : Fld := ⟨SC.BLANK, 8, 8⟩
def SC.BLANK_MAX : Fld := ⟨SC.BLANK, 16, 12⟩
def SC.BLANK_ADAPT : Fld := ⟨SC.BLANK, 31, 1⟩
def SC.RING : Reg := ⟨0xB0, 0xA0, 2, 128, 0x14, 0xFF, 0x0, 0x0⟩
def SC.RING_BAND : Fld := ⟨SC.RING, 0, 8⟩
def SC.RING_RING_MAX : Fld := ⟨SC.RING, 16, 12⟩
def SC.SERVO_CFG : Reg := ⟨0xB0, 0xA4, 2, 128, 0x84030, 0xFFF73, 0x0, 0x0⟩
def SC.SERVO_CFG_MODE : Fld := ⟨SC.SERVO_CFG, 0, 2⟩
def SC.SERVO_CFG_K : Fld := ⟨SC.SERVO_CFG, 4, 3⟩
def SC.SERVO_CFG_SLEW : Fld := ⟨SC.SERVO_CFG, 8, 8⟩
def SC.SERVO_CFG_VALID_N : Fld := ⟨SC.SERVO_CFG, 16, 4⟩
def SC.SERVO_REF : Reg := ⟨0xB0, 0xA8, 2, 128, 0x3E800640, 0xFFFFFFFF, 0x0, 0x0⟩
def SC.SERVO_REF_PX_REF : Fld := ⟨SC.SERVO_REF, 0, 16⟩
def SC.SERVO_REF_PD_MAX : Fld := ⟨SC.SERVO_REF, 16, 16⟩
def SC.SERVO_OUT : Reg := ⟨0xB0, 0xAC, 2, 128, 0x640, 0xFFFF, 0x0, 0x0⟩
def SC.SERVO_OUT_OUTLIER : Fld := ⟨SC.SERVO_OUT, 0, 16⟩
def SC.BIN_T12 : Reg := ⟨0xB0, 0xB0, 2, 128, 0x4000100, 0x1FFF1FFF, 0x0, 0x0⟩
def SC.BIN_T12_T1 : Fld := ⟨SC.BIN_T12, 0, 13⟩
def SC.BIN_T12_T2 : Fld := ⟨SC.BIN_T12, 16, 13⟩
def SC.BIN_T3 : Reg := ⟨0xB0, 0xB4, 2, 128, 0x1000, 0x1FFF, 0x0, 0x0⟩
def SC.BIN_T3_T3 : Fld := ⟨SC.BIN_T3, 0, 13⟩
def SC.SERVO_CTL : Reg := ⟨0xB0, 0xB8, 2, 128, 0x0, 0x0, 0x0, 0x0⟩
def SC.SERVO_CTL_CLEAR : Fld := ⟨SC.SERVO_CTL, 0, 1⟩
def SC.PX_LAST : Reg := ⟨0xB0, 0xBC, 2, 128, 0x0, 0x0, 0x0, 0x0⟩
def SC.PX_LAST_DELAY : Fld := ⟨SC.PX_LAST, 0, 20⟩
def SC.PX_LAST_DIR : Fld := ⟨SC.PX_LAST, 20, 1⟩
def SC.PX_LAST_BIN : Fld := ⟨SC.PX_LAST, 21, 3⟩
def SC.PX_LAST_ACCEPT : Fld := ⟨SC.PX_LAST, 24, 1⟩
def SC.PX_LAST_REJECT : Fld := ⟨SC.PX_LAST, 25, 1⟩
def SC.DT_LAST : Reg := ⟨0xB0, 0xC0, 2, 128, 0x0, 0x0, 0x0, 0x0⟩
def SC.DT_LAST_DT : Fld := ⟨SC.DT_LAST, 0, 12⟩
def SC.DT_LAST_KIND : Fld := ⟨SC.DT_LAST, 12, 2⟩
def SC.NODE_STAT : Reg := ⟨0xB0, 0xC4, 2, 128, 0x0, 0x0, 0x0, 0x0⟩
def SC.NODE_STAT_CMP : Fld := ⟨SC.NODE_STAT, 0, 3⟩
def SC.REJECT_CNT : Reg := ⟨0xB0, 0xC8, 2, 128, 0x0, 0x0, 0x0, 0x0⟩
def SC.REJECT_CNT_COUNT : Fld := ⟨SC.REJECT_CNT, 0, 16⟩
def SC.REJECT_CNT_OVF : Fld := ⟨SC.REJECT_CNT, 16, 1⟩
def SC.REJECT_CNT_CLR : Fld := ⟨SC.REJECT_CNT, 31, 1⟩
def SC.CLAMP_CNT : Reg := ⟨0xB0, 0xCC, 2, 128, 0x0, 0x0, 0x0, 0x0⟩
def SC.CLAMP_CNT_COUNT : Fld := ⟨SC.CLAMP_CNT, 0, 16⟩
def SC.CLAMP_CNT_OVF : Fld := ⟨SC.CLAMP_CNT, 16, 1⟩
def SC.CLAMP_CNT_CLR : Fld := ⟨SC.CLAMP_CNT, 31, 1⟩
def SC.NOCROSS_CNT : Reg := ⟨0xB0, 0xD0, 2, 128, 0x0, 0x0, 0x0, 0x0⟩
def SC.NOCROSS_CNT_COUNT : Fld := ⟨SC.NOCROSS_CNT, 0, 16⟩
def SC.NOCROSS_CNT_OVF : Fld := ⟨SC.NOCROSS_CNT, 16, 1⟩
def SC.NOCROSS_CNT_CLR : Fld := ⟨SC.NOCROSS_CNT, 31, 1⟩
def SC.STUCK_CNT : Reg := ⟨0xB0, 0xD4, 2, 128, 0x0, 0x0, 0x0, 0x0⟩
def SC.STUCK_CNT_COUNT : Fld := ⟨SC.STUCK_CNT, 0, 16⟩
def SC.STUCK_CNT_OVF : Fld := ⟨SC.STUCK_CNT, 16, 1⟩
def SC.STUCK_CNT_CLR : Fld := ⟨SC.STUCK_CNT, 31, 1⟩
def SC.OC_TRIP_CNT : Reg := ⟨0xB0, 0xD8, 2, 128, 0x0, 0x0, 0x0, 0x0⟩
def SC.OC_TRIP_CNT_COUNT : Fld := ⟨SC.OC_TRIP_CNT, 0, 16⟩
def SC.OC_TRIP_CNT_OVF : Fld := ⟨SC.OC_TRIP_CNT, 16, 1⟩
def SC.OC_TRIP_CNT_CLR : Fld := ⟨SC.OC_TRIP_CNT, 31, 1⟩
def SC.HARD_CNT : Reg := ⟨0xB0, 0xDC, 2, 128, 0x0, 0x0, 0x0, 0x0⟩
def SC.HARD_CNT_COUNT : Fld := ⟨SC.HARD_CNT, 0, 16⟩
def SC.HARD_CNT_OVF : Fld := ⟨SC.HARD_CNT, 16, 1⟩
def SC.HARD_CNT_CLR : Fld := ⟨SC.HARD_CNT, 31, 1⟩
def SC.PXT : Reg := ⟨0xB0, 0x200, 32, 4, 0x0, 0x8FFFFFFF, 0x0, 0x0⟩
def SC.PXT_CORR : Fld := ⟨SC.PXT, 0, 20⟩
def SC.PXT_COUNT : Fld := ⟨SC.PXT, 20, 8⟩
def SC.PXT_VALID : Fld := ⟨SC.PXT, 31, 1⟩

/-- The registers of the SC page kind. -/
def SC.all : List Reg :=
  [SC.SC_CTL, SC.SC_CAL, SC.SC_STAT, SC.RES_A, SC.RES_B, SC.NS_CFG, SC.NS_TH, SC.NS_HYST, SC.DT_ADAPT, SC.DT_MAX, SC.OC_LIM, SC.OC_HARD, SC.BLANK, SC.RING, SC.SERVO_CFG, SC.SERVO_REF, SC.SERVO_OUT, SC.BIN_T12, SC.BIN_T3, SC.SERVO_CTL, SC.PX_LAST, SC.DT_LAST, SC.NODE_STAT, SC.REJECT_CNT, SC.CLAMP_CNT, SC.NOCROSS_CNT, SC.STUCK_CNT, SC.OC_TRIP_CNT, SC.HARD_CNT, SC.PXT]

end Sys2Proof
end

