-- ==== Sys2Proof/Machine/State.lean ====
section
/-!
DEFINITION. The state of the TM6464 as plain data. Registers stand in one sparse table by byte address; every table of this
file is in canonical form (keys strictly rising, no entry that holds the default). What the manual gives the block besides
registers stands in the structures below, each with its value at reset as the default of its field.
-/

namespace Sys2Proof.Machine

/-- Why a step stops. No command of this block stops with a fault: an address that does not exist answers UNMAPPED (R82). The
one constructor is raised by nobody, and that is safe. -/
inductive Fault where
  | noFault
deriving DecidableEq, Repr

/-- Why a command is refused by the model. -/
inductive Refusal where
  /-- Raised by an arm of `exec` whose command has no meaning yet; safe, because the step stops. -/
  | notModelled (mnemonic : String)
deriving DecidableEq, Repr

/-! ## Clock and reset (R22 to R45, R75, R77) -/

/-- Where the device stands between PORST_N and running, and in DORMANT. -/
inductive Phase where
  /-- PORST_N low or a rail out of range (R44). -/
  | held
  /-- The three-margin read of the fuse array runs (R75). -/
  | arrayRead
  /-- Digests, feature decode and slot selection run (R75). -/
  | digests
  /-- The PLL is enabled at start-up and has not locked (R26). -/
  | pllWait
  /-- Dividers released, core not yet released (R75). -/
  | locked
  /-- A start-up check failed; only PORST_N ends this (R77). -/
  | bootHold
  /-- PLL_LOSS: held in reset between relock attempts (R28). -/
  | lossWait
  /-- PLL_LOSS: a relock attempt is running (R28). -/
  | relock
  /-- The core runs. -/
  | run
  /-- DORMANT accepted, entry being carried out (R39). -/
  | dormantEntry
  /-- DORMANT (R39). -/
  | dormant
  /-- Wake qualified, VID settling (R40). -/
  | wakeSettle
  /-- Wake: PLL enabled, waiting for lock (R40). -/
  | wakePll
  /-- Wake: kept banks leave twilight in groups (R40). -/
  | wakeBanks
deriving DecidableEq, Repr

/-- CRM's state besides its registers. -/
structure CrmSt where
  /-- Where the device stands between PORST_N and running, and in DORMANT (R75). -/
  phase : Phase := .held
  /-- PORST_N is low (R44). -/
  porstLow : Bool := true
  /-- VDD is in its range (R43). -/
  vddOk : Bool := true
  /-- VDDA is in its range (R43). -/
  vddaOk : Bool := true
  /-- VDDIO18 is in its range (R43). -/
  vddio18Ok : Bool := true
  /-- VDDIO33 is in its range (R43). -/
  vddio33Ok : Bool := true
  /-- VQPS within 2.375 to 2.625 V (R65). -/
  vqpsOk : Bool := false
  /-- REFSEL as sampled (R24). -/
  refIn : Bool := false
  /-- The present start-up follows a PLL_LOSS (R28, R75). -/
  relocking : Bool := false
  /-- Relock attempts that have failed in this start-up (R28). -/
  relocks : Nat := 0
  /-- The last check window was outside 12 to 20 (R27). -/
  pllBad : Bool := false
  /-- The last nightwatch window was outside 148 to 180 (R30). -/
  nwBad : Bool := false
  /-- The condition of NW_FAULT holds (R30, R370). -/
  nwFault : Bool := false
  /-- The condition of AVS_CRITICAL holds (R33, R370). -/
  avsLow : Bool := false
  /-- A change of VID is settling (R32). -/
  avsSettling : Bool := false
  /-- Evaluations above SLACK_HI in a row (R32). -/
  avsHigh : Nat := 0
  /-- VID as saved at the entry into DORMANT (R40). -/
  vidSaved : Nat := 8
  /-- The levels of WAKE0 to WAKE3 (R40). -/
  wakeLevel : Nat := 0
  /-- Bit n: the enabled condition of WAKEn began and its qualification runs (R40). -/
  wakeQual : Nat := 0
  /-- Bit n: that qualification began before the acceptance of DORMANT (R40). -/
  wakePre : Nat := 0
  /-- A wake qualified since the acceptance of DORMANT (R40). -/
  wakeSeen : Bool := false
  /-- Groups of kept banks still to wake, each a list of bank numbers (R40). -/
  wakeGroups : List (List Nat) := []
  /-- The mode DORMANT was entered from (R38). -/
  dormantFrom : Nat := 1
  /-- The edge outputs are parked (R39). -/
  parked : Bool := false
  /-- `DEV_STATUS` as it stood at the acceptance of DORMANT (R94). -/
  dormantStatus : Word := 0
  /-- A HALT escalation signalled and not yet taken by CRM (R372, R453). -/
  haltReq : Bool := false
deriving DecidableEq, Repr

/-! ## Legs and constellations (R127 to R191) -/

/-- A pair of compare values (R139). -/
structure CmpPair where
  /-- The first compare value (R139). -/
  c1 : Word
  /-- The second compare value (R139). -/
  c2 : Word
deriving DecidableEq, Repr

/-- What the sense front end keeps of the edge it is timing (R164 to R166), in fine steps since the edge. -/
structure EdgeSt where
  /-- True for a falling edge (R164). -/
  falling : Bool
  /-- The current bin of the edge (R168). -/
  bin : Nat
  /-- Made by a chop or a chop release (R151). -/
  chop : Bool
  /-- When the node left its start band, in fine steps since the edge (R164). -/
  left : Option Nat
  /-- When the node crossed the middle (R164). -/
  mid : Option Nat
  /-- When the node settled (R164). -/
  settle : Option Nat
  /-- When the settle comparator's output showed it, delay included (R166). -/
  settleOut : Option Nat
  /-- When the start comparator's output showed the leaving, delay included (R166). -/
  leftOut : Option Nat
  /-- NODE_STUCK was raised for this edge (R166). -/
  stuck : Bool
  /-- Fine steps from this edge to the newest edge of the leg (R164). -/
  lag : Nat
  /-- The sense front end worked at the edge, so that it times it (R164, R312). -/
  live : Bool
deriving DecidableEq, Repr

/-- The node thresholds of a leg as last formed, and the half widths of the hysteresis and of the ringing band, in units of 1 / (125 · 2^25) of
a bus LSB, in which R160, R162 and R165 give whole numbers. -/
structure Thresholds where
  /-- LO (R160). -/
  lo : Int := 0
  /-- MID (R160). -/
  mid : Int := 0
  /-- HI (R160). -/
  hi : Int := 0
  /-- The hysteresis to each side (R160). -/
  hyst : Int := 0
  /-- The ringing band to each side (R165). -/
  band : Int := 0
deriving DecidableEq, Repr

/-- The state of one leg besides its registers. -/
structure LegSt where
  /-- The compare pair sealed by a GO outside the window (R139). -/
  staged : Option CmpPair := none
  /-- The compare pair sealed by a GO inside the window (R141). -/
  pending : Option CmpPair := none
  /-- The set frozen in the edge scheduler for the next commit (R142). -/
  frozen : Option CmpPair := none
  /-- The window before the leg's next commit is open (R141). -/
  window : Bool := false
  /-- A GO of the pending latch freshened a linked leg (R145). -/
  pendFresh : Bool := false
  /-- The current loaded with the frozen set, in LSB (R168). -/
  iFrozen : Int := 0
  /-- The current loaded with the active set, in LSB (R168). -/
  iActive : Int := 0
  /-- The last commit was an antimeridian commit (R140). -/
  lastAnti : Bool := false
  /-- The stage-2 command of the high side (R128). -/
  cmdHi : Bool := false
  /-- The stage-2 command of the low side (R128). -/
  cmdLo : Bool := false
  /-- The high-side command after stage 5 (R128). -/
  hi : Bool := false
  /-- The low-side command after stage 5 (R128). -/
  lo : Bool := false
  /-- The turn-on that waits for its dead time: true the high side (R146). -/
  turnOn : Option Bool := none
  /-- The last turn-off of the high command, seen from the present local meridian (R146). -/
  offHi : Option Int := none
  /-- The last turn-off of the low command, seen from the present local meridian (R146). -/
  offLo : Option Int := none
  /-- The turn-offs of the high and the low command before an override took the pad, as offHi and offLo stood then (R146, R155). -/
  preOff : Option Int × Option Int := (none, none)
  /-- When a pattern last turned the high and the low command off at the pad, time-stamps (R146, R155). -/
  patOff : Option Nat × Option Nat := (none, none)
  /-- The active pair as a commit clamped it, where it did (R133, R144). -/
  clamp : Option CmpPair := none
  /-- An edge at a commit instant that the servo delays: the commands that stand until then, and its position (R135, R170). -/
  held : Option ((Bool × Bool) × Nat) := none
  /-- The period in force at the last local meridian (R146). -/
  per : Nat := 0
  /-- The last local meridian on the ECLK grid, in fine steps modulo 32 (R138). -/
  grid : Nat := 0
  /-- A suppressed on-interval: the side that stays off until its command ends (R148). -/
  suppressed : Option Bool := none
  /-- The chop in force: true from a positive trip (R149). -/
  chop : Option Bool := none
  /-- A chop came in the present half period (R149). -/
  chopHalf : Bool := false
  /-- Half periods with a chop in a row (R150). -/
  chopRun : Nat := 0
  /-- FLT_N low now (R152). -/
  fltLow : Bool := false
  /-- The last override at the pad, kept until the local meridian after its release: pattern and OVR_SRC (R155). -/
  lastOvr : Option (Nat × Nat) := none
  /-- Both commands at the pad are off before a pattern turns one on: since when, time-stamp (R154). -/
  padWait : Option Nat := none
  /-- Writes of the leg's sense registers that clear and wait for the local meridian: 0 to 5 its counters, 6 its parallax table (R191). -/
  clears : List Nat := []
  /-- The pad follows an owner: the owner as it stood at the last local meridian (R127). -/
  own : Bool := false
  /-- EGA_CTL.EN as in effect on the leg (R158). -/
  en : Bool := false
  /-- A measured residual trim that waits for the local meridian (R137). -/
  trimNext : Option Nat := none
  /-- Group DLL code in force on the line (R137). -/
  lineCode : Nat := 0
  /-- Masked as in effect (R257). -/
  masked : Bool := false
  /-- Masked as commanded for the next commit (R257). -/
  maskNext : Option Bool := none
  /-- The rank-3 pattern an FCR reaction asks for (R371). -/
  fcrPat : Option Nat := none
  /-- The failset pattern (R205). -/
  failPat : Option Nat := none
  /-- The pattern SHL commands on the leg (R153 rank 2). -/
  shl : Option Nat := none
  /-- The current value last delivered to the loop context (R168, R180). -/
  iLatch : Int := 0
  /-- The over-current comparators are blanked (R185). -/
  blanking : Bool := false
  /-- The positive comparator tripped during blanking (R185). -/
  tripPos : Bool := false
  /-- The negative comparator tripped during blanking (R185). -/
  tripNeg : Bool := false
  /-- The hard comparator tripped during blanking (R186). -/
  tripHard : Bool := false
  /-- The blanking time formed at its start, in ECLK (R185). -/
  blankLen : Nat := 0
  /-- The thresholds formed at the last conversion of the leg's bus (R160). -/
  th : Thresholds := {}
  /-- The edges whose sense windows are open, newest first (R164). -/
  edges : List EdgeSt := []
  /-- The newest edge, seen from the present local meridian (R164). -/
  edgeAt : Int := 0
  /-- The ringing of the last 16 edges, newest first, in ECLK; 0 for an edge without a settle (R165). -/
  rings : List Nat := []
  /-- The last settle time of a rising edge (R164). -/
  settleRise : Nat := 0
  /-- The last settle time of a falling edge (R164). -/
  settleFall : Nat := 0
  /-- Time-stamp of the last comparator change (R182). -/
  nodeTs : Nat := 0
  /-- A comparator has changed since reset (R182). -/
  nodeSeen : Bool := false
deriving DecidableEq, Repr

/-- The state of one constellation besides its registers. -/
structure TbSt where
  /-- EN written, first meridian not yet reached (R130). -/
  starting : Bool := false
  /-- DOUBLE as in force in the present period (R130). -/
  dbl : Bool := false
  /-- The sealed period that waits for its meridian (R143). -/
  sealed : Option Nat := none
  /-- The period in the pending latch (R143). -/
  pend : Option Nat := none
  /-- LINK_EN as it stood at the TB_GO of the sealed period (R145). -/
  link : Bool := false
  /-- LINK_EN as it stood at the TB_GO of the pending period (R145). -/
  linkPend : Bool := false
  /-- Windows passed with a linked leg not fresh (R145). -/
  n : Nat := 0
  /-- What the open window of the next meridian found: every linked leg fresh or not (R145). -/
  take : Option Bool := none
  /-- The meridian has been passed and its tick is awaited (R131, R144). -/
  took : Bool := false
  /-- The last meridian on the LCLK grid, in fine steps modulo 64 (R131). -/
  phase : Nat := 0
  /-- The last tick was an antimeridian tick (R129). -/
  anti : Bool := false
  /-- It ran at the acceptance of DORMANT (R41). -/
  wasRunning : Bool := false
  /-- The constellation whose next meridian tick the start awaits, and SYNC_OFS as it stood at the start (R130). -/
  syncTo : Option (Nat × Nat) := none
  /-- The time-stamp of the first meridian of a start, once it is fixed (R130, R41). -/
  firstAt : Option Nat := none
deriving DecidableEq, Repr

/-! ## Axes (R192 to R291) -/

/-- What CATCH has seen of the LO pattern, and its estimate (R265). -/
structure CatchSt where
  /-- When CATCH began, time-stamp (R265). -/
  start : Nat := 0
  /-- The LO pattern last seen (R265). -/
  last : Option Nat := none
  /-- Steps of the pattern so far (R265). -/
  steps : Nat := 0
  /-- The crossing time of the first step, in fine steps (R163, R265). -/
  t1 : Int := 0
  /-- The crossing time of the second step, in fine steps (R163, R265). -/
  t2 : Int := 0
  /-- The second step ran forward (R265). -/
  forward : Bool := true
  /-- The sector boundary of the second step, as an angle (R265). -/
  theta : Nat := 0
  /-- A CATCH run started after the second step (R265). -/
  armed : Bool := false
deriving DecidableEq, Repr

/-- The state of one axis besides its registers. -/
structure AxSt where
  /-- The accepted axis command that waits to act: OP and FORCE (R258). -/
  cmd : Option (Nat × Bool) := none
  /-- Set faults that came while FORMING, each with its legs and cause, applied at the commit meridian (R208). -/
  faults : List (List Nat × Nat) := []
  /-- ASC was entered from CATCH (R286). -/
  ascFromCatch : Bool := false
  /-- The loss being handled came in STOPPING (R272). -/
  lossStopping : Bool := false
  /-- The last torque value routed to the axis (R266). -/
  torque : Int := 0
  /-- Residuals above LOSS_TH in a row (R268). -/
  lossRun : Nat := 0
  /-- Good runs in a row (R272). -/
  goodRun : Nat := 0
  /-- The held speed (R268). -/
  wHeld : Int := 0
  /-- The held angle (R268). -/
  thetaHeld : Nat := 0
  /-- Observer runs since the held one, for the extrapolated angle (R268). -/
  xRuns : Nat := 0
  /-- Speed of OBS_BEMF (R263). -/
  wB : Int := 0
  /-- Angle of OBS_BEMF (R263). -/
  thB : Nat := 0
  /-- Speed of OBS_HFI (R263). -/
  wH : Int := 0
  /-- Angle of OBS_HFI (R263). -/
  thH : Nat := 0
  /-- Contexts a loss transferred to MANUAL (R272). -/
  moved : List Nat := []
  /-- The stall condition holds now (R282). -/
  stalling : Bool := false
  /-- What CATCH has seen (R265). -/
  catching : CatchSt := {}
  /-- The mask leaves at the first commit after the current program's next run (R267). -/
  seeded : Bool := false
  /-- Runs of injection inside CONV_TH in a row (R261). -/
  convRun : Nat := 0
  /-- Polarity tests made (R262). -/
  polTests : Nat := 0
  /-- Half-cycles measured in the present pulse of the polarity test, and the sum of their d-current ripple (R262). -/
  ripple : Nat × Int := (0, 0)
  /-- The mean ripple of the positive pulse as its sum and count (R262). -/
  ripplePos : Nat × Int := (0, 0)
  /-- The polarity is decided (R262). -/
  polarity : Bool := false
  /-- The angle that the observer side offers the current program (R255). -/
  theta : Nat := 0
  /-- The rotor angle that a START from DC hands the observer, until its next run (R278). -/
  seed : Option Nat := none
  /-- AX_ALIGN_POS is new: OBS_ENC takes it at its next run (R264). -/
  zeroNext : Bool := false
  /-- The channel position that OBS_ENC takes as electrical zero (R264). -/
  encZero : Nat := 0
  /-- The electrical angle at that position (R278). -/
  encOfs : Nat := 0
  /-- DC holds for T_HOLD after STOPPING (R279). -/
  dcHold : Bool := false
  /-- The I²t accumulator in units of 2⁻³⁰ pu² times one fine step (R276). -/
  i2t : Nat := 0
deriving DecidableEq, Repr

/-- Where a mailbox command stands (R197, R198). -/
inductive MbxStage where
  | idle
  | queued
  | checking
  | waiting
  | passed
deriving DecidableEq, Repr

/-- One mailbox besides its registers: stage, the axis slot the command acts on. -/
structure MbxSt where
  /-- Where the command in the mailbox stands (R197, R198). -/
  stage : MbxStage := .idle
  /-- The axis slot the command acts on (R198). -/
  axis : Nat := 0
  /-- When its GO came, time-stamp (R197). -/
  since : Nat := 0
deriving DecidableEq, Repr

/-! ## Feedback (R292 to R314) -/

/-- One feedback channel besides its registers. -/
structure FbSt where
  /-- Filtered level of A (R294). -/
  a : Bool := false
  /-- Filtered level of B (R294). -/
  b : Bool := false
  /-- Filtered Hall state (R298). -/
  hall : Nat := 0
  /-- Time-stamp and direction, true up, of the last count edges, newest first (R302). -/
  edges : List (Nat × Bool) := []
  /-- Time-stamp and PX of the last latches or readings, newest first (R302). -/
  hist : List (Nat × Nat) := []
  /-- Homing under ZMODE 1 has taken its event (R297). -/
  zDone : Bool := false
  /-- Homing is armed (R297). -/
  homeArmed : Bool := false
  /-- A reading runs (R299). -/
  busy : Bool := false
  /-- The time-stamp of the running reading (R299). -/
  readTs : Nat := 0
  /-- Modes 4 and 5: the units checked since the last accepted reading, each with PX at its check (R305, R306). -/
  checked : List (Nat × Nat) := []
  /-- An accepted reading newer than the last latch (R301). -/
  fresh : Bool := false
  /-- Latches without a fresh reading in a row (R301). -/
  staleRun : Nat := 0
  /-- COUNT at the last latch (R301). -/
  latCount : Nat := 0
  /-- REV at the last latch (R301). -/
  latRev : Nat := 0
  /-- PX at the last latch (R301). -/
  latPx : Nat := 0
  /-- The Hall state at the last latch (R301). -/
  latHall : Nat := 0
  /-- VALID at the last latch (R301). -/
  latValid : Bool := false
deriving DecidableEq, Repr

/-! ## Rings and banks (R329 to R350) -/

/-- One ring besides its registers. -/
structure RingSt where
  /-- Entries of a hardware producer that QRE has staged, oldest first (R346). -/
  staged : List (List Word) := []
  /-- The set-point entries since the last take, oldest first: the time-stamp at which each became visible, its quantity and its value (R348,
  R367). -/
  sp : List (Nat × Nat × Word) := []
deriving DecidableEq, Repr

/-- A pop of an entry in progress on the SPU port: ring, read index at its first word, the entry (R345, R347). -/
structure PopSt where
  /-- The ring of the pop in progress (R345). -/
  ring : Nat
  /-- The read index at the first word of the pop (R345). -/
  at' : Nat
  /-- The words of the entry being popped (R345). -/
  words : List Word
  /-- How many of them have been read (R345). -/
  pos : Nat := 0
deriving DecidableEq, Repr

/-! ## Loop contexts and tuning sessions (R215 to R248, R315 to R325) -/

/-- What one program run gives: the values it hands on, its compare set, its state values and its flags (R216 to R224). Words are in
units of 2⁻¹⁵, state values and set-points in units of 2⁻³¹. -/
structure RunOut where
  /-- The values by capture code, code 1 first (R316). -/
  sig : List Int := []
  /-- The output, or v_d of a current program (R240, R255). -/
  out : Int := 0
  /-- v_q of a current program (R240). -/
  out2 : Int := 0
  /-- The measured value y that the run read, in the scale of r (R239). -/
  y : Int := 0
  /-- r* of the run (R239). -/
  target : Int := 0
  /-- r after the run (R239). -/
  r : Int := 0
  /-- The ramp started at this run (R239). -/
  ramped : Bool := false
  /-- The compare set, one pair for each leg the program drives (R222). -/
  pairs : List CmpPair := []
  /-- The 40-bit state values that the run writes (R224). -/
  state : List Int := []
  /-- LIMITED of the run (R218). -/
  limited : Bool := false
  /-- An accumulator left its range (R217). -/
  accOvf : Bool := false
  /-- The bus voltage lay below VBUS_MIN (R223). -/
  busLow : Bool := false
  /-- The squared current of the I²t sum, in units of 2⁻³⁰ (R276). -/
  i2 : Int := 0
  /-- The current that the stall test judges (R282). -/
  iStall : Int := 0
  /-- The speed that the run forms (R261, R284). -/
  w : Int := 0
  /-- The angle that the run used or formed (R223, R261, R284). -/
  theta : Nat := 0
  /-- The lower bound of i_q* that FWK gives (R273). -/
  lo : Int := 0
  /-- The upper bound of i_q* that FWK gives (R273). -/
  hi : Int := 0
  /-- i_d* = −ID_MAX with u below zero (R273); an injection half-cycle ended (R261); i_q* of SIX is negative (R283). -/
  mark : Bool := false
  /-- The run of PLAUS leaves its comparison out (R241). -/
  skip : Bool := false
  /-- The residual of PLAUS, or the angle error of OBS_HFI (R241, R261). -/
  resid : Int := 0
  /-- The threshold of PLAUS, or the ripple of a half-cycle of OBS_HFI (R241, R262). -/
  th : Int := 0
deriving DecidableEq, Repr

/-- A program placed (R233). -/
structure Placed where
  /-- The program (R221). -/
  prog : Nat
  /-- The exponent of its divider (R231). -/
  divl : Nat
  /-- The engine it starts on (R233). -/
  eng : Nat
  /-- Its start slot (R229). -/
  slot : Nat
  /-- Its phase (R231). -/
  phase : Nat
  /-- Its dual-run partner (R238). -/
  partner : Option Nat
deriving DecidableEq, Repr

/-- One loop context besides its registers and its memory. -/
structure LcSt where
  /-- The time-stamp of the local meridian after which it first runs (R200). -/
  liveFrom : Nat := 0
  /-- A transfer that waits: to MANUAL, and MAN_PRESET (R240). -/
  xfer : Option (Bool × Bool) := none
  /-- The last routed r*, in units of 2⁻³¹ (R239, R279). -/
  target : Int := 0
  /-- r in units of 2⁻³¹ (R239). -/
  now : Int := 0
  /-- The ramp starts at the next run (R239). -/
  rampFresh : Bool := true
  /-- Routed values, oldest first, each with the start of the current program that routed it, in LCLK from the present tick (R237). -/
  routed : List (Int × Int) := []
  /-- The torque feed-forward of SPD (R254). -/
  ff : Int := 0
  /-- Routed feed-forward values, as `routed` (R237, R254). -/
  ffNext : List (Int × Int) := []
  /-- It started in the present half (R245). -/
  ran : Bool := false
  /-- A run is in progress (R222). -/
  busy : Bool := false
  /-- HALT or DORMANT stopped its runs (R41, R237). -/
  stopped : Bool := false
  /-- Runs above the plausibility threshold in a row (R241). -/
  plOver : Nat := 0
  /-- Runs at or below the threshold in a row (R241). -/
  plUnder : Nat := 0
  /-- The comparison of the next run is skipped (R241). -/
  plSkip : Bool := true
  /-- The next automatic run presets its integrators from LC_MAN (R240). -/
  preset : Bool := false
  /-- A run has completed since the context was placed (R273). -/
  done : Bool := false
  /-- LC_TM.EN as the run in progress took it (R237). -/
  tm : Bool := false
  /-- What the run in progress gives when it completes (R222). -/
  cur : RunOut := {}
  /-- What the last completed run gave (R237, R316). -/
  last : RunOut := {}
  /-- Its context memory as it stood before the starts since the last completed run, none where none has started (R316). -/
  prior : Option (List Word) := none
  /-- The phase it had on its fenced engine, for the runs it loses (R245). -/
  phase0 : Nat := 0
  /-- The plan of its fenced engine was not complete at the fence (R245). -/
  planWait : Bool := false
deriving DecidableEq, Repr

/-- What a run of the injection context receives from a session. -/
structure Given where
  /-- The envelope, in steps of 1/FADE² (R320). -/
  env : Nat
  /-- The generator output (R319). -/
  u : Int
  /-- The interlocks hold it at zero (R321). -/
  zero : Bool
deriving DecidableEq, Repr

/-- One session of the TCU besides its registers. -/
structure SesSt where
  /-- The generator runs (R319). -/
  gen : Bool := false
  /-- The generator has ended or the session stopped: the envelope falls (R320). -/
  ending : Bool := false
  /-- The envelope in steps of 1/FADE² (R320). -/
  env : Nat := 0
  /-- What the falling envelope loses at each run (R320). -/
  fall : Nat := 0
  /-- The register of the pseudo-random sequence (R319). -/
  lfsr : Nat := 0
  /-- The phase of the generator (R319). -/
  phase : Nat := 0
  /-- The phase increment of the generator (R319). -/
  inc : Nat := 0
  /-- Runs the generator has made in its present step or sweep (R319). -/
  run : Nat := 0
  /-- The generator's present step (R319). -/
  step : Nat := 0
  /-- The step of the last completed run (R319). -/
  lastStep : Nat := 0
  /-- The last completed run lies in a MEAS span of a stepped sine (R319). -/
  inMeas : Bool := false
  /-- What the run in progress receives (R319, R321). -/
  given : Option Given := none
  /-- What the last run received (R321). -/
  u : Int := 0
  /-- The interlocks held the injection at zero (R321). -/
  zero : Bool := false
  /-- A run of the injection context was lost since the last record (R322). -/
  gap : Bool := false
  /-- Completed clock runs since the last record (R315). -/
  runs : Nat := 0
  /-- The number of the next record (R322). -/
  seq : Nat := 0
  /-- Records that wait for the banks: index in the buffer and words (R323). -/
  queue : List (Nat × List Word) := []
  /-- Records taken before the trigger (R322). -/
  pre : Nat := 0
  /-- Records taken from the trigger on (R322). -/
  post : Nat := 0
  /-- Records written from the trigger on (R322). -/
  wrote : Nat := 0
  /-- The next record is the trigger record (R322). -/
  mark : Bool := false
  /-- Signal 0 of the last run (R324). -/
  prev : Option Int := none
deriving DecidableEq, Repr

/-! ## Sampling (R176 to R184) -/

/-- One hold that waits in a converter: leg, axis, the number of the sample, and the time-stamp of the hold. -/
structure HoldSt where
  /-- The leg of a hold that waits in a converter (R176). -/
  leg : Nat
  /-- The axis of the hold (R176). -/
  axis : Nat
  /-- The number of its sample (R179). -/
  sample : Nat
  /-- The time-stamp of the hold (R179). -/
  at' : Nat
deriving DecidableEq, Repr

/-- One axis's sample in the making. -/
structure SampleSt where
  /-- The number of the axis's sample (R179). -/
  sample : Nat := 0
  /-- The holds of each leg in the sample, 0 for none (R180). -/
  used : Nat := 0
  /-- Holds of the series that have not closed (R180). -/
  series : Nat := 0
  /-- Its set is committed at an antimeridian (R179). -/
  anti : Bool := false
  /-- A node comparator changed within 40 ns before a hold (R182). -/
  disturbed : Bool := false
  /-- Sum and count of the corrected results by leg (R179). -/
  sums : List (Nat × Int × Nat) := []
  /-- RECON: the pair, and the third leg (R181). -/
  recon : Option (Nat × Nat × Nat) := none
  /-- HELD and RECON samples in a row (R181). -/
  fallbacks : Nat := 0
  /-- The sample of the coming run was placed (R180). -/
  placed : Bool := false
  /-- Time-stamp of the last hold (R179). -/
  holdTs : Nat := 0
  /-- The bus result received with the last hold (R184). -/
  vbus : Nat := 0
deriving DecidableEq, Repr

/-- One bus converter: conversions beyond OV and beyond UV in a row (R184). -/
structure BusSt where
  /-- Conversions beyond OV in a row (R184). -/
  ov : Nat := 0
  /-- Conversions beyond UV in a row (R184). -/
  uv : Nat := 0
  /-- The calibration record of type 2 of this bus was defaulted (R162). -/
  noCal : Bool := false
deriving DecidableEq, Repr

/-! ## Expansion port and networks (R109 to R122) -/

/-- The expansion port besides its registers. -/
structure XspSt where
  /-- Descriptors whose software transfer waits for a gap, oldest first (R113). -/
  wait : List Nat := []
  /-- The data words that the present or last write sends (R110). -/
  out : List Word := []
  /-- The CRC that the port sends in that transfer's trailer (R99, R109). -/
  trailer : Option Byte := none
deriving DecidableEq, Repr

/-- An MDIO frame: a poll or the host's, and what it carries, as it stood at its start (R117). -/
structure MdioFrame where
  /-- It is a poll (R117). -/
  poll : Bool
  /-- It writes (R117). -/
  write : Bool
  /-- The PHY address (R117). -/
  phy : Nat
  /-- The PHY register (R117). -/
  reg : Nat
  /-- The data of a write (R117). -/
  data : Word
deriving DecidableEq, Repr

/-- The Ethernet MAC besides its registers: the frame being sent, the MDIO frame that runs, a host frame that waits, and the filters that
a destroyed ring disabled (R116, R117, R122). -/
structure EthSt where
  /-- The frame being sent, with its FCS (R116). -/
  tx : Option (List Byte) := none
  /-- The MDIO frame that runs (R117). -/
  mdio : Option MdioFrame := none
  /-- The host's MDIO frame that waits for the poll to end (R117). -/
  mdioHost : Option MdioFrame := none
  /-- Filters that a destroyed ring disabled, one bit each (R122). -/
  dead : Nat := 0
deriving DecidableEq, Repr

/-- A CAN controller besides its registers (R119, R121, R122). -/
structure CanSt where
  /-- The frame being sent, as its entry asks for it (R119). -/
  tx : Option CanFrame := none
  /-- The transmit error counter (R119). -/
  tec : Nat := 0
  /-- The receive error counter (R119). -/
  rec' : Nat := 0
  /-- It has seen 11 recessive bits since it was enabled (R380). -/
  integrated : Bool := false
  /-- Recovery from bus-off was commanded (R119). -/
  recovering : Bool := false
  /-- Filters that a destroyed ring disabled, one bit each (R122). -/
  dead : Nat := 0
deriving DecidableEq, Repr

/-! ## Machine safety (R386 to R414) -/

/-- One STO group besides its registers. -/
structure StgSt where
  /-- Latches with STO reaction: bit n, n below 16, that of source 0x40 + n; bit 16 + p SHL_STO_DISC of pair p; bit 24 + n SHL_CFB of CDRn
  (R414). -/
  latch : Nat := 0
  /-- Latches with SS1 reaction, numbered alike (R414). -/
  latchSs1 : Nat := 0
  /-- The count of the running window (R396). -/
  count : Int := 0
  /-- The count of the last window (R396). -/
  last : Int := 0
  /-- Windows above SLS_LIM in a row (R397). -/
  slsRun : Nat := 0
  /-- The SDI accumulator (R398). -/
  sdi : Nat := 0
  /-- SDI was active (R398). -/
  sdiOn : Bool := false
  /-- The envelope of SS1, none until the window in which SS1 began has ended (R395). -/
  env : Option Int := none
deriving DecidableEq, Repr

/-- SHL besides its registers and its groups. -/
structure ShlSt where
  /-- The variant that the last core reset found decoded is a TM6432, whose copies travel on CAN0 and CAN1 (R1, R388). -/
  small : Bool := false
  /-- The filtered taps of the feedback channels (R309, R396). -/
  taps : Tab Taps := []
  /-- Filtered levels of the A wires of the STO pairs, one bit a pair (R394). -/
  stoA : Nat := 0
  /-- Filtered levels of the B wires of the STO pairs (R394). -/
  stoB : Nat := 0
  /-- The PLL-loss override in force, with the UCG map it froze (R28, R402). -/
  pll : Option Nat := none
  /-- OFF held on every leg for DORMANT (R39). -/
  hold : Bool := false
  /-- Bit n: CDRn changed less than TRANS_T ago (R401). -/
  trans : Nat := 0
  /-- Bit n: the group of CDRn entered STO less than DELAY ago (R400). -/
  delay : Nat := 0
  /-- Pending Futra copies of the first network, oldest first (R405). -/
  pend0 : List (List Byte) := []
  /-- Pending Futra copies of the second network, oldest first (R405). -/
  pend1 : List (List Byte) := []
  /-- The last two accepted sequence numbers, newest first (R407). -/
  seqs : List Nat := []
  /-- The ACK byte of the last accepted pair (R393). -/
  ack : Option Nat := none
  /-- The check-value computation runs (R410). -/
  checking : Bool := false
  /-- `PCH_CHECK` was written equal to `SHL_CHECK` in the swap window (R412). -/
  windowCheck : Bool := false
deriving DecidableEq, Repr

/-! ## Fault collection (R368 to R385) -/

/-- FCR besides its registers. -/
structure FcrSt where
  /-- By source: occurrences in the running escalation window, and whether the source has escalated (R375). -/
  esc : Tab (Nat × Bool) := []
  /-- The page of the unit whose return check runs (R380). -/
  unfence : Option Nat := none
  /-- The sources, with their units, that fenced a unit since it last left its fence: page, source, unit named (R380). -/
  fencedBy : List (Nat × Nat × Nat) := []
  /-- The page of the unit each bank was seized from (R378); 0 for the host. -/
  seizedFrom : Tab Nat := []
  /-- Sources with their units that signalled HALT since HALT was entered (R381). -/
  haltBy : List (Nat × Nat) := []
deriving DecidableEq, Repr

/-! ## Fuses (R49 to R79) -/

/-- An OTP command that runs: its operation, word, margin, unit, data and FORCE, as they stood at its GO. -/
structure OtpRun where
  /-- The operation of the OTP command that runs (R64). -/
  op : Nat
  /-- Its word (R64). -/
  word : Nat
  /-- Its margin (R64). -/
  margin : Nat
  /-- Its unit (R64). -/
  unit : Nat
  /-- Its data (R64). -/
  data : Word
  /-- Its FORCE byte (R70). -/
  force : Nat
  /-- The words it pulses, in order, each with the bits to set (R67). -/
  targets : List (Nat × BitVec 39)
deriving DecidableEq, Repr

/-- OTP besides its registers. -/
structure OtpSt where
  /-- The stored bits of every fuse word, as each margin reads them (R72). -/
  fuses : Tab FuseRaw := []
  /-- The OTP command that runs (R64). -/
  run : Option OtpRun := none
  /-- VQPS has been out of range during the command (R65). -/
  lost : Bool := false
deriving DecidableEq, Repr

/-! ## Security and debug (R417 to R436) -/

/-- A supervisor image that is being verified: its source (0 flash, 1 debug load, 2 swap), header, address of the header in memory
where it has one, and whether it was read whole (R422, R423). -/
structure AuthSt where
  /-- Where the image that is being verified comes from: 0 flash, 1 debug load, 2 swap (R422). -/
  source : Nat
  /-- Its header, where it has no address (R422). -/
  header : List Word
  /-- The address of its header in memory (R423). -/
  addr : Nat
  /-- It was read whole (R422). -/
  readOk : Bool
deriving DecidableEq, Repr

/-- A swap image in state CHECKED (R432, R433). -/
structure ImageSt where
  /-- The address of its header (R432). -/
  addr : Nat
  /-- Its length in bytes, header included (R432). -/
  len : Nat
  /-- LOAD + ENTRY (R433). -/
  entry : Nat
  /-- The index of its key (R436). -/
  key : Nat
  /-- Its check authenticated it (R417). -/
  auth : Bool
deriving DecidableEq, Repr

/-- SEC and the test access port besides their registers. -/
structure SecSt where
  /-- The boot or debug-load verification that runs (R422). -/
  auth : Option AuthSt := none
  /-- The swap verification that runs (R432). -/
  swap : Option AuthSt := none
  /-- The checked swap image (R432, R433). -/
  image : Option ImageSt := none
  /-- The address the SPU starts at once an image runs (R423, R433). -/
  entry : Option Nat := none
  /-- A challenge is issued, unspent and unexpired (R427). -/
  chal : Bool := false
  /-- The level the challenge was issued for (R427). -/
  chalLevel : Nat := 0
  /-- FW_WAIT's timer has passed and boot flash is read again (R423). -/
  rereads : Bool := false
  /-- A debug response under verification (R427). -/
  response : Option (List Word) := none
  /-- The level was granted by challenge (R418). -/
  byChal : Bool := false
  /-- The instruction of the test access port (R431). -/
  ir : Nat := 1
  /-- The debug module's registers, by address (R425). -/
  dm : Tab Word := []
  /-- What the last scan of IDCODE, DTMCS, DMI or BYPASS gave (R431). -/
  scan : Word := 0
deriving DecidableEq, Repr

/-! ## Host port (R92 to R103) -/

/-- The host port's output: the status word of the last frame's command and address phases, its data words and its trailer. -/
structure HspSt where
  /-- HSDO was driven in the last frame; in a frame that is not answered it stays at high impedance (R44, R77, R94). -/
  driven : Bool := false
  /-- The status word of the last frame's command and address phases (R95). -/
  status : Nat := 0
  /-- The data words of the last frame's answer (R94). -/
  data : List Word := []
  /-- The CRC that the device sent in the last frame's trailer (R99). -/
  trailer : Option Byte := none
  /-- The bits of the status word that the previous frame gives (R95). -/
  prev : Nat := 0
deriving DecidableEq, Repr

/-- The SPU as far as the manual gives it state. Firmware runs outside the model: what it leaves in the registers while the SPU executes is
open (DESIGN CHOICE, log entry 11). -/
structure SpuSt where
  /-- What the last load or fetch of the SPU from a memory window, or its last read of a counter, returned (R89, R332). -/
  data : Word := 0
  /-- The last access of the SPU took an access fault (R341). -/
  fault : Bool := false
  /-- The draw at which it last executed; none where its registers hold their reset values (R433). -/
  ran : Option Nat := none
  /-- Registers and CSRs that the debug module has written since it last executed, by their abstract numbers (R425). -/
  regs : Tab (Option Word) := []
  /-- The four hardware triggers by index × 4 + place, and at 16 their selector (R425). -/
  trig : Tab Word := []
  /-- The last taken branches, oldest first, at most 256 (R425, R436). -/
  trace : List Word := []
deriving DecidableEq, Repr

/-- The whole block but its two addressed memories and the queue of commands. -/
structure Block where
  /-- Every register that does not hold its reset value, by byte address (R6). -/
  regs : Tab Word := []
  /-- The time-stamp counter (R9). -/
  ts : BitVec 64 := 0
  /-- High words and flag words latched by the read of a counter's low word, by master and address (R89). -/
  latches : Tab (Option Word) := []
  /-- Register words of fenced pages as they stood at the fence, by byte address (R85). -/
  snap : Tab Word := []
  /-- Sources raised and not yet received by FCR, oldest first (R373). -/
  wires : List Raised := []
  /-- How many open values have been drawn; the model's own counter (DESIGN CHOICE, log entry 6). -/
  free : Nat := 0
  /-- For a register whose write waits for the leg's next local meridian, the word still in effect, by byte address (R146, R191). -/
  deferred : Tab (Option Word) := []
  /-- Clock and reset besides the CRM registers. -/
  crm : CrmSt := {}
  /-- The legs besides their registers, by number (R127). -/
  legs : Tab LegSt := []
  /-- The constellations besides their registers, by number (R130). -/
  tbs : Tab TbSt := []
  /-- The axis slots besides their registers, by number (R192). -/
  axes : Tab AxSt := []
  /-- The mailboxes besides their registers (R197). -/
  mbxs : Tab MbxSt := []
  /-- Command pins in loss whose signal has been valid for RECOV, one bit each (R211). -/
  cpOk : Nat := 0
  /-- Set-points from command pins that an axis has not taken, by axis × 2 + quantity (R210). -/
  pinSp : Tab (Option Nat) := []
  /-- The feedback channels besides their registers, by number (R292). -/
  fbs : Tab FbSt := []
  /-- Latch of PCO0 to PCO7, one bit each (R308). -/
  pcoLatch : Nat := 0
  /-- Running pulse of PCO0 to PCO7, one bit each (R308). -/
  pcoPulse : Nat := 0
  /-- The rings besides their registers, by number (R342). -/
  rings : Tab RingSt := []
  /-- Words of a partial push on the SPU port, oldest first (R345). -/
  spuPush : List Word := []
  /-- A pop in progress on the SPU port (R345). -/
  spuPop : Option PopSt := none
  /-- Words whose stored code bits are wrong, by byte address: 1 correctable, 2 not (R330). -/
  upset : Tab Nat := []
  /-- The offsets, in words, that the running parity recompute of each stripe has passed (R333). -/
  passed : Tab Nat := []
  /-- A handover accepted and not yet in effect, by bank (R335). -/
  handover : Tab (Option Nat) := []
  /-- Banks that have not been READY since the core was released, one bit each (R329). -/
  bankNew : Nat := 0xFFFFFFFFFFF
  /-- Banks that wait for their wake, one bit each (R339). -/
  wakeWait : Nat := 0
  /-- The expansion port besides its registers. -/
  xsp : XspSt := {}
  /-- The Ethernet MAC besides its registers. -/
  eth : EthSt := {}
  /-- CAN controller 0 besides its registers. -/
  can0 : CanSt := {}
  /-- CAN controller 1 besides its registers. -/
  can1 : CanSt := {}
  /-- The loop contexts besides their registers, by number (R221). -/
  lcs : Tab LcSt := []
  /-- The complete cover plan of each engine: its contexts, each with the place the plan gives it, if any (R244). -/
  plans : Tab (List (Nat × Option Placed)) := []
  /-- The holds that wait in each converter, oldest first (R176). -/
  convs : Tab (List HoldSt) := []
  /-- The sample of each axis in the making (R179). -/
  samples : Tab SampleSt := []
  /-- The bus converters besides their registers (R184). -/
  buses : Tab BusSt := []
  /-- The tuning sessions besides their registers (R315). -/
  sess : Tab SesSt := []
  /-- The STO groups besides their registers (R390). -/
  stgs : Tab StgSt := []
  /-- SHL besides its registers and groups. -/
  shl : ShlSt := {}
  /-- FCR besides its registers. -/
  fcr : FcrSt := {}
  /-- OTP besides its registers. -/
  otp : OtpSt := {}
  /-- Security, the SPU and the test access port besides their registers. -/
  sec : SecSt := {}
  /-- The host port's output and flags. -/
  hsp : HspSt := {}
  /-- The SPU. -/
  spu : SpuSt := {}
deriving DecidableEq, Repr

/-- The state of the machine. -/
structure State where
  b : Block
  /-- Banks and loop-context memory by byte address; an address that is not listed reads 0 (R329). -/
  mem : List Host.Cell
  /-- Commands that wait, first in first out. -/
  pending : List Instr
deriving DecidableEq, Repr

/-- The machine with PORST_N low and every rail in range. -/
def State.reset : State := { b := {}, mem := [], pending := [] }

end Sys2Proof.Machine
end

