-- ==== Sys2Proof/Machine/Ops.lean ====
section
/-!
DEFINITION. The named operations over the tables and the registers: canonical tables, register and field access, page header
operations (R83 to R91), counters, raising a source, and arithmetic with the manual's roundings.
-/

namespace Sys2Proof

/-! ## Tables -/

/-- The value at key `k`; `d` where the table has none. -/
def Tab.get {α : Type} (d : α) : Tab α → Nat → α
  | [], _ => d
  | (a, v) :: t, k => if a = k then v else Tab.get d t k

/-- The table without key `k`. -/
def Tab.del {α : Type} : Tab α → Nat → Tab α
  | [], _ => []
  | (a, x) :: t, k => if a = k then Tab.del t k else (a, x) :: Tab.del t k

/-- An entry put before the first greater key. -/
def Tab.ins {α : Type} : Tab α → Nat → α → Tab α
  | [], k, v => [(k, v)]
  | (a, x) :: t, k, v => if k < a then (k, v) :: (a, x) :: t else (a, x) :: Tab.ins t k v

/-- The table with `v` at key `k`; an entry that would hold the default is left out. -/
def Tab.set {α : Type} [DecidableEq α] (d : α) (t : Tab α) (k : Nat) (v : α) : Tab α :=
  if v = d then Tab.del t k else Tab.ins (Tab.del t k) k v

/-- Keys strictly rising from above `lo`, no default value. -/
def Tab.wfFrom {α : Type} [DecidableEq α] (d : α) : Option Nat → Tab α → Bool
  | _, [] => true
  | lo, (a, v) :: t => (match lo with | none => true | some l => decide (l < a)) && decide (v ≠ d) && Tab.wfFrom d (some a) t

/-- The canonical form. -/
def Tab.wf {α : Type} [DecidableEq α] (d : α) (t : Tab α) : Bool := Tab.wfFrom d none t

/-! ## Numbers -/

/-- Bit `i` of `n`. -/
def bit (n i : Nat) : Bool := n / 2 ^ i % 2 == 1

/-- `n` with bit `i` set to `v`. -/
def setBit (n i : Nat) (v : Bool) : Nat :=
  if bit n i == v then n else if v then n + 2 ^ i else n - 2 ^ i

/-- The bits `i < w` that are set in `n`, lowest first. -/
def bitsOf (n w : Nat) : List Nat := (List.range w).filter (bit n)

/-- The number whose bits are the members of `l`. -/
def ofBits (l : List Nat) : Nat := l.foldl (fun n i => setBit n i true) 0

/-- The low `w` bits of `n` read as two's complement. -/
def sx (w n : Nat) : Int :=
  let m := n % 2 ^ w
  if m < 2 ^ (w - 1) then (m : Int) else (m : Int) - 2 ^ w

/-- `i` as a `w`-bit two's complement number. -/
def ux (w : Nat) (i : Int) : Nat := (i % (2 ^ w : Int)).toNat

/-- `i` saturated to `w`-bit two's complement. -/
def satS (w : Nat) (i : Int) : Int :=
  let m : Int := 2 ^ (w - 1)
  if i < -m then -m else if i ≥ m then m - 1 else i

/-- `i` limited to the range from `lo` to `hi`. -/
def clampI (lo hi i : Int) : Int := if i < lo then lo else if hi < i then hi else i

/-- The quotient rounded to the nearest number, ties to even. -/
def divRne (n : Int) (d : Nat) : Int :=
  let q := n / d
  let r := n % d
  if 2 * r < d then q else if 2 * r > d then q + 1 else if q % 2 = 0 then q else q + 1

/-- The same on natural numbers. -/
def divRneN (n d : Nat) : Nat := (divRne n d).toNat

/-- Byte `k` of a word, byte 0 the lowest. -/
def byteOf (w : Word) (k : Nat) : Byte := BitVec.ofNat 8 (w.toNat / 2 ^ (8 * k))

/-- The word of four bytes, the first the lowest (R80). -/
def wordOf (b0 b1 b2 b3 : Byte) : Word :=
  BitVec.ofNat 32 (b0.toNat + 256 * b1.toNat + 65536 * b2.toNat + 16777216 * b3.toNat)

/-- Field of `w` bits at bit `lo` of a word. -/
def slice (x : Word) (lo w : Nat) : Nat := x.toNat / 2 ^ lo % 2 ^ w

/-- The field `f` of a word of its register. -/
def Fld.of (f : Fld) (x : Word) : Nat := slice x f.lo f.w

/-- A word of `f`'s register with `f` at `v`. -/
def Fld.into (f : Fld) (x : Word) (v : Nat) : Word :=
  BitVec.ofNat 32 (x.toNat - slice x f.lo f.w * 2 ^ f.lo + (v % 2 ^ f.w) * 2 ^ f.lo)

/-- A number's low bits, the most significant first. -/
def bitsMsb (w n : Nat) : List Bool := (List.range w).map (fun i => bit n (w - 1 - i))

/-- CRC-8: polynomial 0x2F, initial value 0xFF, final XOR with 0xFF (R99). -/
def crc8 (l : List Bool) : Nat :=
  (l.foldl (fun c x => let d := c * 2 % 256; if bit c 7 != x then d ^^^ 0x2F else d) 0xFF) ^^^ 0xFF

/-! ## Reset values (R45) -/

/-- One row of a table of error sources: number, default reaction, mask of allowed reactions (R371). -/
structure SrcRow where
  src : Nat
  react : Nat
  allowed : Nat
deriving DecidableEq, Repr

/-- The assigned sources with their default and allowed reactions: R46, R105, R124, R156, R188, R212, R247, R288, R310, R351, R369
and their like; for the SHL sources R414. Reaction codes as R371: 0 RECORD, 1 AXIS_SAFE, 2 FENCE, 3 LIMP, 4 HALT, 5 RING_FREEZE,
6 FIXED. -/
def srcRows : List SrcRow :=
  [⟨0x01, 6, 0x40⟩, ⟨0x02, 0, 0x19⟩, ⟨0x03, 4, 0x10⟩, ⟨0x04, 4, 0x10⟩, ⟨0x05, 0, 0x19⟩, ⟨0x06, 0, 0x19⟩, ⟨0x07, 0, 0x11⟩,
   ⟨0x08, 0, 0x11⟩, ⟨0x09, 0, 0x11⟩, ⟨0x0A, 0, 0x01⟩, ⟨0x0B, 0, 0x19⟩, ⟨0x0C, 0, 0x19⟩, ⟨0x0D, 0, 0x11⟩, ⟨0x0E, 0, 0x11⟩,
   ⟨0x0F, 0, 0x11⟩, ⟨0x10, 0, 0x19⟩, ⟨0x11, 4, 0x10⟩, ⟨0x12, 0, 0x13⟩, ⟨0x13, 1, 0x12⟩, ⟨0x14, 0, 0x11⟩, ⟨0x15, 0, 0x13⟩,
   ⟨0x16, 1, 0x12⟩, ⟨0x17, 0, 0x13⟩, ⟨0x18, 0, 0x13⟩, ⟨0x19, 0, 0x13⟩, ⟨0x1A, 0, 0x13⟩, ⟨0x1B, 2, 0x14⟩, ⟨0x1C, 0, 0x11⟩] ++
  [⟨0x1D, 0, 0x11⟩, ⟨0x1E, 0, 0x13⟩, ⟨0x1F, 2, 0x14⟩, ⟨0x20, 0, 0x13⟩, ⟨0x21, 0, 0x13⟩, ⟨0x22, 1, 0x12⟩, ⟨0x23, 1, 0x12⟩,
   ⟨0x24, 0, 0x11⟩, ⟨0x25, 0, 0x11⟩, ⟨0x26, 0, 0x13⟩, ⟨0x27, 0, 0x11⟩, ⟨0x28, 0, 0x13⟩, ⟨0x29, 0, 0x13⟩, ⟨0x2A, 0, 0x13⟩,
   ⟨0x2B, 0, 0x13⟩, ⟨0x2C, 0, 0x13⟩, ⟨0x2D, 0, 0x13⟩, ⟨0x2E, 0, 0x01⟩, ⟨0x2F, 0, 0x01⟩, ⟨0x30, 0, 0x11⟩, ⟨0x31, 0, 0x15⟩,
   ⟨0x32, 5, 0x30⟩, ⟨0x33, 2, 0x14⟩, ⟨0x34, 2, 0x14⟩, ⟨0x35, 2, 0x14⟩, ⟨0x36, 6, 0x40⟩, ⟨0x37, 0, 0x19⟩, ⟨0x38, 4, 0x10⟩] ++
  [⟨0x40, 0, 0x19⟩, ⟨0x41, 0, 0x19⟩, ⟨0x42, 0, 0x19⟩, ⟨0x43, 0, 0x19⟩, ⟨0x44, 0, 0x19⟩, ⟨0x45, 0, 0x19⟩, ⟨0x46, 0, 0x19⟩,
   ⟨0x47, 0, 0x19⟩, ⟨0x48, 0, 0x19⟩, ⟨0x49, 0, 0x19⟩, ⟨0x4A, 0, 0x19⟩, ⟨0x4B, 0, 0x19⟩, ⟨0x4C, 0, 0x19⟩, ⟨0x4D, 4, 0x19⟩,
   ⟨0x4E, 0, 0x19⟩]

/-- The row of source `n`, where `n` is assigned (R368). -/
def srcRow (n : Nat) : Option SrcRow := srcRows.find? (fun r => r.src == n)

/-- The reset value of element `j` of a register on the page of unit `i`: the register table's, but for the values it gives by
page or by source (R83, R371, R385). -/
def Reg.resetW (r : Reg) (i j : Nat) : Word :=
  if r = HDR.EVT_LINE then (if i = 0x12 ∨ i = 0x13 then 0xFFFFFFFF#32 else 0)
  else if r = FCR.SRC_CFG then
    match srcRow j with
    | some s => BitVec.ofNat 32 (s.react + s.allowed * 16777216)
    | none => 0
  else BitVec.ofNat 32 r.reset

/-- The word a register holds after `w` is written under the access codes (R6, R8, R86). -/
def Reg.merge (r : Reg) (locked : Bool) (old w : Word) : Word :=
  let keep := BitVec.ofNat 32 (if locked then r.rw else r.rw ||| r.rwl)
  ((old &&& ~~~keep) ||| (w &&& keep)) &&& ~~~(w &&& BitVec.ofNat 32 r.w1c)

namespace Machine

/-! ## Registers and fields -/

/-- The stored word of a register. -/
def Block.rd (b : Block) (r : Reg) (i : Nat := 0) (j : Nat := 0) : Word := Tab.get (r.resetW i j) b.regs (r.addr i j)

/-- The block with the word of a register replaced. -/
def Block.wr (b : Block) (r : Reg) (v : Word) (i : Nat := 0) (j : Nat := 0) : Block :=
  { b with regs := Tab.set (r.resetW i j) b.regs (r.addr i j) v }

/-- The stored value of a field. -/
def Block.get (b : Block) (f : Fld) (i : Nat := 0) (j : Nat := 0) : Nat := f.of (b.rd f.reg i j)

/-- A one-bit field as a truth value. -/
def Block.on (b : Block) (f : Fld) (i : Nat := 0) (j : Nat := 0) : Bool := b.get f i j == 1

/-- The block with a field replaced (the low bits of `v`). -/
def Block.put (b : Block) (f : Fld) (v : Nat) (i : Nat := 0) (j : Nat := 0) : Block :=
  b.wr f.reg (f.into (b.rd f.reg i j) v) i j

/-- The block with a one-bit field replaced. -/
def Block.flag (b : Block) (f : Fld) (v : Bool) (i : Nat := 0) (j : Nat := 0) : Block := b.put f (if v then 1 else 0) i j

/-- A field with bits `mask` set. -/
def Block.orBits (b : Block) (f : Fld) (mask : Nat) (i : Nat := 0) (j : Nat := 0) : Block := b.put f (b.get f i j ||| mask) i j

/-- Bit `k` of a map field. -/
def Block.mapBit (b : Block) (f : Fld) (k : Nat) (i : Nat := 0) (j : Nat := 0) : Bool := bit (b.get f i j) k

/-- Bit `k` of a map field written. -/
def Block.setMap (b : Block) (f : Fld) (k : Nat) (v : Bool) (i : Nat := 0) (j : Nat := 0) : Block :=
  b.put f (setBit (b.get f i j) k v) i j

/-- A register back at its reset value. -/
def Block.resetReg (b : Block) (r : Reg) (i : Nat := 0) (j : Nat := 0) : Block := b.wr r (r.resetW i j) i j

/-- One occurrence on a saturating counter with its sticky OVF (R91). -/
def Block.bump (b : Block) (cnt ovf : Fld) (i : Nat := 0) (j : Nat := 0) : Block :=
  if b.get cnt i j = 2 ^ cnt.w - 1 then b.put ovf 1 i j else b.put cnt (b.get cnt i j + 1) i j

/-- `k` occurrences on a saturating counter with its sticky OVF (R91). -/
def Block.bumpBy (b : Block) (k : Nat) (cnt ovf : Fld) (i : Nat := 0) (j : Nat := 0) : Block :=
  let v := b.get cnt i j + k
  if 2 ^ cnt.w ≤ v then (b.put cnt (2 ^ cnt.w - 1) i j).put ovf 1 i j else b.put cnt v i j

/-- One step of a wrapping field (R91, SEQ fields). -/
def Block.wrapInc (b : Block) (f : Fld) (i : Nat := 0) (j : Nat := 0) : Block := b.put f (b.get f i j + 1) i j

/-- A fold over a list of numbers. -/
def Block.each (b : Block) (l : List Nat) (f : Block → Nat → Block) : Block := l.foldl f b

/-! ## Sub-state access -/

def Block.leg (b : Block) (n : Nat) : LegSt := Tab.get {} b.legs n
def Block.setLeg (b : Block) (n : Nat) (l : LegSt) : Block := { b with legs := Tab.set {} b.legs n l }
def Block.tb (b : Block) (k : Nat) : TbSt := Tab.get {} b.tbs k
def Block.setTb (b : Block) (k : Nat) (t : TbSt) : Block := { b with tbs := Tab.set {} b.tbs k t }

def Block.ax (b : Block) (n : Nat) : AxSt := Tab.get {} b.axes n
def Block.setAx (b : Block) (n : Nat) (a : AxSt) : Block := { b with axes := Tab.set {} b.axes n a }
def Block.mbx (b : Block) (n : Nat) : MbxSt := Tab.get {} b.mbxs n
def Block.setMbx (b : Block) (n : Nat) (a : MbxSt) : Block := { b with mbxs := Tab.set {} b.mbxs n a }

def Block.fb (b : Block) (n : Nat) : FbSt := Tab.get {} b.fbs n
def Block.setFb (b : Block) (n : Nat) (a : FbSt) : Block := { b with fbs := Tab.set {} b.fbs n a }

def Block.ring (b : Block) (n : Nat) : RingSt := Tab.get {} b.rings n
def Block.setRing (b : Block) (n : Nat) (a : RingSt) : Block := { b with rings := Tab.set {} b.rings n a }

def Block.lc (b : Block) (n : Nat) : LcSt := Tab.get {} b.lcs n
def Block.setLc (b : Block) (n : Nat) (a : LcSt) : Block := { b with lcs := Tab.set {} b.lcs n a }
def Block.ses (b : Block) (n : Nat) : SesSt := Tab.get {} b.sess n
def Block.setSes (b : Block) (n : Nat) (a : SesSt) : Block := { b with sess := Tab.set {} b.sess n a }

def Block.sample (b : Block) (n : Nat) : SampleSt := Tab.get {} b.samples n
def Block.setSample (b : Block) (n : Nat) (a : SampleSt) : Block := { b with samples := Tab.set {} b.samples n a }
def Block.bus (b : Block) (n : Nat) : BusSt := Tab.get {} b.buses n
def Block.setBus (b : Block) (n : Nat) (a : BusSt) : Block := { b with buses := Tab.set {} b.buses n a }
def Block.conv (b : Block) (n : Nat) : List HoldSt := Tab.get [] b.convs n
def Block.setConv (b : Block) (n : Nat) (a : List HoldSt) : Block := { b with convs := Tab.set [] b.convs n a }

def Block.can (b : Block) (c : Nat) : CanSt := if c = 0 then b.can0 else b.can1
def Block.setCan (b : Block) (c : Nat) (a : CanSt) : Block := if c = 0 then { b with can0 := a } else { b with can1 := a }

/-! ## Variants and pages (R1, R2, R81, R82) -/

/-- 0 TM6464, 1 TM6448, 2 TM6432 (R1, R55, R79). -/
def Block.variant (b : Block) : Nat :=
  let v := b.get OTP.FEAT_VARIANT
  if v = 0x48 then 1 else if v = 0x32 then 2 else 0

/-- The limit of a variant table row. -/
def Block.lim (b : Block) (a0 a1 a2 : Nat) : Nat :=
  match b.variant with
  | 0 => a0
  | 1 => a1
  | _ => a2

def Block.numLegs (b : Block) : Nat := b.lim 64 48 32
def Block.numConv (b : Block) : Nat := b.lim 32 24 16
def Block.numAxes (b : Block) : Nat := b.lim 24 16 12
def Block.numEng (b : Block) : Nat := b.lim 8 6 4
def Block.numCtx (b : Block) : Nat := b.lim 160 120 80
def Block.numRings (b : Block) : Nat := b.lim 64 48 32

/-- Whether a register page exists (R81, R82, R2). -/
def Block.pageExists (b : Block) (p : Nat) : Bool :=
  p < 0x14 && !(p == 6 && b.variant == 2)
  || (0x20 ≤ p && p < 0x20 + b.numLegs)
  || (0x60 ≤ p && p < 0x60 + b.numAxes)
  || (0x78 ≤ p && p < 0x90)
  || (0x90 ≤ p && p < 0xB0)
  || (0xB0 ≤ p && p < 0xB0 + b.numConv)
  || (0xD0 ≤ p && p < 0xD0 + b.numRings)
  || (0x110 ≤ p && p < 0x13C)
  || (0x140 ≤ p && p < 0x140 + b.numCtx)
  || (0x1E0 ≤ p && p < 0x1E0 + b.numEng)

/-- `PAGE_STAT.FENCED` of a page. -/
def Block.fenced (b : Block) (p : Nat) : Bool := b.on HDR.PAGE_STAT_FENCED p

/-- `PAGE_STAT.LOCKED` of a page. -/
def Block.locked (b : Block) (p : Nat) : Bool := b.on HDR.PAGE_STAT_LOCKED p

/-- Event `k` of a page sets. -/
def Block.evt (b : Block) (page k : Nat) : Block := b.setMap HDR.EVT_STAT_BITS k true page

/-! ## The device's state at large -/

/-- The core is out of reset and its clocks run: in operation, and in a wake from the release of the dividers (R40, R41). The time-stamp counts with
them (DESIGN CHOICE, log entry 126). -/
def Block.running (b : Block) : Bool := b.crm.phase == .run || b.crm.phase == .wakeBanks

/-- `CRM.MODE.CUR` (R35). -/
def Block.mode (b : Block) : Nat := b.get CRM.MODE_CUR

/-- The units that stand still in DORMANT work: the core runs, and `CUR` does not read DORMANT, as it does until the end of a wake (R36; DEDUCED,
log entry 126). -/
def Block.awake (b : Block) : Bool := b.running && b.mode != 5

/-- The present time-stamp. -/
def Block.now (b : Block) : Nat := b.ts.toNat

/-- A time-stamp stored in a pair of registers. -/
def Block.stamp (b : Block) (lo hi : Reg) (i : Nat := 0) (j : Nat := 0) : Block :=
  (b.wr lo (BitVec.ofNat 32 b.now) i j).wr hi (BitVec.ofNat 32 (b.now / 2 ^ 32)) i j

/-- The unit a source names is fenced, so that it raises nothing (R377); during its return check a source that would fence it is heard, as
it ends the return (R380; DEDUCED, log entry 119). -/
def Block.deaf (b : Block) (r : Raised) : Bool :=
  let p := r.unit % 0x1000
  b.fenced p && !(b.fcr.unfence == some p && b.get FCR.SRC_CFG_REACT 0 r.src == 2)

/-- A source raised towards FCR, unless the unit it names is fenced (R377) or the core does not run (R372). -/
def Block.raiseWith (b : Block) (r : Raised) : Block :=
  if b.running && b.mode != 5 && !b.deaf r then { b with wires := b.wires ++ [r] } else b

/-- A source raised by hardware, not by an access (R373). -/
def Block.raise (b : Block) (src unit : Nat) : Block := b.raiseWith ⟨src, unit, unit * 4096, 7, 0⟩

/-- A source that a chapter has reported of a fenced unit too (R114). -/
def Block.raiseFenced (b : Block) (src unit : Nat) : Block :=
  if b.running && b.mode != 5 then { b with wires := b.wires ++ [⟨src, unit, unit * 4096, 7, 0⟩] } else b

/-- What the SPU's access gave it. -/
def Block.spuGot (b : Block) (w : Word) (fault : Bool) : Block := { b with spu := { b.spu with data := w, fault := fault } }

/-- The SPU is reset: every register and CSR at its reset value (R377, R433). The trace buffer is SEC's and stays. -/
def Block.spuReset (b : Block) : Block := { b with spu := { trace := b.spu.trace } }

/-- A fresh open value (DESIGN CHOICE, log entry 6). -/
def Block.draw (b : Block) : Word × Block := (Config.freeWord b.free, { b with free := b.free + 1 })

/-! ## Register writes (R7, R8, R84 to R86) -/

/-- The number of a master in `REFUSAL.MASTER` (R83). -/
def Master.refusalCode : Master → Nat
  | .hsp => 0
  | .spu => 1
  | .debug => 2
  | _ => 3

/-- The number of a master in `FIRST_SRC.MASTER` (R385). -/
def Master.code : Master → Nat
  | .hsp => 0
  | .spu => 1
  | .debug => 2
  | .qre => 3
  | .net => 4
  | .tcu => 5
  | .lea => 6
  | .hw => 7

/-- What the block behind a page answers to a write. -/
inductive Ack where
  | ok
  /-- Refused with a code of the owning chapter's table, 0xFF for a code without a number (R83). -/
  | refused (code : Nat)
deriving DecidableEq, Repr

/-- What one access adds to the frame status (R95). -/
structure Access where
  refused : Bool := false
  fenced : Bool := false
  locked : Bool := false
  unmapped : Bool := false
deriving DecidableEq, Repr

/-- The two accesses' flags together. -/
def Access.or (a c : Access) : Access :=
  ⟨a.refused || c.refused, a.fenced || c.fenced, a.locked || c.locked, a.unmapped || c.unmapped⟩

/-- The plain effect of a write: every field by its access code. -/
def Block.store (b : Block) (r : Reg) (w : Word) (i : Nat := 0) (j : Nat := 0) : Block :=
  b.wr r (r.merge (b.locked (r.page + i)) (b.rd r i j) w) i j

/-- A refusal recorded on a page (R84). -/
def Block.refuse (b : Block) (page off : Nat) (m : Master) (code : Nat) : Block :=
  (b.wr HDR.REFUSAL (BitVec.ofNat 32 (code % 256 + off % 4096 * 256 + Master.refusalCode m * 1048576)) page).bump
    HDR.REFUSAL_CNT_COUNT HDR.REFUSAL_CNT_OVF page

/-- A write that reaches register `r` of a page body: discarded on a page that does not exist or is fenced, else the owning
block's effect `eff`, with its refusal recorded (R82, R84, R85, R86). -/
def Block.writeVia (b : Block) (m : Master) (r : Reg) (i j : Nat) (eff : Block → Block × Ack) : Block × Access :=
  let p := r.page + i
  if !b.pageExists p then (b, { unmapped := true })
  else if b.fenced p then (b, { fenced := true })
  else
    match eff b with
    | (b', .ok) => (b', {})
    | (b', .refused c) => (b'.refuse p (r.off + j * r.stride) m c, { refused := true })

/-- A master can write through the register fabric: the SPU unless fenced, HSP outside BOOT, the debug master at FULL (R94, R357,
R377, R425). -/
def Block.busOpen (b : Block) (m : Master) : Bool :=
  b.running && b.mode != 5 &&
    (match m with
     | .hsp => b.mode != 0
     | .spu => !b.fenced 9
     | .debug => b.get SEC.SEC_STAT_LEVEL == 2
     | _ => false)

/-- The state after such a write, for a command that is one register write. -/
def Block.cmdWrite (b : Block) (m : Master) (r : Reg) (i j : Nat) (eff : Block → Block × Ack) : Block :=
  if b.busOpen m then (b.writeVia m r i j eff).1 else b

/-- The meaning of a command that touches neither memory. -/
def State.onBlock (s : State) (f : Block → Block) : State := { s with b := f s.b }

end Machine

end Sys2Proof
end

