-- ==== Sys2Proof/Machine/Crypto.lean ====
section
/-!
DEFINITION. The checks the manual takes from standards: CRC-32 of IEEE 802.3 (R57, R410), CRC-32C without reflection (R403), SHA-256 of
FIPS 180-4 (R56, R70, R419) and ECDSA verification on P-256 of FIPS 186-5 (R422). Their constants are the standards', not the
manual's (PRESUMED, log entry 23).
-/

namespace Sys2Proof.Machine

/-! ## Cyclic codes -/

/-- `n` steps of the reflected CRC-32 register. -/
def crc32Bits : Nat → Word → Word
  | 0, c => c
  | n + 1, c => crc32Bits n (if c.getLsbD 0 then (c >>> 1) ^^^ 0xEDB88320#32 else c >>> 1)

/-- CRC-32 of IEEE 802.3. -/
def crc32 (bytes : List Byte) : Word :=
  bytes.foldl (fun c x => crc32Bits 8 (c ^^^ x.zeroExtend 32)) 0xFFFFFFFF#32 ^^^ 0xFFFFFFFF#32

/-- `n` steps of the CRC-32C register, most significant bit first. -/
def crc32cBits : Nat → Word → Word
  | 0, c => c
  | n + 1, c => crc32cBits n (if c.getLsbD 31 then (c <<< 1) ^^^ 0x1EDC6F41#32 else c <<< 1)

/-- The safety CRC of R403. -/
def crc32c (start : Word) (bytes : List Byte) : Word :=
  bytes.foldl (fun c x => crc32cBits 8 (c ^^^ wordOf 0 0 0 x)) start ^^^ 0xFFFFFFFF#32

/-- The data length code of a CAN FD frame (PRESUMED from ISO 11898-1, log entry 132). -/
def canDlc (n : Nat) : Nat :=
  if n ≤ 8 then n else if n ≤ 24 then 9 + (n - 9) / 4 else if n ≤ 32 then 13 else if n ≤ 48 then 14 else 15

/-- Bits with a stuff bit before each bit that follows five equal ones, and how many stuff bits that makes: the last bit and its run so far. -/
def canStuff : List Bool → Bool → Nat → List Bool × Nat
  | [], _, _ => ([], 0)
  | x :: xs, last, run =>
    if run = 5 then
      let s := !last
      let (l, n) := canStuff xs x (if x = s then 2 else 1)
      (s :: x :: l, n + 1)
    else
      let (l, n) := canStuff xs x (if x = last then run + 1 else 1)
      (x :: l, n)

/-- `n` bits of a value, the most significant first. -/
def bitsBE (n v : Nat) : List Bool := (List.range n).map (fun i => v.testBit (n - 1 - i))

/-- The bits of a CAN frame from its start of frame to the end of its data, unstuffed (PRESUMED from ISO 11898-1, log entry 132). -/
def canBits (f : CanFrame) : List Bool :=
  let id := f.id.toNat
  let rtr := f.remote && !f.fd
  let arb := if f.ide then bitsBE 11 (id / 2 ^ 18) ++ [true, true] ++ bitsBE 18 id ++ [rtr] else bitsBE 11 id ++ [rtr, false]
  let ctl := if f.fd then [true, false, f.brs, f.esi] else if f.ide then [false, false] else [false]
  false :: (arb ++ ctl ++ bitsBE 4 f.dlc ++ f.data.flatMap (fun x => bitsBE 8 x.toNat))

/-- A cyclic code over bits: its degree, its polynomial without the leading term, its start value. -/
def crcBits (deg poly start : Nat) (xs : List Bool) : Nat :=
  xs.foldl (fun c x =>
    let c' := c * 2 % 2 ^ deg
    if c.testBit (deg - 1) != x then c' ^^^ poly else c') start

/-- The CRC of a CAN frame (R119, R404; PRESUMED from ISO 11898-1, log entry 132). A classical frame has 15 bits over its unstuffed bits; an FD
frame has 17 bits, or 21 bits over 16 bytes of data, over its bits with their stuff bits and the stuff count in Gray code with its parity. -/
def canCrc (f : CanFrame) : Nat :=
  if !f.fd then crcBits 15 0x4599 0 (canBits f)
  else
    let (stuffed, n) := canStuff (canBits f) true 0
    let g := (n % 8) ^^^ (n % 8 / 2)
    let parity := (g.testBit 0 != g.testBit 1) != g.testBit 2
    let xs := stuffed ++ bitsBE 3 g ++ [parity]
    if f.dlc ≤ 10 then crcBits 17 0x1685B (2 ^ 16) xs else crcBits 21 0x102899 (2 ^ 20) xs

/-- The bytes of a word, most significant first. -/
def bytesBE (w : Word) : List Byte := [byteOf w 3, byteOf w 2, byteOf w 1, byteOf w 0]

/-! ## SHA-256 -/

def shaK : List Word :=
  [0x428A2F98#32, 0x71374491#32, 0xB5C0FBCF#32, 0xE9B5DBA5#32, 0x3956C25B#32, 0x59F111F1#32, 0x923F82A4#32, 0xAB1C5ED5#32,
   0xD807AA98#32, 0x12835B01#32, 0x243185BE#32, 0x550C7DC3#32, 0x72BE5D74#32, 0x80DEB1FE#32, 0x9BDC06A7#32, 0xC19BF174#32,
   0xE49B69C1#32, 0xEFBE4786#32, 0x0FC19DC6#32, 0x240CA1CC#32, 0x2DE92C6F#32, 0x4A7484AA#32, 0x5CB0A9DC#32, 0x76F988DA#32,
   0x983E5152#32, 0xA831C66D#32, 0xB00327C8#32, 0xBF597FC7#32, 0xC6E00BF3#32, 0xD5A79147#32, 0x06CA6351#32, 0x14292967#32] ++
  [0x27B70A85#32, 0x2E1B2138#32, 0x4D2C6DFC#32, 0x53380D13#32, 0x650A7354#32, 0x766A0ABB#32, 0x81C2C92E#32, 0x92722C85#32,
   0xA2BFE8A1#32, 0xA81A664B#32, 0xC24B8B70#32, 0xC76C51A3#32, 0xD192E819#32, 0xD6990624#32, 0xF40E3585#32, 0x106AA070#32,
   0x19A4C116#32, 0x1E376C08#32, 0x2748774C#32, 0x34B0BCB5#32, 0x391C0CB3#32, 0x4ED8AA4A#32, 0x5B9CCA4F#32, 0x682E6FF3#32,
   0x748F82EE#32, 0x78A5636F#32, 0x84C87814#32, 0x8CC70208#32, 0x90BEFFFA#32, 0xA4506CEB#32, 0xBEF9A3F7#32, 0xC67178F2#32]

def shaH0 : List Word :=
  [0x6A09E667#32, 0xBB67AE85#32, 0x3C6EF372#32, 0xA54FF53A#32,
   0x510E527F#32, 0x9B05688C#32, 0x1F83D9AB#32, 0x5BE0CD19#32]

/-- The next `n` words of the message schedule, newest first. -/
def shaSchedule : Nat → List Word → List Word
  | 0, w => w
  | n + 1, w =>
    let x := w.getD 14 0
    let y := w.getD 1 0
    let s0 := x.rotateRight 7 ^^^ x.rotateRight 18 ^^^ (x >>> 3)
    let s1 := y.rotateRight 17 ^^^ y.rotateRight 19 ^^^ (y >>> 10)
    shaSchedule n ((w.getD 15 0 + s0 + w.getD 6 0 + s1) :: w)

/-- One round on the eight working words. -/
def shaRound (v : List Word) (kw : Word × Word) : List Word :=
  let a := v.getD 0 0
  let b := v.getD 1 0
  let c := v.getD 2 0
  let e := v.getD 4 0
  let f := v.getD 5 0
  let g := v.getD 6 0
  let s1 := e.rotateRight 6 ^^^ e.rotateRight 11 ^^^ e.rotateRight 25
  let t1 := v.getD 7 0 + s1 + ((e &&& f) ^^^ (~~~e &&& g)) + kw.1 + kw.2
  let s0 := a.rotateRight 2 ^^^ a.rotateRight 13 ^^^ a.rotateRight 22
  let t2 := s0 + ((a &&& b) ^^^ (a &&& c) ^^^ (b &&& c))
  [t1 + t2, a, b, c, v.getD 3 0 + t1, e, f, g]

/-- One block of sixteen words. -/
def shaBlock (h m : List Word) : List Word :=
  let w := (shaSchedule 48 m.reverse).reverse
  List.zipWith (· + ·) h ((List.zip shaK w).foldl shaRound h)

/-- The blocks of a padded message. -/
def shaBlocks : Nat → List Word → List Word → List Word
  | 0, _, h => h
  | n + 1, m, h => shaBlocks n (m.drop 16) (shaBlock h (m.take 16))

/-- Words from bytes, the first byte the most significant. -/
def wordsBE : List Byte → List Word
  | a :: b :: c :: d :: t => wordOf d c b a :: wordsBE t
  | _ => []

/-- SHA-256 of a message of bytes. -/
def sha256 (msg : List Byte) : List Word :=
  let n := msg.length
  let zeros := (119 - n % 64) % 64
  let len := 8 * n
  let tail := bytesBE (BitVec.ofNat 32 (len / 2 ^ 32)) ++ bytesBE (BitVec.ofNat 32 len)
  let m := wordsBE (msg ++ [0x80#8] ++ List.replicate zeros 0#8 ++ tail)
  shaBlocks (m.length / 16) m shaH0

/-- A list of words read as one number, the first the most significant. -/
def bigOf (ws : List Word) : Nat := ws.foldl (fun n w => n * 2 ^ 32 + w.toNat) 0

/-! ## P-256 -/

def p256P : Nat := 2 ^ 256 - 2 ^ 224 + 2 ^ 192 + 2 ^ 96 - 1
def p256N : Nat := 0xFFFFFFFF00000000FFFFFFFFFFFFFFFFBCE6FAADA7179E84F3B9CAC2FC632551
def p256B : Nat := 0x5AC635D8AA3A93E7B3EBBD55769886BC651D06B0CC53B0F63BCE3C3E27D2604B
def p256Gx : Nat := 0x6B17D1F2E12C4247F8BCE6E563A440F277037D812DEB33A0F4A13945D898C296
def p256Gy : Nat := 0x4FE342E2FE1A7F9B8EE7EB4A7C0F9E162BCE33576B315ECECBB6406837BF51F5

/-- Square and multiply over the low `n` bits of the exponent. -/
def powMod (m : Nat) : Nat → Nat → Nat → Nat
  | 0, _, _ => 1
  | n + 1, x, e =>
    let r := powMod m n (x * x % m) (e / 2)
    if e % 2 = 1 then x * r % m else r

/-- The inverse modulo a prime. -/
def invMod (m x : Nat) : Nat := powMod m 256 (x % m) (m - 2)

/-- A point of the curve; none is the point at infinity. -/
abbrev EcPoint := Option (Nat × Nat)

/-- The chord-and-tangent sum. -/
def ecAdd (s t : EcPoint) : EcPoint :=
  match s, t with
  | none, t => t
  | s, none => s
  | some (x1, y1), some (x2, y2) =>
    let p := p256P
    if x1 = x2 ∧ (y1 + y2) % p = 0 then none
    else
      let l := if x1 = x2 then (3 * x1 * x1 + (p - 3)) * invMod p (2 * y1) % p
        else (y2 + p - y1) * invMod p (x2 + p - x1) % p
      let x := (l * l + 2 * p - x1 - x2) % p
      some (x, (l * (x1 + p - x) + p - y1) % p)

/-- The multiple of a point, over the low `n` bits of the factor. -/
def ecMul : Nat → Nat → EcPoint → EcPoint
  | 0, _, _ => none
  | n + 1, k, s =>
    let r := ecMul n (k / 2) (ecAdd s s)
    if k % 2 = 1 then ecAdd s r else r

/-- The point lies on the curve. -/
def onCurve (x y : Nat) : Bool :=
  decide (x < p256P) && decide (y < p256P) && (y * y) % p256P == (x * x * x + (p256P - 3) * x + p256B) % p256P

/-- ECDSA with SHA-256 over a message: key X, Y and signature r, s. -/
def ecdsaOk (x y r s : Nat) (msg : List Byte) : Bool :=
  onCurve x y && decide (0 < r) && decide (r < p256N) && decide (0 < s) && decide (s < p256N) &&
    (let e := bigOf (sha256 msg)
     let w := invMod p256N s
     match ecAdd (ecMul 256 (e * w % p256N) (some (p256Gx, p256Gy))) (ecMul 256 (r * w % p256N) (some (x, y))) with
     | none => false
     | some (v, _) => v % p256N == r)

end Sys2Proof.Machine
end

