-- ==== Sys2Proof/Machine/Mem.lean ====
section
/-!
DEFINITION. Memory: banks, owners, power, the two codes, stripes and the scrub (R329 to R341). A bank is numbered 0 to 43, DP0 to
DP3 being 40 to 43. The parity banks have no bus address; their words stand in the table of bytes above the bus's 24 bits, PBk at
0x100_0000 + k × 0x1_0000.
-/

namespace Sys2Proof.Machine

/-! ## Words in the table of bytes -/

/-- The byte at an address; an address that is not listed reads 0. -/
def memByte (m : List Host.Cell) (a : Nat) : Byte := Tab.get 0 m a

/-- The table with a byte written. -/
def memSet (m : List Host.Cell) (a : Nat) (v : Byte) : List Host.Cell := Tab.set 0 m a v

/-- The word at a word-aligned address, the first byte the lowest. -/
def memWord (m : List Host.Cell) (a : Nat) : Word :=
  wordOf (memByte m a) (memByte m (a + 1)) (memByte m (a + 2)) (memByte m (a + 3))

/-- The table with a word written. -/
def memPut (m : List Host.Cell) (a : Nat) (w : Word) : List Host.Cell :=
  memSet (memSet (memSet (memSet m a (byteOf w 0)) (a + 1) (byteOf w 1)) (a + 2) (byteOf w 2)) (a + 3) (byteOf w 3)

/-- Words written one after another. -/
def memPuts (m : List Host.Cell) (a : Nat) : List Word → List Host.Cell
  | [] => m
  | w :: ws => memPuts (memPut m a w) (a + 4) ws

/-- `n` words read one after another. -/
def memWords (m : List Host.Cell) (a n : Nat) : List Word := (List.range n).map (fun i => memWord m (a + 4 * i))

/-- Every byte from `lo` up to `hi` cleared. -/
def memClear (m : List Host.Cell) (lo hi : Nat) : List Host.Cell := m.filter (fun c => c.1 < lo || hi ≤ c.1)

/-! ## Banks -/

/-- The bank of an address (R80). -/
def bankOf (a : Nat) : Option Nat :=
  if 0x200000 ≤ a ∧ a < 0x480000 then some ((a - 0x200000) / 0x10000)
  else if 0x480000 ≤ a ∧ a < 0x490000 then some (40 + (a - 0x480000) / 0x4000)
  else none

/-- First address of a bank and the address after its last. -/
def bankRange (n : Nat) : Nat × Nat :=
  if n < 40 then (0x200000 + n * 0x10000, 0x210000 + n * 0x10000) else (0x480000 + (n - 40) * 0x4000, 0x484000 + (n - 40) * 0x4000)

/-- First address of a parity bank. -/
def parityBase (k : Nat) : Nat := 0x1000000 + k * 0x10000

def Block.bankOwner (b : Block) (n : Nat) : Nat := b.get BK.BANK_OWN_OWNER n
def Block.bankReady (b : Block) (n : Nat) : Bool := b.on BK.BANK_STAT_READY n
def Block.bankPwr (b : Block) (n : Nat) : Nat := b.get BK.BANK_STAT_PWR n

/-- The page of a bank. -/
def bankPage (n : Nat) : Nat := 0x110 + n

/-- The masters that write a bank of an owner (R334). -/
def ownerAllows (owner : Nat) (m : Master) : Bool :=
  match owner, m with
  | 0, .spu => true
  | 1, .hsp => true
  | 1, .debug => true
  | 2, .qre => true
  | 2, .net => true
  | 3, .tcu => true
  | _, _ => false

/-- The check of a write to a bank: none, BANK_NOT_READY 2 or BANK_NOT_OWNER 1 (R334, R341). -/
def Block.bankWriteCheck (b : Block) (n : Nat) (m : Master) : Option Nat :=
  if !b.bankReady n then some 2 else if ownerAllows (b.bankOwner n) m then none else some 1

/-- The parity recompute of stripe `k` runs (R333). -/
def Block.recomputes (b : Block) (k : Nat) : Bool := b.mapBit MEM.MEM_STAT_STRIPE_BUSY k

/-- The offsets of a stripe, in words, whose parity stands: those its recompute has passed, and all once it is complete (R333). -/
def Block.passedTo (b : Block) (k : Nat) : Nat := if b.recomputes k then Tab.get 0 b.passed k else 16384

/-- The word at `a` of a bank is protected: its stripe is enabled and the parity at its offset stands (R331, R333). -/
def Block.striped (b : Block) (n a : Nat) : Bool :=
  decide (n < 40) && b.mapBit MEM.MEM_CTL_STRIPE_EN (n / 8) && decide (a % 0x10000 / 4 < b.passedTo (n / 8))

/-- The bank's counter and the device's counter of one kind. -/
def Block.bankCount (b : Block) (n : Nat) (c o mc mo : Fld) : Block :=
  let b := b.bump mc mo
  if n < 44 then b.bump c o n else b

def Block.setUpset (b : Block) (a v : Nat) : Block := { b with upset := Tab.set 0 b.upset a v }
def Block.upsetAt (b : Block) (a : Nat) : Nat := Tab.get 0 b.upset a

/-! ## Writes (R331, R338) -/

/-- Bytes from `lo` up to `hi` are written: a checked swap image among them is no longer checked (R432). -/
def Block.imageWritten (b : Block) (lo hi : Nat) : Block :=
  match b.sec.image with
  | some x =>
    if b.get SEC.SWAP_STAT_STATE = 2 ∧ x.addr < hi ∧ lo < x.addr + x.len then
      { ((b.put SEC.SWAP_STAT_STATE 0).put SEC.SWAP_STAT_CODE 9) with sec := { b.sec with image := none } }
    else b
  | none => b

/-- A word written into a bank: data, and parity where the word is protected. -/
def State.putWord (s : State) (a : Nat) (w : Word) : State :=
  let b := (s.b.setUpset a 0).imageWritten a (a + 4)
  match bankOf a with
  | some n =>
    if s.b.striped n a then
      let p := parityBase (n / 8) + a % 0x10000
      { s with b := b, mem := memPut (memPut s.mem p (memWord s.mem p ^^^ memWord s.mem a ^^^ w)) a w }
    else { s with b := b, mem := memPut s.mem a w }
  | none => { s with b := b, mem := memPut s.mem a w }

/-! ## Reads and the rebuild (R330, R332) -/

/-- The other words of a striped word's offset, parity last, and their addresses. -/
def stripeMates (n a : Nat) : List Nat :=
  ((List.range 8).filter (fun i => i ≠ n % 8)).map (fun i => 0x200000 + (n / 8 * 8 + i) * 0x10000 + a % 0x10000) ++
    [parityBase (n / 8) + a % 0x10000]

/-- Every bank of a stripe is READY. -/
def Block.stripeReady (b : Block) (k : Nat) : Bool := (List.range 8).all (fun i => b.bankReady (8 * k + i))

/-- The single-bit corrections of the words that a rebuild reads (R330). -/
def Block.countMates (b : Block) (mates : List Nat) : Block :=
  b.each (mates.filter (fun x => b.upsetAt x == 1)) (fun b x =>
    b.bankCount ((bankOf x).getD 44) BK.BANK_CORR_COUNT BK.BANK_CORR_OVF MEM.CORR_CNT_COUNT MEM.CORR_CNT_OVF)

/-- A word that decodes as uncorrectable and cannot be rebuilt: reported, and answered as zero (R332). -/
def State.lostWord (s : State) (n a : Nat) (m : Master) (access : Nat) : Word × State :=
  let b := s.b.bankCount n BK.BANK_UNCORR_COUNT BK.BANK_UNCORR_OVF MEM.UNCORR_CNT_COUNT MEM.UNCORR_CNT_OVF
  let b := (b.put MEM.ERR_ADDR_ADDR a).put MEM.ERR_ADDR_VALID 1
  let b := (b.put BK.BANK_ERR_OFFSET (a - (bankRange n).1) n).put BK.BANK_ERR_VALID 1 n
  (0, { s with b := ((b.evt 0xA 1).evt (bankPage n) 0).raiseWith ⟨0x31, bankPage n, a, Master.code m, access⟩ })

/-! ## The parity recompute (R333) -/

/-- The parity words of a stripe computed from its eight banks, for the offsets from `lo` up to `hi` in words. -/
def parityRecompute (m : List Host.Cell) (k lo hi : Nat) : List Host.Cell :=
  let base := 0x200000 + k * 0x80000
  let here (a : Nat) : Bool := base ≤ a && a < base + 0x80000 && 4 * lo ≤ a % 0x10000 && a % 0x10000 < 4 * hi
  (m.filter (fun c => here c.1)).foldl (fun m c =>
    let p := parityBase k + c.1 % 0x10000
    memSet m p (memByte m p ^^^ c.2)) (memClear m (parityBase k + 4 * lo) (parityBase k + 4 * hi))

/-- The words of a stripe's banks with wrong code bits at the offsets from `lo` up to `hi`. -/
def Block.upsetsIn (b : Block) (k lo hi : Nat) : List (Nat × Nat) :=
  let base := 0x200000 + k * 0x80000
  b.upset.filter (fun c => base ≤ c.1 && c.1 < base + 0x80000 && 4 * lo ≤ c.1 % 0x10000 && c.1 % 0x10000 < 4 * hi)

/-- The parity of a range of offsets is written anew. At an offset with an uncorrectable data word it protects nothing: it stays uncorrectable
until the eight words are good (DESIGN CHOICE, log entry 54). -/
def State.parityRange (s : State) (k lo hi : Nat) : State :=
  let bad := (s.b.upsetsIn k lo hi).filter (fun c => c.2 == 2)
  let keep := s.b.upset.filter (fun c => c.1 < parityBase k + 4 * lo || parityBase k + 4 * hi ≤ c.1)
  let upset := bad.foldl (fun t c => Tab.set 0 t (parityBase k + c.1 % 0x10000) 2) keep
  { s with b := { s.b with upset := upset }, mem := parityRecompute s.mem k lo hi }

/-- The recompute of a stripe passes the offsets up to `hi`: what it reads is corrected and counted, or reported (R330, R332, R333). -/
def State.recomputeTo (s : State) (k hi : Nat) : State :=
  let lo := s.b.passedTo k
  if hi ≤ lo then s
  else
    let ups := s.b.upsetsIn k lo hi
    let b := b0 s ups
    let s := (ups.filter (fun c => c.2 == 2)).foldl (fun s c => (s.lostWord ((bankOf c.1).getD 44) c.1 .hw 0).2) { s with b := b }
    let s := s.parityRange k lo hi
    { s with b := { s.b with passed := Tab.set 0 s.b.passed k hi } }
where
  b0 (s : State) (ups : List (Nat × Nat)) : Block :=
    s.b.each ((ups.filter (fun c => c.2 == 1)).map Prod.fst) (fun b x =>
      b.bankCount ((bankOf x).getD 44) BK.BANK_CORR_COUNT BK.BANK_CORR_OVF MEM.CORR_CNT_COUNT MEM.CORR_CNT_OVF)

/-- While a recompute runs, an access to its stripe finds an open number of further offsets passed, for it takes the SCLK that are idle on all
nine banks; it starts once every bank of the stripe has initialised (R333; DESIGN CHOICE, log entry 54). -/
def State.recomputeStep (s : State) (k : Nat) : State :=
  if !s.b.recomputes k || (List.range 8).any (fun i => s.b.bankPwr (8 * k + i) == 4) then s
  else
    let (w, b) := s.b.draw
    let p := b.passedTo k
    State.recomputeTo { s with b := b } k (p + w.toNat % (16385 - p))

/-- A word that decodes as uncorrectable: rebuilt, written back and reported, or reported and answered as zero. -/
def State.rebuild (s : State) (n a : Nat) (m : Master) (access : Nat) : Word × State :=
  let s := s.recomputeStep (n / 8)
  let mates := stripeMates n a
  let b := s.b
  if b.striped n a && b.stripeReady (n / 8) && mates.all (fun x => b.upsetAt x != 2) then
    let w := mates.foldl (fun x p => x ^^^ memWord s.mem p) 0
    let b := b.countMates mates
    let b := (b.setUpset a 0).bankCount n BK.BANK_REBUILT_COUNT BK.BANK_REBUILT_OVF MEM.REBUILT_CNT_COUNT MEM.REBUILT_CNT_OVF
    (w, { s with b := (b.evt 0xA 0).raiseWith ⟨0x30, bankPage n, a, Master.code m, access⟩, mem := memPut s.mem a w })
  else s.lostWord n a m access

/-- A word read from a bank that is READY, as the requester receives it, and whether it was lost. Access types: 1 read, 3 instruction
fetch (R385). -/
def State.readBank (s : State) (n a : Nat) (m : Master) (access : Nat) : Word × Bool × State :=
  match s.b.upsetAt a with
  | 0 => (memWord s.mem a, false, s)
  | 1 =>
    (memWord s.mem a, false,
      { s with b := s.b.bankCount n BK.BANK_CORR_COUNT BK.BANK_CORR_OVF MEM.CORR_CNT_COUNT MEM.CORR_CNT_OVF })
  | _ =>
    let (w, s') := s.rebuild n a m access
    (w, s'.b.upsetAt a == 2, s')

/-- The parity word at `a` of stripe `k` as it is read: corrected, recomputed from the eight data words, or reported (R330, R332). -/
def State.readParity (s : State) (k a : Nat) : State :=
  let b := s.b
  match b.upsetAt a with
  | 0 => s
  | 1 => { s with b := (b.setUpset a 0).bump MEM.CORR_CNT_COUNT MEM.CORR_CNT_OVF }
  | _ =>
    let data := (List.range 8).map (fun i => 0x200000 + (8 * k + i) * 0x10000 + a % 0x10000)
    if b.striped (8 * k) a && b.stripeReady k && data.all (fun x => b.upsetAt x != 2) then
      let w := data.foldl (fun x p => x ^^^ memWord s.mem p) 0
      let b := ((b.countMates data).setUpset a 0).bump MEM.REBUILT_CNT_COUNT MEM.REBUILT_CNT_OVF
      { s with b := (b.evt 0xA 0).raiseWith ⟨0x30, 0xA, 0xA000, 7, 0⟩, mem := memPut s.mem a w }
    else
      { s with b := ((b.bump MEM.UNCORR_CNT_COUNT MEM.UNCORR_CNT_OVF).evt 0xA 1).raiseWith ⟨0x31, 0xA, 0xA000, 7, 0⟩ }

/-! ## Stores by the owner (R331, R338) -/

/-- The old word that a store merges into, the access that read it counted and reported: where the word is protected, with its parity word,
and where the store is of fewer than four bytes. One that is lost is the zero that MEM returns for it (DEDUCED, log entry 116). -/
def State.readOld (s : State) (n a : Nat) (m : Master) (partial' : Bool) : Word × State :=
  if s.b.striped n a then
    let r := s.readBank n a m 2
    (r.1, r.2.2.readParity (n / 8) (parityBase (n / 8) + a % 0x10000))
  else if partial' then ((s.readBank n a m 2).1, (s.readBank n a m 2).2.2)
  else (memWord s.mem a, s)

/-- The parity word of a store's offset is good again once all eight data words are (R332). -/
def State.parityGood (s : State) (n a : Nat) : State :=
  let p := parityBase (n / 8) + a % 0x10000
  if s.b.striped n a && (stripeMates n a).all (fun x => x == p || s.b.upsetAt x != 2) then { s with b := s.b.setUpset p 0 } else s

/-- A master writes the bits under `mask` of a bank's word. -/
def State.storeWord (s : State) (m : Master) (a : Nat) (w mask : Word) : State :=
  match bankOf a with
  | none => s.putWord a w
  | some n =>
    let s := s.recomputeStep (n / 8)
    let r := s.readOld n a m (mask != 0xFFFFFFFF#32)
    (r.2.putWord a ((r.1 &&& ~~~mask) ||| (w &&& mask))).parityGood n a

/-- Words written one after another. -/
def State.storeWords (s : State) (m : Master) (a : Nat) : List Word → State
  | [] => s
  | w :: ws => (s.storeWord m a w 0xFFFFFFFF#32).storeWords m (a + 4) ws

/-! ## Scrub (R340) -/

/-- An upset of a word becomes known as it is read. -/
def Block.see (b : Block) (a : Nat) (seen : Ecc) : Block :=
  match seen with
  | .clean => b
  | .single => if b.upsetAt a = 2 then b else b.setUpset a 1
  | .double => b.setUpset a 2

/-- The scrubber reads the word at `a` of a bank, or of a parity bank at its place above the bus's addresses. -/
def State.bankScrub (s : State) (a : Nat) (seen : Ecc) : State :=
  if !s.b.running || !s.b.on MEM.MEM_CTL_SCRUB_EN || a % 4 != 0 then s
  else
    match bankOf a with
    | some n =>
      if !s.b.bankReady n then s
      else
        let b := s.b.see a seen
        match b.upsetAt a with
        | 0 => s
        | 1 =>
          { s with b := (b.setUpset a 0).bankCount n BK.BANK_CORR_COUNT BK.BANK_CORR_OVF MEM.CORR_CNT_COUNT MEM.CORR_CNT_OVF }
        | _ => (State.rebuild { s with b := b } n a .hw 0).2
    | none =>
      let k := (a - 0x1000000) / 0x10000
      if a < 0x1000000 ∨ 5 ≤ k ∨ (List.range 8).all (fun i => !s.b.bankReady (8 * k + i)) then s
      else
        (State.recomputeStep { s with b := s.b.see a seen } k).readParity k a

/-! ## Stripes (R333) -/

/-- The recompute of stripes starts at their first offset. -/
def Block.startRecompute (b : Block) (ks : List Nat) : Block :=
  { (b.orBits MEM.MEM_STAT_STRIPE_BUSY (ofBits ks)) with passed := ks.foldl (fun t k => Tab.set 0 t k 0) b.passed }

/-- A write of `MEM_CTL`: a stripe newly enabled starts its recompute; while one runs, a word that changes STRIPE_EN is refused, and one
that leaves it as it is is no write of STRIPE_EN (DEDUCED, log entry 54). -/
def Block.memCtl (b : Block) (w : Word) : Block × Ack :=
  let old := b.get MEM.MEM_CTL_STRIPE_EN
  let new := MEM.MEM_CTL_STRIPE_EN.of w
  if new ≠ old ∧ b.get MEM.MEM_STAT_STRIPE_BUSY ≠ 0 then (b, .refused 6)
  else ((b.store MEM.MEM_CTL w).startRecompute ((bitsOf new 5).filter (fun k => !bit old k)), .ok)

/-- The recompute of a stripe passes its last offset; it starts once every bank of the stripe has initialised. -/
def State.stripeDone (s : State) (k : Nat) : State :=
  if !s.b.running || !s.b.recomputes k || !decide (k < 5) || (List.range 8).any (fun i => s.b.bankPwr (8 * k + i) == 4) then s
  else
    let s := s.recomputeTo k 16384
    let b := { s.b with passed := Tab.set 0 s.b.passed k 0 }
    { s with b := (b.setMap MEM.MEM_STAT_STRIPE_BUSY k false).evt 0xA 2 }

/-! ## Power and initialisation (R329, R339) -/

/-- Bank power state and READY written. -/
def Block.bankPower (b : Block) (n pwr : Nat) : Block :=
  (b.put BK.BANK_STAT_PWR pwr n).flag BK.BANK_STAT_READY (pwr == 0) n

/-- The initialisation of a bank completes: all zero, READY; after the core's release that is no READY regained (DEDUCED, log entry 31). With the
last bank of an enabled stripe that a wake initialises, the stripe's recompute starts (R333; DEDUCED, log entry 152). -/
def State.bankInitDone (s : State) (n : Nat) : State :=
  if !s.b.running || !decide (n < 44) || s.b.bankPwr n != 4 then s
  else
    let (lo, hi) := bankRange n
    let b := { s.b with upset := s.b.upset.filter (fun c => c.1 < lo || hi ≤ c.1) }
    let new := bit b.bankNew n
    let b := if new then b.bankPower n 0 else (b.bankPower n 0).evt (bankPage n) 2
    let b : Block := { b with bankNew := setBit b.bankNew n false }
    let b := if b.on BK.BANK_PWR_TWI n then b.bankPower n 1 else b
    let b := b.flag MEM.MEM_STAT_INIT_BUSY ((List.range 44).any (fun i => b.bankPwr i == 4))
    let k := n / 8
    let heal := !new && decide (n < 40) && b.mapBit MEM.MEM_CTL_STRIPE_EN k && !(List.range 8).any (fun i => b.bankPwr (8 * k + i) == 4)
    let b := if heal then b.startRecompute [k] else b
    { s with b := b.imageWritten lo hi, mem := memClear s.mem lo hi }

/-- Waiting wakes start while fewer than eight banks wake, in ascending order. -/
def Block.startWakes (b : Block) : Block :=
  b.each (List.range 44) (fun b n =>
    if bit b.wakeWait n && decide (((List.range 44).filter (fun i => b.bankPwr i == 2)).length < 8) then
      { (b.bankPower n 2) with wakeWait := setBit b.wakeWait n false }
    else b)

def bankReadyEvent (n : Nat) (b : Block) : Block :=
  if !b.running || !decide (n < 44) || b.bankPwr n != 2 then b
  else ((b.bankPower n 0).evt (bankPage n) 2).startWakes

/-! ## Use of banks by rings and sessions -/

/-- First address of a ring's storage and the address after its last. -/
def Block.ringRange (b : Block) (r : Nat) : Nat × Nat :=
  let base := b.get RG.RG_BASE_BASE r
  (base, base + 4 * 2 ^ b.get RG.RG_CFG_DLOG r * b.get RG.RG_CFG_ESIZE r)

def Block.ringState (b : Block) (r : Nat) : Nat := b.get RG.RG_STAT_STATE r

/-- Rings that are LIVE or FROZEN with storage in a bank. -/
def Block.bankRings (b : Block) (n : Nat) : List Nat :=
  let (lo, hi) := bankRange n
  (List.range b.numRings).filter (fun r => b.ringState r != 0 && (let (a, z) := b.ringRange r; decide (a < hi) && decide (lo < z)))

/-- Bytes of a session's buffer (R323). -/
def Block.sesBytes (b : Block) (s : Nat) : Nat :=
  b.get TCU.SES_LEN_LEN 0 s * (4 * (1 + (b.get TCU.SES_CFG_NSIG 0 s + 1) / 2))

/-- Armed or triggered sessions with their buffer in a bank. -/
def Block.bankSessions (b : Block) (n : Nat) : List Nat :=
  let (lo, hi) := bankRange n
  (List.range 4).filter (fun s =>
    let st := b.get TCU.SES_STAT_STATE 0 s
    let a := b.get TCU.SES_BUF_BASE 0 s
    (st == 1 || st == 2) && decide (a < hi) && decide (lo < a + b.sesBytes s))

/-! ## Handover (R335) -/

/-- A write of `BANK_OWN`: supervisor firmware and the host hand banks over, no other master does (R335). Where several refusals apply, the order
of the codes is the model's (DESIGN CHOICE, log entry 117). -/
def Block.bankOwnWrite (b : Block) (m : Master) (n : Nat) (w : Word) : Block × Ack :=
  let new := BK.BANK_OWN_OWNER.of w
  let old := b.bankOwner n
  let allowed := match m with
    | .spu => true
    | .hsp => [1, 2, 3].contains old || (old == 0 && b.on MEM.MEM_CTL_HOST_HANDOVER)
    | _ => false
  if old = 4 then (b, .refused 7)
  else if 4 ≤ new then (b, .refused 4)
  else if !allowed then (b, .refused 5)
  else if (b.bankRings n ≠ [] ∧ new ≠ 2) ∨ b.bankSessions n ≠ [] then (b, .refused 3)
  else ({ b with handover := Tab.set none b.handover n (some new) }, .ok)

def bankHandoverEffect (n : Nat) (b : Block) : Block :=
  if !b.running then b
  else
    match Tab.get none b.handover n with
    | none => b
    | some o =>
      let b := { b with handover := Tab.set none b.handover n none }
      if b.bankOwner n = 4 then b else b.put BK.BANK_OWN_OWNER o n

/-- A write of `BANK_PWR`. -/
def Block.bankPwrWrite (b : Block) (n : Nat) (w : Word) : Block × Ack :=
  let p := b.bankPwr n
  if BK.BANK_PWR_TWI.of w = 1 then
    if b.bankRings n ≠ [] ∨ b.bankSessions n ≠ [] then (b, .refused 3)
    else
      let b := { (b.store BK.BANK_PWR w n) with wakeWait := setBit b.wakeWait n false }
      (if p = 0 ∨ p = 2 then (b.bankPower n 1).startWakes else b, .ok)
  else
    let b := b.store BK.BANK_PWR w n
    (if p = 1 then ({ b with wakeWait := setBit b.wakeWait n true }).startWakes else b, .ok)

/-! ## Seizing (R335, R378) -/

/-- A bank passes to QUARANTINE. -/
def Block.seize (b : Block) (n : Nat) : Block :=
  { (b.put BK.BANK_OWN_OWNER 4 n) with handover := Tab.set none b.handover n none }

/-- The scrub of a seized bank completes; it waits until the last ring with its storage there is destroyed (R378). -/
def State.quarantineDone (s : State) (n : Nat) : State :=
  if !s.b.running || !decide (n < 44) || s.b.bankOwner n != 4 || !(s.b.bankRings n).isEmpty then s
  else
    let (lo, hi) := bankRange n
    let b := { s.b with upset := s.b.upset.filter (fun c => c.1 < lo || hi ≤ c.1) }
    let b := ((b.put BK.BANK_OWN_OWNER 0 n).put BK.BANK_STAT_OFFERED 1 n).evt (bankPage n) 1
    let s' : State := { s with b := b.imageWritten lo hi, mem := memClear s.mem lo hi }
    if n < 40 && b.mapBit MEM.MEM_CTL_STRIPE_EN (n / 8) then s'.parityRange (n / 8) 0 (b.passedTo (n / 8)) else s'

/-! ## Register writes of the MEM and bank pages (R353, R354) -/

def Block.memWrite (b : Block) (r : Reg) (w : Word) : Block × Ack :=
  if r = MEM.MEM_CTL then b.memCtl w
  else if r = MEM.CORR_CNT ∨ r = MEM.REBUILT_CNT ∨ r = MEM.UNCORR_CNT then (if slice w 31 1 = 1 then b.wr r 0 else b, .ok)
  else (b.store r w, .ok)

def Block.bkWrite (b : Block) (m : Master) (r : Reg) (n : Nat) (w : Word) : Block × Ack :=
  if r = BK.BANK_OWN then b.bankOwnWrite m n w
  else if r = BK.BANK_PWR then b.bankPwrWrite n w
  else if r = BK.BANK_CORR ∨ r = BK.BANK_REBUILT ∨ r = BK.BANK_UNCORR then (if slice w 31 1 = 1 then b.wr r 0 n else b, .ok)
  else (b.store r w n, .ok)

end Sys2Proof.Machine
end

