-- ==== Sys2Proof/Machine/Rings.lean ====
section
/-!
DEFINITION. Hardware rings and QRE (R342 to R352): handles, creation, policies, the SPU port, the set-point take, freezing.
-/

namespace Sys2Proof.Machine

/-! ## Structure of a ring -/

def ringPage (n : Nat) : Nat := 0xD0 + n
def Block.depth (b : Block) (n : Nat) : Nat := 2 ^ b.get RG.RG_CFG_DLOG n
def Block.esize (b : Block) (n : Nat) : Nat := b.get RG.RG_CFG_ESIZE n
def Block.ringType (b : Block) (n : Nat) : Nat := b.get RG.RG_CFG_TYPE n
def Block.policy (b : Block) (n : Nat) : Nat := b.get RG.RG_CFG_POLICY n
def Block.widx (b : Block) (n : Nat) : Nat := b.get RG.RG_WIDX_INDEX n
def Block.ridx (b : Block) (n : Nat) : Nat := b.get RG.RG_RIDX_INDEX n

/-- Entries in a ring. -/
def Block.occ (b : Block) (n : Nat) : Nat := (b.widx n + 65536 - b.ridx n) % 65536

/-- `RG_FILL.CREDIT` (R346). -/
def Block.credit (b : Block) (n : Nat) : Nat :=
  match b.policy n with
  | 0 => b.depth n - b.occ n
  | 1 => b.depth n
  | _ => b.depth n - 1 - b.occ n

/-- The generation of a ring. -/
def Block.ringGen (b : Block) (n : Nat) : Nat := b.get RG.RG_HANDLE_HANDLE n / 64

/-- The present handle of a ring, or the next one (R342). -/
def Block.ringHandle (b : Block) (n : Nat) : Nat := b.ringGen n * 64 + n

/-- The check of a ring handle: 0, STALE_HANDLE 2 or BAD_HANDLE 3 (R342, R344). -/
def Block.ringCheck (b : Block) (h : Nat) : Nat :=
  let n := h % 64
  if b.numRings ≤ n then 3 else if b.ringState n = 0 ∨ h / 64 ≠ b.ringGen n then 2 else 0

/-- The page of the unit at a ring end, where FCR can fence that unit (R377). -/
def endPage (code : Nat) : Option Nat :=
  match code with
  | 1 => some 9
  | 3 => some 6
  | 4 => some 7
  | 5 => some 8
  | _ => none

/-- An end of a ring, or QRE, is fenced (R349). -/
def Block.ringFenced (b : Block) (n : Nat) : Bool :=
  b.fenced 0xB || [b.get RG.RG_ENDS_PROD n, b.get RG.RG_ENDS_CONS n].any (fun e =>
    match endPage e with
    | some p => b.fenced p
    | none => false)

/-- QRE serves rings; in BOOT it is idle (R36). -/
def Block.qreServes (b : Block) : Bool := b.awake && b.mode != 0 && b.on QRE.QRE_CTL_EN && !b.fenced 0xB

/-- Address of an entry. -/
def Block.entryAddr (b : Block) (n i : Nat) : Nat := b.get RG.RG_BASE_BASE n + 4 * b.esize n * (i % b.depth n)

/-! ## Entries in and out (R345 to R348) -/

/-- A lost entry. -/
def Block.ringLost (b : Block) (n : Nat) : Block := (b.bump RG.RG_LOST_COUNT RG.RG_LOST_OVF n).evt (ringPage n) 2

/-- W advances; the events of an entry that became visible (R345, R356). -/
def Block.advanceW (b : Block) (n : Nat) : Block :=
  let had := b.credit n
  let b := b.put RG.RG_WIDX_INDEX (b.widx n + 1) n
  let b := if b.get RG.RG_ENDS_CONS n < 2 then b.evt (ringPage n) 0 else b
  if had ≠ 0 ∧ b.credit n = 0 then b.evt (ringPage n) 1 else b

/-- The axis whose set-point ring this is (R199). -/
def Block.ringAxis (b : Block) (n : Nat) : Option Nat :=
  (List.range b.numAxes).find? (fun a => b.get AX.AX_STATE_STATE a != 0 &&
    b.get ⟨AX.AX_CFG3, 16, 2⟩ a == 0 && b.get ⟨AX.AX_RINGS, 0, 16⟩ a % 64 == n)

/-- A set-point entry writes the latch of its quantity (R348). -/
def Block.latchSetpoint (b : Block) (n : Nat) (entry : List Word) : Block :=
  let q := slice (entry.getD 0 0) 0 2
  let v := if q = 2 then entry.getD 1 0 else entry.getD 1 0 &&& 0xFFFF#32
  let s := b.ring n
  let b := b.setRing n { s with sp := s.sp ++ [(b.now, q, v)] }
  if q = 0 then b.wr RG.RG_SPV0 v n
  else if q = 1 then b.wr RG.RG_SPV1 v n
  else if q = 2 then b.wr RG.RG_SPV2 v n
  else
    match b.ringAxis n with
    | some a => b.bump AX.AX_SP_DROP_COUNT AX.AX_SP_DROP_OVF a
    | none => b

/-- The first bank that refuses QRE's write of the slot at W: its number, the code and the address. Every word is checked before any is written
(R334, R341). -/
def Block.slotRefusal (b : Block) (n : Nat) : Option (Nat × Nat × Nat) :=
  let a := b.entryAddr n (b.widx n)
  (List.range (b.esize n)).findSome? (fun i =>
    match bankOf (a + 4 * i) with
    | some k => (b.bankWriteCheck k .qre).map (fun c => (k, c, a + 4 * i))
    | none => none)

/-- The words of an entry written into the slot at W. -/
def State.writeEntry (s : State) (n : Nat) (entry : List Word) : State := s.storeWords .qre (s.b.entryAddr n (s.b.widx n)) entry

/-- An accepted entry: written, W advanced, counted. -/
def State.accept (s : State) (n : Nat) (entry : List Word) : State :=
  let s := s.writeEntry n entry
  let b := (s.b.advanceW n).bump RG.RG_IN_CNT_COUNT RG.RG_IN_CNT_OVF n
  { s with b := if b.ringType n = 0 then b.latchSetpoint n entry else b }

/-- The marker entry of R343, at the loss of `entry`: the time-stamp is the one the lost entry carries, and the present time where the
ring's entries carry none (DEDUCED, log entry 118). -/
def Block.marker (b : Block) (n : Nat) (entry : List Word) : List Word :=
  let ts := if b.ringType n = 6 then [BitVec.ofNat 32 b.now, BitVec.ofNat 32 (b.now / 2 ^ 32)] else [entry.getD 1 0, entry.getD 2 0]
  (0x80000000#32 :: ts) ++ List.replicate (b.esize n - 3) 0

/-- A whole entry reaches a LIVE ring, treated by its policy: the answer is 0 or RING_FULL 10 (R346). An entry whose bank refuses the write is
refused whole, recorded on the bank's page, and lost where its ring does not WAIT (R334, R341; DESIGN CHOICE, log entry 129). -/
def State.pushEntry (s : State) (n : Nat) (entry : List Word) : Nat × State :=
  let b := s.b
  let occ := b.occ n
  let full := (10, { s with b := b.raise 0x32 (ringPage n) })
  let lost := (0, { s with b := b.ringLost n })
  if b.depth n < occ then full
  else if b.policy n = 0 ∧ b.depth n ≤ occ then (10, s)
  else if b.policy n ≠ 0 ∧ b.policy n ≠ 1 ∧ b.on RG.RG_STAT_MARK n then lost
  else
    match b.slotRefusal n, b.policy n with
    | some (k, c, a), p => (10, { s with b := (if p = 0 then b else b.ringLost n).refuse (bankPage k) (a % 4096) .qre c })
    | none, 0 => (0, s.accept n entry)
    | none, 1 =>
      if b.depth n ≤ occ then
        let seen := match b.spuPop with
          | some p => p.ring == n && p.at' == b.ridx n
          | none => false
        let b := b.put RG.RG_RIDX_INDEX (b.ridx n + 1) n
        (0, State.accept { s with b := if seen then b else b.ringLost n } n entry)
      else (0, s.accept n entry)
    | none, _ =>
      if occ + 1 < b.depth n then (0, s.accept n entry)
      else
        let s := State.writeEntry { s with b := b.ringLost n } n (b.marker n entry)
        (0, { s with b := (s.b.advanceW n).put RG.RG_STAT_MARK 1 n })

/-- The entry at index `i` of a ring, read by a master; a word of a bank that is not READY reads zero (R341). -/
def State.entryAt (s : State) (n i : Nat) (m : Master) : List Word × State :=
  let a := s.b.entryAddr n i
  (List.range (s.b.esize n)).foldl (fun (acc : List Word × State) i =>
    let (w, _, t) := match bankOf (a + 4 * i) with
      | some k => if acc.2.b.bankReady k then acc.2.readBank k (a + 4 * i) m 1 else (0, false, acc.2)
      | none => (0, false, acc.2)
    (acc.1 ++ [w], t)) ([], s)

/-- The entry at the head of a ring. -/
def State.headEntry (s : State) (n : Nat) (m : Master) : List Word × State := s.entryAt n (s.b.ridx n) m

/-- The last word of an entry has been read: R advances, unless it already passed the entry (R345, R347). -/
def Block.popDone (b : Block) (n at' : Nat) (entry : List Word) : Block :=
  let b := if b.ridx n = at' then b.put RG.RG_RIDX_INDEX (at' + 1) n else b
  if b.policy n = 2 ∧ slice (entry.getD 0 0) 31 1 = 1 then b.put RG.RG_STAT_MARK 0 n else b

/-! ## Hardware producers (R346) -/

/-- A hardware producer hands an entry to QRE. -/
def Block.hwPush (b : Block) (n : Nat) (entry : List Word) : Block :=
  let s := b.ring n
  if !b.running || b.ringState n == 0 then b
  else if b.ringState n = 2 ∨ 2 ≤ s.staged.length then b.ringLost n
  else b.setRing n { s with staged := s.staged ++ [entry] }

/-- A frame lost by its ring counts on the controller at the ring's producer end (R126, R343). -/
def Block.netDrop (b : Block) (prod : Nat) : Block :=
  if prod = 3 then b.bump ETH.ETH_RX_DROP_COUNT ETH.ETH_RX_DROP_OVF
  else if prod = 4 ∨ prod = 5 then b.bump CAN.CAN_RX_DROP_COUNT CAN.CAN_RX_DROP_OVF (prod - 4)
  else b

/-- A frame that its ring takes counts on the controller at the ring's producer end, with the frame received as its event, when
QRE writes it (R126; DEDUCED, log entry 152). -/
def Block.netTaken (b : Block) (prod : Nat) : Block :=
  if prod = 3 then (b.bump ETH.ETH_RX_FRAMES_COUNT ETH.ETH_RX_FRAMES_OVF).evt 6 0
  else if prod = 4 ∨ prod = 5 then (b.bump CAN.CAN_RX_FRAMES_COUNT CAN.CAN_RX_FRAMES_OVF (prod - 4)).evt (prod + 3) 0
  else b

/-- A push into ring `n`, which has policy 1 or 2, makes its entry visible. -/
def Block.pushTakes (b : Block) (n : Nat) : Bool :=
  decide (b.occ n ≤ b.depth n) && (b.slotRefusal n).isNone &&
    (b.policy n == 1 || (!b.on RG.RG_STAT_MARK n && decide (b.occ n + 1 < b.depth n)))

/-- Words up to the entry size, the words past a frame's end being open (DESIGN CHOICE, log entry 19). -/
def Block.padEntry (b : Block) (ws : List Word) (n : Nat) : List Word × Block :=
  (List.range (n - ws.length)).foldl (fun (acc : List Word × Block) _ =>
    let (w, c) := acc.2.draw
    (acc.1 ++ [w], c)) (ws, b)

/-- QRE writes a staged entry into its ring. -/
def State.stagedWrite (s : State) (n : Nat) : State :=
  let r := s.b.ring n
  match r.staged with
  | [] => s
  | e :: rest =>
    if !s.b.qreServes && s.b.ringState n != 2 then s
    else
      let b := s.b.setRing n { r with staged := rest }
      if b.ringState n = 1 then
        let (e, b) := b.padEntry e (b.esize n)
        let prod := b.get RG.RG_ENDS_PROD n
        let b := if b.ringType n ≠ 3 then b else if b.pushTakes n then b.netTaken prod else b.netDrop prod
        (State.pushEntry { s with b := b } n e).2
      else { s with b := (b.ringLost n).netDrop (b.get RG.RG_ENDS_PROD n) }

/-! ## The set-point take (R348) -/

/-- The latches written since the previous take, quantity and value, and the ring drained. Entries that became visible in the present LCLK stay for
the next take (R367). -/
def Block.ringTake (b : Block) (n : Nat) : List (Nat × Word) × Block :=
  let s := b.ring n
  if !b.qreServes || b.ringState n != 1 then ([], b)
  else
    let old := s.sp.filter (fun x => x.1 != b.now)
    let late := s.sp.filter (fun x => x.1 == b.now)
    let vs := (List.range 3).filterMap (fun q => (old.reverse.find? (fun x => x.2.1 == q)).map (fun x => (q, x.2.2)))
    (vs, (b.setRing n { s with sp := late }).put RG.RG_RIDX_INDEX (b.widx n + 65536 - late.length) n)

/-! ## Creation, destruction, freezing (R342, R344, R349, R350) -/

/-- The table of ring types (R342). -/
def ringTypeOk (ty pol es prod cons : Nat) : Bool :=
  let user (x : Nat) : Bool := x ≤ 1
  let net (x : Nat) : Bool := x == 3 || x == 4 || x == 5
  match ty with
  | 0 => user prod && cons == 2 && es == 2 && pol == 0
  | 1 => prod == 2 && user cons && es == 8 && pol == 1
  | 2 => (prod == 6 || prod == 1) && user cons && es == 4 && pol == 2
  | 3 => net prod && user cons && 4 ≤ es && es ≤ 512 && (pol == 2 || (pol == 1 && es ≤ 32))
  | 4 => user prod && net cons && 4 ≤ es && es ≤ 512 && pol == 0
  | 5 => prod == 0 && cons == 1 && 1 ≤ es && es ≤ 64 && pol == 0
  | 6 => prod == 1 && cons == 0 && 3 ≤ es && es ≤ 64 && (pol == 2 || (pol == 1 && es ≤ 32))
  | _ => false

/-- The storage checks of R344. -/
def Block.storageOk (b : Block) (n : Nat) : Bool :=
  let (lo, hi) := b.ringRange n
  let inWin := (decide (0x200000 ≤ lo) && decide (hi ≤ 0x480000)) || (decide (0x480000 ≤ lo) && decide (hi ≤ 0x490000))
  let banks := (List.range 44).filter (fun k => let (a, z) := bankRange k; decide (a < hi) && decide (lo < z))
  lo % 4 == 0 && inWin && banks.all (fun k => b.bankOwner k == 2 && b.bankReady k) &&
    (List.range b.numRings).all (fun r => r == n || b.ringState r == 0 ||
      (let (a, z) := b.ringRange r; !(decide (a < hi) && decide (lo < z))))

/-- CREATE. Where several refusals apply, the order of the codes is the model's (DESIGN CHOICE, log entry 117). -/
def Block.rgCreate (b : Block) (n : Nat) : Block × Ack :=
  if b.ringState n ≠ 0 then (b, .refused 1)
  else
    let d := b.get RG.RG_CFG_DLOG n
    let es := b.esize n
    if d = 0 ∨ 12 < d ∨ es = 0 ∨ 512 < es then (b, .refused 6)
    else if !ringTypeOk (b.ringType n) (b.policy n) es (b.get RG.RG_ENDS_PROD n) (b.get RG.RG_ENDS_CONS n) then (b, .refused 4)
    else if !b.storageOk n then (b, .refused 5)
    else
      let b := (b.put RG.RG_WIDX_INDEX 0 n).put RG.RG_RIDX_INDEX 0 n
      let b := (b.put RG.RG_STAT_STATE 1 n).put RG.RG_STAT_MARK 0 n
      let b := (b.put RG.RG_HANDLE_HANDLE (b.ringHandle n) n).put RG.RG_HANDLE_VALID 1 n
      (b.setRing n {}, .ok)

/-- The handle in a write of `RG_CTL` on page `n`: 0, STALE_HANDLE 2, BAD_HANDLE 3. -/
def Block.rgHandle (b : Block) (n : Nat) (w : Word) : Nat :=
  let h := RG.RG_CTL_HANDLE.of w
  if h % 64 ≠ n then 3 else if b.ringState n = 0 ∨ h / 64 ≠ b.ringGen n then 2 else 0

/-- Filters that name a destroyed ring are disabled (R122). -/
def Block.netRingGone (b : Block) (h : Nat) : Block :=
  let b := b.each (List.range 8) (fun b j =>
    if b.on ETH.ETH_FLT_EN 0 j && b.get ETH.ETH_FLT_RING_HANDLE 0 j == h then
      { ((b.put ETH.ETH_FLT_EN 0 0 j).evt 6 3) with eth := { b.eth with dead := setBit b.eth.dead j true } }
    else b)
  b.each [0, 1] (fun b c => b.each (List.range 16) (fun b j =>
    if b.on CAN.CAN_FLT_ID_EN c j && b.get CAN.CAN_FLT_RING_HANDLE c j == h then
      ((b.put CAN.CAN_FLT_ID_EN 0 c j).evt (7 + c) 3).setCan c { b.can c with dead := setBit (b.can c).dead j true }
    else b))

/-- A ring becomes FREE and its generation advances; a NET filter that names it is disabled by its handle going stale (R122, R350). -/
def Block.rgFree (b : Block) (n : Nat) : Block :=
  let g := (b.ringGen n + 1) % 1024
  let b := b.netRingGone (b.ringHandle n)
  let b := ((b.put RG.RG_STAT_STATE 0 n).put RG.RG_STAT_MARK 0 n).put RG.RG_STAT_FRZ_SRC 0 n
  let b := (b.put RG.RG_HANDLE_HANDLE (g * 64 + n) n).put RG.RG_HANDLE_VALID 0 n
  b.setRing n {}

def Block.rgDestroy (b : Block) (n : Nat) (w : Word) : Block × Ack :=
  match b.rgHandle n w with
  | 0 => if b.on RG.RG_STAT_ATTACHED n then (b, .refused 7) else (b.rgFree n, .ok)
  | c => (b, .refused c)

def Block.rgThaw (b : Block) (n : Nat) (w : Word) : Block × Ack :=
  match b.rgHandle n w with
  | 0 =>
    if b.ringState n = 1 then (b, .ok)
    else if b.ringFenced n then (b, .refused 8)
    else (b.put RG.RG_STAT_STATE 1 n, .ok)
  | c => (b, .refused c)

/-- A ring freezes (R349). -/
def Block.freeze (b : Block) (n src : Nat) : Block :=
  if b.ringState n = 1 then
    ((b.put RG.RG_STAT_STATE 2 n).put RG.RG_STAT_FRZ_SRC src n).evt (ringPage n) 3
  else b

/-- Every ring with a fenced end freezes. -/
def Block.freezeFenced (b : Block) (src : Nat) : Block :=
  b.each (List.range b.numRings) (fun b n => if b.ringFenced n then b.freeze n src else b)

/-- A write of `RG_CTL`; with none of its pulses it changes nothing. -/
def Block.rgCtl (b : Block) (n : Nat) (w : Word) : Block × Ack :=
  if RG.RG_CTL_CREATE.of w = 1 then b.rgCreate n
  else if RG.RG_CTL_DESTROY.of w = 1 then b.rgDestroy n w
  else if RG.RG_CTL_THAW.of w = 1 then b.rgThaw n w
  else (b, .ok)

def Block.rgWrite (b : Block) (r : Reg) (n : Nat) (w : Word) : Block × Ack :=
  if r = RG.RG_CTL then b.rgCtl n w
  else if r = RG.RG_CFG ∨ r = RG.RG_ENDS ∨ r = RG.RG_BASE then
    (if b.ringState n ≠ 0 then (b, .refused 1) else (b.store r w n, .ok))
  else if r = RG.RG_IN_CNT ∨ r = RG.RG_LOST then (if slice w 31 1 = 1 then b.wr r 0 n else b, .ok)
  else (b.store r w n, .ok)

/-! ## The SPU port (R345) -/

/-- The outcome of an SPU port access. -/
def Block.portStat (b : Block) (code word : Nat) : Block := (b.put QRE.SPU_RSTAT_CODE code).put QRE.SPU_RSTAT_WORD word

/-- A write of `SPU_RH`: the partial push and the pop in progress are left. -/
def Block.spuRh (b : Block) (m : Master) (w : Word) : Block × Ack :=
  if m ≠ .spu then (b, .refused 12)
  else (({ (b.store QRE.SPU_RH w) with spuPush := [], spuPop := none }).portStat 0 0, .ok)

/-- The checks common to a push and a pop on the SPU port, with the end that must be the SPU. -/
def Block.portCheck (b : Block) (e : Fld) : Nat :=
  let h := b.get QRE.SPU_RH_HANDLE
  match b.ringCheck h with
  | 0 => if b.ringState (h % 64) = 2 then 8 else if b.get e (h % 64) ≠ 1 then 9 else 0
  | c => c

/-- What QRE serves before a word of a push or a pop: the entries that hardware producers have staged, of every ring (R362). The order among rings
is theirs (DEDUCED, log entry 48). -/
def State.served3 (s : State) : State :=
  (List.range s.b.numRings).foldl (fun s n => (s.stagedWrite n).stagedWrite n) s

/-- A word pushed on the SPU port. -/
def State.spuPushWord (s : State) (w : Word) : State :=
  let s := s.served3
  let b := s.b
  let n := b.get QRE.SPU_RH_HANDLE % 64
  match b.portCheck RG.RG_ENDS_PROD with
  | 0 =>
    if b.spuPush.isEmpty && (!b.qreServes || (b.policy n == 0 && decide (b.depth n ≤ b.occ n))) then { s with b := b.portStat 10 0 }
    else
      let ws := b.spuPush ++ [w]
      if ws.length < b.esize n then { s with b := { b with spuPush := ws }.portStat 0 ws.length }
      else
        let (c, t) := State.pushEntry { s with b := { b with spuPush := [] } } n ws
        { t with b := t.b.portStat c 0 }
  | c => { s with b := { b with spuPush := [] }.portStat c 0 }

/-- A word popped on the SPU port, with the word returned. -/
def State.spuPopWord (s : State) : Word × State :=
  let s := s.served3
  let b := s.b
  let n := b.get QRE.SPU_RH_HANDLE % 64
  match b.portCheck RG.RG_ENDS_CONS with
  | 0 =>
    let start : Option (PopSt × State) := match b.spuPop with
      | some p => some (p, s)
      | none =>
        if !b.qreServes || b.occ n == 0 then none
        else
          let (ws, t) := s.headEntry n .spu
          some (⟨n, b.ridx n, ws, 0⟩, t)
    match start with
    | none => (0, { s with b := b.portStat 11 0 })
    | some (p, t) =>
      let k := p.pos
      let w := p.words.getD k 0
      let t := { t with b := t.b.wr QRE.SPU_RDATA w }
      if k + 1 < p.words.length then (w, { t with b := { t.b with spuPop := some { p with pos := k + 1 } }.portStat 0 (k + 1) })
      else (w, { t with b := ({ t.b with spuPop := none }.popDone n p.at' p.words).portStat 0 0 })
  | c => (0, { s with b := { b with spuPop := none }.portStat c 0 })

def Block.qreWrite (b : Block) (m : Master) (r : Reg) (w : Word) : Block × Ack :=
  if r = QRE.SPU_RH then b.spuRh m w
  else if r = QRE.SPU_RDATA then (if m ≠ .spu then (b, .refused 12) else (b, .ok))
  else (b.store r w, .ok)

end Sys2Proof.Machine
end

