-- ==== Sys2Proof/Machine/Net.lean ====
section
/-!
DEFINITION. Ethernet, MDIO and CAN FD (R116 to R122, R126). The error counters of CAN follow ISO 11898-1, which R119 names and the
manual does not print (PRESUMED, log entry 22).
-/

namespace Sys2Proof.Machine

/-! ## Entries (R118, R121, R122, R343) -/

/-- Bytes packed into words, the first byte the most significant; the last word's missing bytes 0. -/
def packBytes : List Byte → List Word
  | [] => []
  | [a] => [wordOf 0 0 0 a]
  | [a, c] => [wordOf 0 0 c a]
  | [a, c, d] => [wordOf 0 d c a]
  | a :: c :: d :: e :: r => wordOf e d c a :: packBytes r

/-- A handle names a LIVE ring of a type with the controller of `code` at its NET end (R122). -/
def Block.netRingOk (b : Block) (h code : Nat) (rx : Bool) : Bool :=
  let n := h % 64
  b.ringCheck h == 0 && b.ringState n == 1 &&
    (if rx then b.ringType n == 3 && b.get RG.RG_ENDS_PROD n == code else b.ringType n == 4 && b.get RG.RG_ENDS_CONS n == code)

/-- A received frame of `len` bytes handed to the ring of a handle, behind `hdr` words of header. It is lost where the handle is stale, where
the entry has no room for it, and where the ring takes no more; one that the ring takes counts when QRE writes it (R122, R126). -/
def Block.netPush (b : Block) (h code : Nat) (hdr : Nat) (len : Nat) (entry : List Word) : Block :=
  let n := h % 64
  if b.ringCheck h ≠ 0 then b.netDrop code
  else if 4 * (b.esize n - hdr) < len then (b.ringLost n).netDrop code
  else if b.ringState n = 1 ∧ (b.ring n).staged.length < 2 then b.hwPush n entry
  else (b.hwPush n entry).netDrop code

/-- The ring head a controller takes for transmission. -/
def State.netTake (s : State) (h code : Nat) : Option (List Word × State) :=
  let n := h % 64
  if !s.b.qreServes || !s.b.netRingOk h code false || s.b.occ n == 0 then none
  else
    let at' := s.b.ridx n
    let (ws, t) := s.headEntry n .net
    some (ws, { t with b := t.b.popDone n at' ws })

/-! ## Ethernet (R116, R118) -/

/-- The MAC works. -/
def Block.macRuns (b : Block) : Bool := b.awake && b.mode != 0 && !b.fenced 6

/-- The destination class and EtherType of a frame match filter `j`. The value 3 of DA, which R126 gives no meaning, matches no frame (DESIGN
CHOICE, log entry 148). -/
def Block.ethMatch (b : Block) (j : Nat) (f : List Byte) : Bool :=
  let hi := b.get ETH.MAC_ADDR_HI_ADDR
  let lo := (b.rd ETH.MAC_ADDR_LO).toNat
  let own := (List.range 6).map (fun k => if k < 2 then hi / 256 ^ (1 - k) % 256 else lo / 256 ^ (5 - k) % 256)
  let da := (f.take 6).map BitVec.toNat
  let cls := match b.get ETH.ETH_FLT_DA 0 j with
    | 0 => da == own
    | 1 => da == List.replicate 6 255
    | 2 => true
    | _ => false
  let ty := (f.getD 12 0).toNat * 256 + (f.getD 13 0).toNat
  cls && (b.get ETH.ETH_FLT_ETYPE 0 j == 0 || b.get ETH.ETH_FLT_ETYPE 0 j == ty)

/-- A PAUSE frame: EtherType 0x8808, opcode 1. -/
def isPause (f : List Byte) : Bool :=
  f.getD 12 0 == 0x88 && f.getD 13 0 == 0x08 && f.getD 14 0 == 0 && f.getD 15 0 == 1

/-- A frame ends on the RMII. -/
def ethFrameReceived (f : EthFrame) (b : Block) : Block :=
  let len := f.bytes.length
  if !b.macRuns || !b.on ETH.MAC_CTL_EN || !b.on ETH.MAC_CTL_RX_EN then b
  else if len < 60 || 1518 < len || f.fcs != crc32 f.bytes then b.bump ETH.ETH_RX_ERR_COUNT ETH.ETH_RX_ERR_OVF
  else if isPause f.bytes then b.bump ETH.ETH_PAUSE_COUNT ETH.ETH_PAUSE_OVF
  else
    let live (j : Nat) : Bool := b.on ETH.ETH_FLT_EN 0 j || bit b.eth.dead j
    match (List.range 8).find? (fun j => live j && b.ethMatch j f.bytes) with
    | none => b.bump ETH.ETH_RX_DROP_COUNT ETH.ETH_RX_DROP_OVF
    | some j =>
      if !b.on ETH.ETH_FLT_EN 0 j then b.bump ETH.ETH_RX_DROP_COUNT ETH.ETH_RX_DROP_OVF
      else
        let e := [BitVec.ofNat 32 (len + 2 ^ 24 * j), BitVec.ofNat 32 b.now, BitVec.ofNat 32 (b.now / 2 ^ 32)] ++ packBytes f.bytes
        b.netPush (b.get ETH.ETH_FLT_RING_HANDLE 0 j) 3 3 len e

/-- The bytes of entry words, most significant first. -/
def unpackBytes (ws : List Word) : List Byte := (ws.map (fun w => [byteOf w 3, byteOf w 2, byteOf w 1, byteOf w 0])).flatten

/-- The four bytes of a frame's FCS, in the order of IEEE 802.3 (R116; PRESUMED, log entry 132). -/
def fcsBytes (f : List Byte) : List Byte := let c := crc32 f; [byteOf c 0, byteOf c 1, byteOf c 2, byteOf c 3]

/-- The frame of a transmit entry, padded with zeros to 60 bytes, with its FCS (R116, R343). An entry longer than the MAC accepts is sent whole
(DESIGN CHOICE, log entry 148). -/
def ethOfEntry (ws : List Word) : List Byte :=
  let f := (unpackBytes (ws.drop 3)).take ((ws.getD 0 0).toNat % 65536)
  let f := f ++ List.replicate (60 - f.length) 0
  f ++ fcsBytes f

/-- The link is known to be down: the poll runs and its last read showed no link. Without the poll `LINK` shows no state of the link (DESIGN
CHOICE, log entry 133). -/
def Block.linkDown (b : Block) : Bool := b.on ETH.MDIO_CTL_POLL && !b.on ETH.ETH_STAT_LINK

/-- The MAC takes the next frame of its transmit ring; while the link is down the ring keeps its entries (R364). -/
def State.ethTransmitStart (s : State) : State :=
  let b := s.b
  if !b.macRuns || !b.on ETH.MAC_CTL_EN || !b.on ETH.MAC_CTL_TX_EN || b.linkDown || b.eth.tx.isSome then s
  else
    match s.netTake (b.get ETH.ETH_TX_RING_HANDLE) 3 with
    | none => s
    | some (ws, t) => { t with b := { t.b with eth := { t.b.eth with tx := some (ethOfEntry ws) } } }

/-- The frame is sent. -/
def ethTransmitDone (b : Block) : Block :=
  if !b.macRuns || b.eth.tx.isNone then b
  else { (b.bump ETH.ETH_TX_FRAMES_COUNT ETH.ETH_TX_FRAMES_OVF) with eth := { b.eth with tx := none } }

/-! ## MDIO (R117) -/

/-- The host's MDIO frame, as the registers stand at its GO. -/
def Block.mdioFrame (b : Block) : MdioFrame :=
  ⟨false, b.on ETH.MDIO_CTL_WRITE, b.get ETH.MDIO_CTL_PHY, b.get ETH.MDIO_CTL_REG, BitVec.ofNat 32 (b.get ETH.MDIO_DATA_DATA)⟩

/-- A write of `MDIO_CTL`; a second GO while a host frame runs or waits starts nothing more. -/
def Block.mdioWrite (b : Block) (w : Word) : Block :=
  let busy := b.eth.mdio.any (fun f => !f.poll) || b.eth.mdioHost.isSome
  let b := b.store ETH.MDIO_CTL w
  if ETH.MDIO_CTL_GO.of w = 0 ∨ busy then b
  else
    let b := b.put ETH.MDIO_CTL_BUSY 1
    if b.eth.mdio.isSome then { b with eth := { b.eth with mdioHost := some b.mdioFrame } }
    else { b with eth := { b.eth with mdio := some b.mdioFrame } }

/-- The poll timer: register 1 of the PHY is read. A poll that falls due while a host frame runs is skipped (DESIGN CHOICE, log entry 134). -/
def mdioPoll (b : Block) : Block :=
  if !b.macRuns || !b.on ETH.MDIO_CTL_POLL || b.eth.mdio.isSome then b
  else { b.put ETH.MDIO_CTL_BUSY 1 with eth := { b.eth with mdio := some ⟨true, false, b.get ETH.MDIO_CTL_PHY, 1, 0⟩ } }

/-- An MDIO frame ends; a host frame that waited starts, and BUSY stands on for it. -/
def mdioFrameDone (data : BitVec 16) (b : Block) : Block :=
  if !b.macRuns then b
  else
    match b.eth.mdio with
    | none => b
    | some f =>
      let b := (b.flag ETH.MDIO_CTL_BUSY b.eth.mdioHost.isSome)
      let b := { b with eth := { b.eth with mdio := b.eth.mdioHost, mdioHost := none } }
      if f.poll then
        let up := bit data.toNat 2
        let fell := b.on ETH.ETH_STAT_LINK && !up
        let b := (b.flag ETH.ETH_STAT_LINK up).evt 6 4
        if fell then (b.evt 6 1).raise 0x0D 6 else b
      else
        (if f.write then b else b.put ETH.MDIO_DATA_DATA data.toNat).evt 6 4

/-! ## Register writes of the Ethernet page (R122, R126) -/

def ethCounters : List Reg := [ETH.ETH_RX_FRAMES, ETH.ETH_RX_DROP, ETH.ETH_RX_ERR, ETH.ETH_TX_FRAMES, ETH.ETH_PAUSE]

def Block.ethWrite (b : Block) (r : Reg) (j : Nat) (w : Word) : Block × Ack :=
  if r = ETH.MDIO_CTL then (b.mdioWrite w, .ok)
  else if r = ETH.ETH_TX_RING then
    (if b.netRingOk (ETH.ETH_TX_RING_HANDLE.of w) 3 false then (b.store r w, .ok) else (b, .refused 8))
  else if r = ETH.ETH_FLT then
    if ETH.ETH_FLT_EN.of w = 1 ∧ !b.netRingOk (b.get ETH.ETH_FLT_RING_HANDLE 0 j) 3 true then (b, .refused 8)
    else ({ (b.store r w 0 j) with eth := { b.eth with dead := setBit b.eth.dead j false } }, .ok)
  else if r = ETH.ETH_FLT_RING then
    (if b.netRingOk (ETH.ETH_FLT_RING_HANDLE.of w) 3 true then (b.store r w 0 j, .ok) else (b, .refused 8))
  else if r = ETH.CNT_CLR then (if slice w 0 1 = 1 then ethCounters.foldl (fun b c => b.wr c 0) b else b, .ok)
  else (b.store r w 0 j, .ok)

/-! ## CAN FD (R119, R121) -/

/-- A controller works on its bus. -/
def Block.canRuns (b : Block) (c : Nat) : Bool :=
  b.awake && b.mode != 0 && decide (c < 2) && !b.fenced (7 + c) && b.on CAN.CAN_CTL_EN c

/-- It takes part in traffic: integrated and not bus-off. -/
def Block.canOnBus (b : Block) (c : Nat) : Bool := b.canRuns c && (b.can c).integrated && b.get CAN.CAN_STAT_STATE c != 2

/-- The error counters and the state they give; error-passive above 127, bus-off above 255 of the transmit counter. -/
def Block.canCount (b : Block) (c tec rec : Nat) : Block :=
  let old := b.get CAN.CAN_STAT_STATE c
  let new := if 255 < tec then 2 else if 127 < tec ∨ 127 < rec then 1 else 0
  let b := b.setCan c { b.can c with tec := tec, rec' := rec }
  let b := ((b.put CAN.CAN_STAT_TEC (min 255 tec) c).put CAN.CAN_STAT_REC (min 255 rec) c).put CAN.CAN_STAT_STATE new c
  if new = 2 ∧ old ≠ 2 then (b.evt (7 + c) 1).raise (0x0E + c) (7 + c)
  else if new = 1 ∧ old = 0 then b.evt (7 + c) 2 else b

/-- The receive counter after a frame received without error; from above 127 the standard leaves the value open in 119 to 127. -/
def Block.canGood (b : Block) (c : Nat) : Block :=
  let s := b.can c
  if 127 < s.rec' then
    let (w, b) := b.draw
    b.canCount c s.tec (119 + w.toNat % 9)
  else b.canCount c s.tec (s.rec' - 1)

/-- Word 0 of a received CAN frame's entry. -/
def canHead (f : CanFrame) (c flt : Nat) : Nat :=
  f.data.length + 65536 * (1 + c) + (if f.fd then 2 ^ 19 else 0) + (if f.brs then 2 ^ 20 else 0) + (if f.ide then 2 ^ 21 else 0) +
    (if f.esi then 2 ^ 22 else 0) + 2 ^ 24 * flt

/-- A data frame passes the filters. -/
def Block.canFilter (b : Block) (c : Nat) (f : CanFrame) : Block :=
  let hit (j : Nat) : Bool :=
    (b.on CAN.CAN_FLT_ID_EN c j || bit (b.can c).dead j) &&
      ((b.get CAN.CAN_FLT_ID_ID c j ^^^ f.id.toNat) &&& b.get CAN.CAN_FLT_MASK_MASK c j) == 0 && b.on CAN.CAN_FLT_ID_IDE c j == f.ide
  match (List.range 16).find? hit with
  | none => b.bump CAN.CAN_RX_DROP_COUNT CAN.CAN_RX_DROP_OVF c
  | some j =>
    if !b.on CAN.CAN_FLT_ID_EN c j then b.bump CAN.CAN_RX_DROP_COUNT CAN.CAN_RX_DROP_OVF c
    else
      let e := [BitVec.ofNat 32 (canHead f c j), BitVec.ofNat 32 b.now, BitVec.ofNat 32 (b.now / 2 ^ 32), BitVec.ofNat 32 f.id.toNat] ++
        packBytes f.data
      b.netPush (b.get CAN.CAN_FLT_RING_HANDLE c j) (4 + c) 4 f.data.length e

/-- A bus error while receiving; `primary` where the controller was the first to see it. In listen-only mode the counter stays (DESIGN CHOICE,
log entry 147). -/
def canBusError (c : Nat) (primary : Bool) (b : Block) : Block :=
  let s := b.can c
  if !b.canOnBus c || b.get CAN.CAN_CTL_OPMODE c == 1 then b
  else b.canCount c s.tec (min 255 (s.rec' + (if primary then 8 else 1)))

/-- A frame ends on the bus. One whose CRC does not match is a bus error (R119); one that matches lowers the receive counter, in listen-only mode
too. An FD frame while FD_EN = 0 does nothing (DESIGN CHOICE, log entry 147). In internal loopback the controller does not hear the bus. -/
def canFrameReceived (c : Nat) (f : CanFrame) (b : Block) : Block :=
  if !b.canOnBus c || b.get CAN.CAN_CTL_OPMODE c == 2 || (f.fd && !b.on CAN.CAN_CTL_FD_EN c) then b
  else if f.crc ≠ canCrc f then canBusError c false b
  else
    let b := b.canGood c
    if f.remote then b.bump CAN.CAN_REMOTE_COUNT CAN.CAN_REMOTE_OVF c else b.canFilter c f

/-- A frame with the CRC that its bits give. -/
def CanFrame.seal (f : CanFrame) : CanFrame := { f with crc := canCrc f }

/-- The frame that a transmit entry asks for. Without FD_EN, or for an entry that is no FD frame, it is a classical one of at most 8 bytes; its bit
rate switches where the entry and BRS_EN ask for it (R119, R126, R343, DESIGN CHOICE, log entry 106). An FD entry of a length that no data length
code gives is sent with that length (DESIGN CHOICE, log entry 147). -/
def Block.frameOfEntry (b : Block) (c : Nat) (ws : List Word) : CanFrame :=
  let h := (ws.getD 0 0).toNat
  let bytes := unpackBytes (ws.drop 4)
  let fd := bit h 19 && b.on CAN.CAN_CTL_FD_EN c
  let len := if fd then h % 65536 else min 8 (h % 65536)
  CanFrame.seal ⟨BitVec.ofNat 29 (ws.getD 3 0).toNat, bit h 21, fd, fd && bit h 20 && b.on CAN.CAN_CTL_BRS_EN c, fd && bit h 22, false, canDlc len,
    bytes.take len, 0⟩

/-- The frame on the bus for the one that waits in a controller's transmitter: an error-passive controller sends ESI recessive, whatever the entry
asks, and the CRC covers what is sent (R119; PRESUMED from ISO 11898-1, log entry 22). -/
def Block.canSent (b : Block) (c : Nat) (f : CanFrame) : CanFrame :=
  CanFrame.seal { f with esi := f.fd && (f.esi || b.get CAN.CAN_STAT_STATE c == 1) }

/-- A controller takes its next frame, the priority ring first. -/
def State.canTransmitStart (s : State) (c : Nat) : State :=
  let b := s.b
  if !b.canOnBus c || (b.can c).tx.isSome || b.get CAN.CAN_CTL_OPMODE c == 1 then s
  else
    let put (x : List Word × State) : State :=
      { x.2 with b := x.2.b.setCan c { x.2.b.can c with tx := some (b.frameOfEntry c x.1) } }
    match s.netTake (b.get CAN.CAN_TX_PRIO_HANDLE c) (4 + c) with
    | some x => put x
    | none =>
      match s.netTake (b.get CAN.CAN_TX_NORM_HANDLE c) (4 + c) with
      | some x => put x
      | none => s

/-- A transmission ends; without success the frame is sent again. -/
def canTransmitDone (c : Nat) (ok : Bool) (b : Block) : Block :=
  let s := b.can c
  match s.tx with
  | none => b
  | some f =>
    if !b.canOnBus c then b
    else if ok then
      let sent := b.canSent c f
      let b := b.setCan c { s with tx := none }
      let b := (b.bump CAN.CAN_TX_FRAMES_COUNT CAN.CAN_TX_FRAMES_OVF c).canCount c (s.tec - 1) s.rec'
      if b.get CAN.CAN_CTL_OPMODE c = 2 then b.canFilter c sent else b
    else b.canCount c (s.tec + 8) s.rec'

/-- 128 occurrences of 11 recessive bits since recovery began. -/
def canBusOffRecovery (c : Nat) (b : Block) : Block :=
  if !b.canRuns c || b.get CAN.CAN_STAT_STATE c != 2 || !(b.on CAN.CAN_CTL_AUTO_REC c || (b.can c).recovering) then b
  else (b.setCan c { b.can c with recovering := false }).canCount c 0 0

/-- Eleven recessive bits after enable or after a fence. -/
def canBusIntegration (c : Nat) (b : Block) : Block :=
  if !b.canRuns c then b else b.setCan c { b.can c with integrated := true }

/-- A write of `CAN_CTL`. A change of EN clears the error counters and the state, and the frame in the transmitter is lost (DESIGN CHOICE, log
entry 147). -/
def Block.canCtl (b : Block) (c : Nat) (w : Word) : Block :=
  let was := b.on CAN.CAN_CTL_EN c
  let b := b.store CAN.CAN_CTL w c
  let now := CAN.CAN_CTL_EN.of w == 1
  let b := if was == now then b else (b.wr CAN.CAN_STAT 0 c).setCan c { dead := (b.can c).dead }
  if CAN.CAN_CTL_RECOVER.of w = 1 ∧ b.get CAN.CAN_STAT_STATE c = 2 then b.setCan c { b.can c with recovering := true } else b

/-! ## Register writes of the CAN pages (R120, R122, R126) -/

def canCounters : List Reg := [CAN.CAN_RX_FRAMES, CAN.CAN_RX_DROP, CAN.CAN_TX_FRAMES, CAN.CAN_REMOTE]

/-- A write of a register of a CAN page. `CAN_TDC` is not among the timing that EN = 1 locks (DESIGN CHOICE, log entry 148). -/
def Block.canWrite (b : Block) (r : Reg) (c j : Nat) (w : Word) : Block × Ack :=
  if r = CAN.CAN_CTL then (b.canCtl c w, .ok)
  else if r = CAN.CAN_NBT then
    let t1 := CAN.CAN_NBT_TSEG1.of w + 1
    let t2 := CAN.CAN_NBT_TSEG2.of w + 1
    if b.on CAN.CAN_CTL_EN c then (b, .refused 10)
    else if t1 < 2 ∨ t2 < CAN.CAN_NBT_SJW.of w + 1 ∨ (CAN.CAN_NBT_BRP.of w + 1) * (1 + t1 + t2) < 50 then (b, .refused 9)
    else (b.store r w c, .ok)
  else if r = CAN.CAN_DBT then
    let n := (CAN.CAN_DBT_BRP.of w + 1) * (3 + CAN.CAN_DBT_TSEG1.of w + CAN.CAN_DBT_TSEG2.of w)
    if b.on CAN.CAN_CTL_EN c then (b, .refused 10)
    else if n < 10 then (b, .refused 9) else (b.store r w c, .ok)
  else if r = CAN.CAN_TX_PRIO ∨ r = CAN.CAN_TX_NORM then
    (if b.netRingOk (slice w 0 16) (4 + c) false then (b.store r w c, .ok) else (b, .refused 8))
  else if r = CAN.CAN_FLT_ID then
    if CAN.CAN_FLT_ID_EN.of w = 1 ∧ !b.netRingOk (b.get CAN.CAN_FLT_RING_HANDLE c j) (4 + c) true then (b, .refused 8)
    else ((b.store r w c j).setCan c { b.can c with dead := setBit (b.can c).dead j false }, .ok)
  else if r = CAN.CAN_FLT_RING then
    (if b.netRingOk (slice w 0 16) (4 + c) true then (b.store r w c j, .ok) else (b, .refused 8))
  else if r = CAN.CNT_CLR then (if slice w 0 1 = 1 then canCounters.foldl (fun b k => b.wr k 0 c) b else b, .ok)
  else (b.store r w c j, .ok)

end Sys2Proof.Machine
end

