-- ==== Sys2Proof/Machine/Legs.lean ====
section
/-!
DEFINITION. Legs: pad precedence, compare sets, the edge path with interlock and chop, driver-fault input, the sense front end of
a leg and the edge servo (R127 to R175, R185, R186).
-/

namespace Sys2Proof.Machine

/-! ## Registers whose write waits for the local meridian (R146, R191) -/

/-- The word in effect. -/
def Block.eff (b : Block) (r : Reg) (i j : Nat) : Word :=
  match Tab.get none b.deferred (r.addr i j) with
  | some w => w
  | none => b.rd r i j

/-- The value of a field in effect. -/
def Block.effGet (b : Block) (f : Fld) (i j : Nat) : Nat := f.of (b.eff f.reg i j)

/-! ## Pads (R153 to R155) -/

def Block.legOwner (b : Block) (leg : Nat) : Nat := b.get LEG.LEG_STAT_OWNER leg
def Block.legTb (b : Block) (leg : Nat) : Nat := b.get LEG.LEG_CFG_TB leg
def Block.tbRuns (b : Block) (k : Nat) : Bool := b.on EGA.TB_STAT_RUN 0 k
def Block.period (b : Block) (k : Nat) : Nat := (b.rd EGA.TB_PERIOD_ACT 0 k).toNat

/-- The core is held in reset (R44, R77, R28). -/
def Block.coreReset (b : Block) : Bool :=
  match b.crm.phase with
  | .run | .dormantEntry | .dormant | .wakeSettle | .wakePll | .wakeBanks => false
  | _ => true

/-- Rank 1 of R153. It is also what the registers show below the VDDIO18 minimum, where the lines themselves are undefined (R43, DESIGN CHOICE,
log entry 98). -/
def Block.padOff (b : Block) (leg : Nat) : Bool :=
  !b.crm.vddio18Ok || b.crm.porstLow || !decide (leg < b.numLegs) || (b.coreReset && (b.leg leg).shl.isNone)

/-- The pattern of rank 3 of R153: a failset pattern before the `SAFE_PAT` of an FCR reaction or of HALT (R205). -/
def Block.rank3 (b : Block) (leg : Nat) : Option Nat :=
  let l := b.leg leg
  match l.failPat with
  | some p => some p
  | none =>
    match l.fcrPat with
    | some p => some p
    | none => if (b.mode == 4 || b.crm.haltReq) && b.legOwner leg != 0 then some (b.get LEG.LEG_CFG_SAFE_PAT leg) else none

/-- The override of ranks 2 to 4 at a pad: pattern and `OVR_SRC`. -/
def Block.override (b : Block) (leg : Nat) : Option (Nat × Nat) :=
  match (b.leg leg).shl with
  | some p => some (p, 1)
  | none =>
    match b.rank3 leg with
    | some p => some (p, 2)
    | none => if b.on LEG.LEG_FLT_HELD leg then some (0, 3) else none

/-- `LEG_STAT.PAD` and `LEG_STAT.OVR_SRC` (R153, R155, R257). -/
def Block.pad (b : Block) (leg : Nat) : Nat × Nat :=
  if b.padOff leg then (1, 0)
  else
    match b.override leg with
    | some (p, s) => (p + 1, s)
    | none =>
      let l := b.leg leg
      match l.lastOvr with
      | some (p, s) => (p + 1, s)
      | none => if !l.own || !l.en || l.masked then (1, 0) else (0, 0)

/-- `CRM.MODE.ENERGISED`: a leg pad drives a pattern other than OFF (R37). -/
def Block.energised (b : Block) : Bool := (List.range b.numLegs).any (fun leg => (b.pad leg).1 != 1)

/-- A FULL session is lowered while the legs are energised in RUN or LIMP; a halted SPU resumes (R429). -/
def Block.debugLower (b : Block) : Block :=
  if b.get SEC.SEC_STAT_LEVEL = 2 && (b.mode == 2 || b.mode == 3) && b.energised then
    ((b.put SEC.SEC_STAT_LEVEL 1).put SEC.SEC_STAT_HALTED 0).evt 3 0
  else b

/-- The commands of a pattern: high and low side (R153). -/
def patCommands (p : Nat) : Bool × Bool := (p == 2, p == 1)

/-- What the pad of a leg drives, the high-side and the low-side command (R128, R154). -/
def Block.padOut (b : Block) (leg : Nat) : Bool × Bool :=
  let l := b.leg leg
  if b.padOff leg || l.padWait.isSome then (false, false)
  else
    match l.lastOvr with
    | some (p, _) => patCommands p
    | none => (l.hi, l.lo)

/-- The blanking time, formed at its start (R185). -/
def Block.blank (b : Block) (leg : Nat) : Block :=
  let g (f : Fld) : Nat := b.effGet f (leg / 2) (leg % 2)
  let lo := g SC.BLANK_MIN
  let n := if g SC.BLANK_ADAPT = 1 then
      max lo (min (g SC.BLANK_MAX) (b.get SC.RING_RING_MAX (leg / 2) (leg % 2) + g SC.BLANK_GUARD)) else lo
  b.setLeg leg { b.leg leg with blanking := true, blankLen := n }

/-- Blanking starts where what the pad drives is no longer `old` (R185). -/
def Block.padMoved (b : Block) (leg : Nat) (old : Bool × Bool) : Block := if b.padOut leg = old then b else b.blank leg

/-- One leg after its override may have changed: an engaged override stands until the leg's next local meridian (R155; DEDUCED, log entry
13), and a pattern that turns a command on passes through an interval with both off (R154). What a pattern turns off is timed for the return to
the edge path (R146, R155). -/
def Block.padRefresh (b : Block) (leg : Nat) : Block :=
  let l := b.leg leg
  match b.override leg with
  | some o =>
    if l.lastOvr = some o then b
    else
      let out := b.padOut leg
      let c := patCommands o.1
      let wait := if (c.1 && !out.1) || (c.2 && !out.2) then some (l.padWait.getD b.now) else none
      let l := if l.lastOvr.isNone then { l with preOff := (l.offHi, l.offLo), patOff := (none, none) } else l
      let off := (if out.1 && !c.1 then some b.now else l.patOff.1, if out.2 && !c.2 then some b.now else l.patOff.2)
      ((b.setLeg leg { l with lastOvr := some o, padWait := wait, patOff := off }).padMoved leg out).evt (0x20 + leg) 4
  | none => b

/-- Every leg after overrides may have changed. -/
def Block.padsRefresh (b : Block) : Block := (b.each (List.range b.numLegs) Block.padRefresh).debugLower

/-! ## Writes that wait for the local meridian (R146, R191) -/

/-- A stored write that takes effect at the leg's next local meridian, at once while its constellation is stopped. -/
def Block.storeAtMeridian (b : Block) (leg : Nat) (r : Reg) (w : Word) (i j : Nat) : Block :=
  let old := b.eff r i j
  let b' := b.store r w i j
  if b.tbRuns (b.legTb leg) then { b' with deferred := Tab.set none b'.deferred (r.addr i j) (some old) } else b'

/-- The leg registers of the converter pages (R191). -/
def legSenseRegs : List Reg :=
  [SC.NS_CFG, SC.NS_TH, SC.NS_HYST, SC.DT_ADAPT, SC.DT_MAX, SC.OC_LIM, SC.OC_HARD, SC.BLANK, SC.RING, SC.SERVO_CFG,
   SC.SERVO_REF, SC.SERVO_OUT, SC.BIN_T12, SC.BIN_T3]

/-- The counters of a leg on its converter page, in the order of the page (R191). -/
def legSenseCounters : List Reg := [SC.REJECT_CNT, SC.CLAMP_CNT, SC.NOCROSS_CNT, SC.STUCK_CNT, SC.OC_TRIP_CNT, SC.HARD_CNT]

/-- Every parallax entry of a leg back to CORR 0, COUNT 0, not valid (R173). -/
def Block.servoClear (b : Block) (leg : Nat) : Block :=
  b.each ((List.range 16).map (fun i => leg % 2 * 16 + i)) (fun b x => b.wr SC.PXT 0 (leg / 2) x)

/-- A write that clears takes effect: a counter of the leg, or its parallax table (R173, R191). -/
def Block.clearNow (b : Block) (leg k : Nat) : Block :=
  match legSenseCounters[k]? with
  | some r => b.wr r 0 (leg / 2) (leg % 2)
  | none => b.servoClear leg

/-- A write that clears, at the leg's next local meridian, at once while its constellation is stopped (R191). -/
def Block.clearAtMeridian (b : Block) (leg k : Nat) : Block :=
  if b.tbRuns (b.legTb leg) then
    let l := b.leg leg
    if l.clears.contains k then b else b.setLeg leg { l with clears := l.clears ++ [k] }
  else b.clearNow leg k

/-- The waiting writes of a leg take effect. -/
def Block.undefer (b : Block) (leg : Nat) : Block :=
  let ks := (LEG.LEG_DT.addr leg 0) :: legSenseRegs.map (fun r => r.addr (leg / 2) (leg % 2))
  let l := b.leg leg
  let b := { b with deferred := ks.foldl (fun t k => Tab.set none t k none) b.deferred }
  b.each l.clears (fun b k => b.clearNow leg k) |>.setLeg leg { l with clears := [] }

/-- A field of the leg's sense registers in effect. -/
def Block.ns (b : Block) (f : Fld) (leg : Nat) : Nat := b.effGet f (leg / 2) (leg % 2)

/-! ## The position of an edge (R132 to R135) -/

/-- The stagger of a leg in LCLK (R132). -/
def staggerLclk (s period : Nat) : Nat := s * period / 2 ^ 22

/-- On and off position of the high side under a compare pair, in fine steps from the local meridian (R134). -/
def onOff (form fmt period : Nat) (s : CmpPair) : Nat × Nat :=
  if form = 1 then
    if fmt = 0 then (divRneN (s.c1.toNat * period) (2 ^ 24), divRneN (s.c2.toNat * period) (2 ^ 24))
    else (min s.c1.toNat period, min s.c2.toNat period)
  else if fmt = 0 then
    let n := (2 ^ 24 - s.c1.toNat) * period
    (divRneN n (2 ^ 25), divRneN (period * 2 ^ 25 - n) (2 ^ 25))
  else
    let c := min s.c1.toNat period
    (divRneN (period - c) 2, divRneN (period + c) 2)

/-- How the high side's on-interval lies: 0 none, 1 from the on to the off position, 2 all but from the off to the on position (R134, R135). -/
def CmpPair.shape (s : CmpPair) (form : Nat) : Nat :=
  if form = 1 then (if s.c1 = s.c2 then 0 else if s.c1.toNat < s.c2.toNat then 1 else 2) else if s.c1 = 0 then 0 else 1

/-- Whether the high side is on at `pos` (R134). -/
def inOn (shape on off pos : Nat) : Bool :=
  match shape with
  | 0 => false
  | 1 => on ≤ pos && pos < off
  | _ => pos < off || on ≤ pos

/-- The two commands of a leg at `pos` (R134, R135). -/
def commandAt (form : Nat) (s : CmpPair) (on off pos : Nat) : Bool × Bool :=
  let h := inOn (s.shape form) on off pos
  if form = 2 then
    match s.c2.toNat % 4 with
    | 0 => (false, false)
    | 1 => (false, true)
    | 2 => (h, !h)
    | _ => (h, false)
  else (h, !h)

/-- A pair clamped to the period (R133). -/
def CmpPair.clampTo (s : CmpPair) (form p : Nat) : CmpPair :=
  let lim (c : Word) : Word := if p < c.toNat then BitVec.ofNat 32 p else c
  ⟨lim s.c1, if form = 1 then lim s.c2 else s.c2⟩

/-! ## The edge servo (R168 to R173) -/

/-- The bin of a current (R168). -/
def Block.binOf (b : Block) (leg : Nat) (i : Int) : Nat :=
  let m := i.natAbs
  let k := if m < b.ns SC.BIN_T12_T1 leg then 0 else if m < b.ns SC.BIN_T12_T2 leg then 1
    else if m < b.ns SC.BIN_T3_T3 leg then 2 else 3
  if 0 ≤ i then k else k + 4

/-- The index of a leg's parallax entry on its converter page. -/
def pxIndex (leg dir bin : Nat) : Nat := leg % 2 * 16 + 8 * dir + bin

/-- The correction applied to an edge, in fine steps (R169). -/
def Block.correction (b : Block) (leg dir bin : Nat) : Int :=
  if b.ns SC.SERVO_CFG_MODE leg < 2 then 0
  else
    let ok (k : Nat) : Bool := b.on SC.PXT_VALID (leg / 2) (pxIndex leg dir k)
    let base := bin / 4 * 4
    let m := bin % 4
    let order := ((List.range 4).map (fun d => (if d ≤ m then [m - d] else []) ++ (if m + d < 4 then [m + d] else []))).flatten
    match order.find? (fun k => ok (base + k)) with
    | none => 0
    | some k =>
      let c := sx 20 (b.get SC.PXT_CORR (leg / 2) (pxIndex leg dir (base + k)))
      let lim : Int := b.ns SC.SERVO_REF_PD_MAX leg
      clampI (-lim) lim (divRne c 16)

/-- The commit instant that governs a position and the next one (R135, R170). -/
def commitSpan (dbl : Bool) (period pos : Nat) : Nat × Nat :=
  let h := period / 2
  if dbl then (if pos < h then (0, h) else (h, period)) else (0, period)

/-- The nearest ECLK edge to a position, the local meridian standing `grid` fine steps after one (R138). -/
def coarsePlace (grid : Nat) (q : Int) : Int := divRne (grid + q) 32 * 32 - grid

/-- The ECLK edge that takes a position between the limits of R170: the nearest one; where that lies beyond a limit, the ECLK edge next to it
inside the limits (R138, R170; DESIGN CHOICE, log entry 128). -/
def coarseWithin (grid : Nat) (lo hi q : Int) : Int :=
  let r := coarsePlace grid q
  if r < lo then r + 32 else if hi < r then r - 32 else r

/-- A position between a commit instant and the next one, under the limits of R170, with whether they moved it. -/
def limitEdge (coarse : Option Nat) (g n : Nat) (p : Int) : Nat × Bool :=
  let q := clampI g ((n : Int) - 1) p
  let r := match coarse with
    | some grid => coarseWithin grid g ((n : Int) - 1) q
    | none => q
  (r.toNat, decide (q ≠ p))

/-- The placed position of an edge and whether the limit of R170 moved it. An edge at the period boundary is no edge. -/
def placeEdge (dbl : Bool) (coarse : Option Nat) (period t : Nat) (c : Int) : Nat × Bool :=
  if t = 0 ∨ period ≤ t then (t, false)
  else
    let (g, n) := commitSpan dbl period t
    limitEdge coarse g n ((t : Int) - c)

/-- The ECLK grid under the local meridian where the leg is placed at ECLK resolution (R138). -/
def Block.coarseGrid (b : Block) (leg : Nat) : Option Nat := if b.on LEG.LEG_STAT_COARSE leg then some (b.leg leg).grid else none

/-- The placed on and off positions of a leg under a compare pair with the current loaded with it, and which of the two were
clamped; of two edges that would be reordered the later is placed at the earlier (R169, R170). -/
def Block.placed (b : Block) (leg : Nat) (s : CmpPair) (i : Int) : (Nat × Nat) × (Bool × Bool) :=
  let k := b.legTb leg
  let p := b.period k
  let form := b.get LEG.LEG_CFG_FORM leg
  let (on, off) := onOff form (b.get LEG.LEG_CFG_FORMAT leg) p s
  let bin := b.binOf leg i
  let place (t dir : Nat) : Nat × Bool := placeEdge (b.tb k).dbl (b.coarseGrid leg) p t (b.correction leg dir bin)
  let (on', c1) := place on 0
  let (off', c2) := place off 1
  let r := match s.shape form with
    | 0 => (on', off')
    | 1 => (on', max on' off')
    | _ => (max on' off', off')
  (r, (c1, c2))

/-- Whether the placement at the same position leaves an interval of no length where the set has one (R170). -/
def Block.squeezed (b : Block) (leg : Nat) (s : CmpPair) (i : Int) : Bool :=
  let form := b.get LEG.LEG_CFG_FORM leg
  let (on, off) := onOff form (b.get LEG.LEG_CFG_FORMAT leg) (b.period (b.legTb leg)) s
  let ((on', off'), _) := b.placed leg s i
  s.shape form ≠ 0 && on != off && on' == off'

/-- The active compare pair, as clamped (R133). -/
def Block.active (b : Block) (leg : Nat) : CmpPair := (b.leg leg).clamp.getD ⟨b.rd LEG.LEG_ACT1 leg, b.rd LEG.LEG_ACT2 leg⟩

/-- The edge path of a leg works: it has an owner, the path is enabled and the leg is not masked (R127, R158, R257). -/
def LegSt.works (l : LegSt) : Bool := l.own && l.en && !l.masked

/-- The commands of a leg under a set at a position of its period, both off where its edge path does not work (R135). -/
def Block.setCommands (b : Block) (leg : Nat) (s : CmpPair) (i : Int) (pos : Nat) : Bool × Bool :=
  if !(b.leg leg).works then (false, false)
  else
    let ((on, off), _) := b.placed leg s i
    commandAt (b.get LEG.LEG_CFG_FORM leg) s on off pos

/-- The stage-2 commands of a leg at a position of its period (R128, R135, R170, R257). -/
def Block.stage2 (b : Block) (leg pos : Nat) : Bool × Bool :=
  let l := b.leg leg
  let now := b.setCommands leg (b.active leg) l.iActive pos
  match l.held with
  | some (c, q) => if l.works && decide (pos < q) then c else now
  | none => now

/-- The commands after chopping (R149); a chop puts no command on a leg whose edge path does not work (R158). -/
def Block.stage3 (b : Block) (leg : Nat) (c : Bool × Bool) : Bool × Bool :=
  match (b.leg leg).chop with
  | none => c
  | some pos =>
    let other := (b.leg leg).works && b.get LEG.LEG_CFG_CHOP_MODE leg == 0
    if pos then (false, other) else (other, false)

/-- The interlock's part of a change of command: turn-offs pass at once, a turn-on waits (R146). -/
def LegSt.drive (l : LegSt) (h lo : Bool) (pos : Nat) : LegSt :=
  let hi' := l.hi && h
  let lo' := l.lo && lo
  let sup := match l.suppressed with
    | some true => if h then some true else none
    | some false => if lo then some false else none
    | none => none
  let want := if h && !hi' && sup != some true then some true
    else if lo && !lo' && sup != some false then some false else none
  { l with hi := hi', lo := lo', suppressed := sup, turnOn := want
           offHi := if l.hi && !h then some (pos : Int) else l.offHi
           offLo := if l.lo && !lo then some (pos : Int) else l.offLo }

/-- A new edge of a leg at `pos`; its sense window opens and those open before go on (R164). -/
def LegSt.pushEdge (l : LegSt) (falling : Bool) (bin pos : Nat) (chop live : Bool) : LegSt :=
  let d := ((pos : Int) - l.edgeAt).toNat
  { l with edges := ⟨falling, bin, chop, none, none, none, none, none, false, 0, live⟩ :: l.edges.map (fun e => { e with lag := e.lag + d })
           edgeAt := pos }

/-- The sense front end of a leg works. -/
def Block.senses (b : Block) (leg : Nat) : Bool :=
  b.awake && b.mode != 0 && decide (leg < b.numLegs) && b.on SNS.SNS_CTL_EN && !b.fenced (0xB0 + leg / 2)

/-- The leg's commands brought to those of `pos` (R135); an edge of the high-side command at stage 2 opens its sense window (R164), and at the
release of a chop so does one that the release alone makes (R151). -/
def Block.legUpdate (b : Block) (leg pos : Nat) (byChop : Bool) : Block :=
  let l := b.leg leg
  let out := b.padOut leg
  let (h2, l2) := b.stage2 leg pos
  let (h3, l3) := b.stage3 leg (h2, l2)
  let bin := b.binOf leg l.iActive
  let l' := { (l.drive h3 l3 pos) with cmdHi := h2, cmdLo := l2 }
  let released := byChop && h3 != (l.hi || l.turnOn == some true)
  let l' := if released || h2 != l.cmdHi then
      l'.pushEdge (!(if released then h3 else h2)) bin pos (byChop || l.chop.isSome) (b.senses leg) else l'
  (b.setLeg leg l').padMoved leg out

/-- A clamped edge counted (R170). -/
def Block.clampCount (b : Block) (leg : Nat) : Block :=
  (b.bump SC.CLAMP_CNT_COUNT SC.CLAMP_CNT_OVF (leg / 2) (leg % 2)).evt (0xB0 + leg / 2) (6 + leg % 2)

/-- Where the edge that arises at the commit instant `pos` is placed, for a rising edge `dir` 0, and whether the limit moved it (R135, R170). -/
def Block.commitPlace (b : Block) (leg dir pos : Nat) (i : Int) : Nat × Bool :=
  let k := b.legTb leg
  let (_, n) := commitSpan (b.tb k).dbl (b.period k) pos
  limitEdge (b.coarseGrid leg) pos n ((pos : Int) - b.correction leg dir (b.binOf leg i))

/-- An edge of the set itself is placed at `pos`. -/
def Block.ownEdge (b : Block) (leg : Nat) (s : CmpPair) (i : Int) (pos : Nat) : Bool :=
  let ((on, off), _) := b.placed leg s i
  s.shape (b.get LEG.LEG_CFG_FORM leg) != 0 && pos != 0 && (on == pos || off == pos)

/-- The edge that arises at a commit instant where the sets disagree passes the servo as every edge does: one that the servo advances is
clamped to the commit, one that it delays is held (R135, R170). An edge that the new set itself has there is placed already. -/
def Block.commitEdge (b : Block) (leg pos : Nat) (worked : Bool) : Block :=
  let l := b.leg leg
  let old := (l.cmdHi, l.cmdLo)
  let new := b.setCommands leg (b.active leg) l.iActive pos
  if !worked || !l.works || old.1 == new.1 || b.ownEdge leg (b.active leg) l.iActive pos then b
  else
    let (r, c) := b.commitPlace leg (if new.1 then 0 else 1) pos l.iActive
    let b := if c then b.clampCount leg else b
    if r ≤ pos then b else b.setLeg leg { l with held := some (old, r) }

/-! ## Compare sets (R139 to R142) -/

/-- A set is replaced before it was committed (R139). -/
def Block.superseded (b : Block) (leg : Nat) : Block :=
  (b.bump LEG.LEG_SUPER_CNT_COUNT LEG.LEG_SUPER_CNT_OVF leg).evt (0x20 + leg) 3

/-- A leg is linked, by the LINK_EN that the latest accepted `TB_GO` found (R130, R145). -/
def Block.linked (b : Block) (leg : Nat) : Bool :=
  let t := b.tb (b.legTb leg)
  b.legOwner leg != 0 && b.on LEG.LEG_CFG_FORMAT leg && b.on LEG.LEG_CFG_LINK leg && (if t.pend.isSome then t.linkPend else t.link)

/-- A leg is linked as the sealed period has it (R130, R145). -/
def Block.linkedTo (b : Block) (leg : Nat) : Bool :=
  b.legOwner leg != 0 && b.on LEG.LEG_CFG_FORMAT leg && b.on LEG.LEG_CFG_LINK leg && (b.tb (b.legTb leg)).link

/-- The legs of a constellation. -/
def Block.legsOn (b : Block) (k : Nat) : List Nat := (List.range b.numLegs).filter (fun leg => b.legTb leg == k)

/-- The linked legs of a constellation are all fresh (R145). -/
def Block.allFresh (b : Block) (k : Nat) : Bool :=
  (b.legsOn k).all (fun leg => !b.linkedTo leg || b.on LEG.LEG_STAT_FRESH leg)

/-- A leg whose window opens before the constellation's meridian that its local meridian follows: its shift is below 8 ECLK (R132, R142). -/
def Block.early (b : Block) (leg : Nat) : Bool :=
  decide (staggerLclk (b.get LEG.LEG_CFG_STAGGER leg) (b.period (b.legTb leg)) < 4)

/-- A leg whose local meridian is the constellation's meridian (R132). -/
def Block.unstaggered (b : Block) (leg : Nat) : Bool :=
  staggerLclk (b.get LEG.LEG_CFG_STAGGER leg) (b.period (b.legTb leg)) == 0

/-- The window of the next meridian of a constellation is open: as a leg without stagger shows it, and without such a leg by the time-stamp of
the last meridian tick, or by that of the first meridian of a start (R130, R142, R145; DEDUCED, log entry 107). -/
def Block.tbWindow (b : Block) (k : Nat) : Bool :=
  let t := b.tb k
  match (b.legsOn k).filter b.unstaggered with
  | [] =>
    let last := (b.rd EGA.TB_MTS_LO 0 k).toNat + (b.rd EGA.TB_MTS_HI 0 k).toNat * 2 ^ 32
    let next := if t.starting then t.firstAt else some (last + b.period k / 64)
    next.any (fun m => decide (m ≤ b.now + 4 ∧ b.now < m))
  | legs => legs.any (fun leg => let l := b.leg leg; l.window && (t.starting || !t.dbl || l.lastAnti))

/-- What the window of the next meridian finds, kept for the meridian (R145). -/
def Block.decidePeriod (b : Block) (k : Nat) : Block :=
  let t := b.tb k
  if t.take.isSome then b else b.setTb k { t with take := some (b.allFresh k) }

/-- Before a GO changes what is fresh, a window that is open has found what it found (R145). -/
def Block.judgeWindow (b : Block) (k : Nat) : Block := if b.tbWindow k then b.decidePeriod k else b

/-- A GO seals the shadow of a leg (R139, R145). -/
def Block.seal (b : Block) (leg : Nat) : Block :=
  let b := b.judgeWindow (b.legTb leg)
  let l := b.leg leg
  let s : CmpPair := ⟨b.rd LEG.LEG_CMP1 leg, b.rd LEG.LEG_CMP2 leg⟩
  if l.window then
    let b := if l.pending.isSome then b.superseded leg else b
    (b.setLeg leg { l with pending := some s, pendFresh := b.linked leg }).put LEG.LEG_STAT_PEND 1 leg
  else
    let b := if l.staged.isSome then b.superseded leg else b
    let b := (b.setLeg leg { l with staged := some s }).put LEG.LEG_STAT_STAGED 1 leg
    if b.linked leg then b.put LEG.LEG_STAT_FRESH 1 leg else b

/-- Whether a sealed period holds back the set of a linked leg from the commit that comes (R145): at the meridian that does not yet
take it, and at every other commit where the set is fresh or the period already waits. -/
def Block.heldBack (b : Block) (leg : Nat) (anti : Bool) : Bool :=
  let k := b.legTb leg
  let t := b.tb k
  b.linkedTo leg && t.sealed.isSome &&
    (if !anti && b.early leg then !(t.take.getD (b.allFresh k) || decide (1 ≤ t.n))
     else b.on LEG.LEG_STAT_FRESH leg || decide (1 ≤ t.n))

/-- The window of a leg's next commit opens: the staged set is frozen, with the leg's current (R142, R168). -/
def legWindowOpen (leg : Nat) (b : Block) : Block :=
  let l := b.leg leg
  let k := b.legTb leg
  if !b.running || !decide (leg < b.numLegs) || !b.tbRuns k || l.window then b
  else
    let anti := (b.tb k).dbl && !l.lastAnti && !(b.tb k).starting
    let b := if !anti && b.early leg then b.decidePeriod k else b
    let fallback := b.legOwner leg == 1 &&
      (b.on SNS.AXS_REC_HELD 0 (b.get LEG.LEG_STAT_AXIS leg) || b.on SNS.AXS_REC_RECON 0 (b.get LEG.LEG_STAT_AXIS leg))
    let res := if leg % 2 = 0 then SC.RES_A_VALUE else SC.RES_B_VALUE
    let i := if fallback then l.iLatch else sx 14 (b.get res (leg / 2))
    let f := if b.heldBack leg anti then none else l.staged
    b.setLeg leg { l with window := true, frozen := f, iFrozen := i }

/-- A half-period ends: without a chop in it the row of chopped half-periods ends too (R150). -/
def Block.halfEnd (b : Block) (leg : Nat) : Block :=
  let l := b.leg leg
  b.setLeg leg { l with chopRun := if l.chopHalf then l.chopRun else 0, chopHalf := false }

/-- The pending latch moves into the staged set one ECLK after the commit (R142). -/
def Block.pendToStaged (b : Block) (leg : Nat) : Block :=
  let l := b.leg leg
  match l.pending with
  | none => b
  | some s =>
    let b := if l.staged.isSome then b.superseded leg else b
    let b := b.setLeg leg { (b.leg leg) with staged := some s, pending := none, pendFresh := false }
    let b := (b.put LEG.LEG_STAT_PEND 0 leg).put LEG.LEG_STAT_STAGED 1 leg
    if l.pendFresh then b.put LEG.LEG_STAT_FRESH 1 leg else b

/-- A set as the period in force clamps it, in absolute format (R133). -/
def Block.clampSet (b : Block) (leg : Nat) (s : CmpPair) : CmpPair :=
  if b.on LEG.LEG_CFG_FORMAT leg then s.clampTo (b.get LEG.LEG_CFG_FORM leg) (b.period (b.legTb leg)) else s

/-- The commit of the frozen set at a commit instant; without one the active set stays, clamped to the period in force (R133, R142, R144). -/
def Block.commitSet (b : Block) (leg : Nat) : Block :=
  let l := b.leg leg
  let old := b.active leg
  let s := l.frozen.getD old
  let s' := b.clampSet leg s
  let moved := s' != s
  let b := if moved then (b.put LEG.LEG_STAT_CLAMPED 1 leg).evt (0x20 + leg) 6 else b
  match l.frozen with
  | none => b.setLeg leg { l with window := false, clamp := if moved then some s' else l.clamp }
  | some s =>
    let b := ((b.wr LEG.LEG_ACT1 s.c1 leg).wr LEG.LEG_ACT2 s.c2 leg).flag LEG.LEG_STAT_CLAMPED moved leg
    let rest := if l.staged = some s then none else l.staged
    (b.setLeg leg { l with
      window := false, frozen := none, staged := rest, iActive := l.iFrozen, clamp := if moved then some s' else none }).flag
      LEG.LEG_STAT_STAGED rest.isSome leg

/-- The later of two turn-offs, the second a time-stamp, seen from a local meridian at time-stamp `now` (DEDUCED, log entry 150). -/
def laterOff (now : Nat) (pre : Option Int) (pat : Option Nat) : Option Int :=
  match pre, pat.map (fun t => -(64 * (now - t : Nat) : Int)) with
  | some x, some y => some (max x y)
  | some x, none => some x
  | none, y => y

/-- The pad returns to the edge path at the local meridian. A command that the edge path has on and the pad not passes the interlock. What the
other side waits for is the turn-off at the pad: here, where the pattern had a command on that the edge path has off, else the last one, by the
patterns or before them (R146, R147, R155). -/
def LegSt.returnFrom (l : LegSt) (now : Nat) (out : Bool × Bool) : LegSt :=
  let want := if l.hi && !out.1 then some true else if l.lo && !out.2 then some false else l.turnOn
  { l with hi := l.hi && out.1, lo := l.lo && out.2, turnOn := want, lastOvr := none, padWait := none
           offHi := if out.1 && !l.hi then some 0 else laterOff now l.preOff.1 l.patOff.1
           offLo := if out.2 && !l.lo then some 0 else laterOff now l.preOff.2 l.patOff.2
           preOff := (none, none), patOff := (none, none) }

/-- What waits for a local meridian takes effect: returns, trims, codes, register writes (R137, R138, R146, R155, R191). Positions kept from
the period that ends are seen from the new local meridian. What the return changes at the pad starts blanking (R185). -/
def Block.localMeridian (b : Block) (leg : Nat) : Block :=
  let out := b.padOut leg
  let b := b.undefer leg
  let l := b.leg leg
  let g := if leg < 32 then 0 else 1
  let code := if g = 0 then b.get EGA.DLL_CODE0_COARSE + 64 * b.get EGA.DLL_CODE0_FINE
    else b.get EGA.DLL_CODE1_COARSE + 64 * b.get EGA.DLL_CODE1_FINE
  let b := match l.trimNext with
    | some v => b.put LEG.LEG_TRIM_TRIM v leg
    | none => b
  let b := b.put LEG.LEG_STAT_COARSE (if g = 0 then b.get EGA.EGA_STAT_COARSE0 else b.get EGA.EGA_STAT_COARSE1) leg
  let back := (b.override leg).isNone && l.lastOvr.isSome
  let k := b.legTb leg
  let p := b.period k
  let sh (q : Nat) : Int := 64 * staggerLclk (b.get LEG.LEG_CFG_STAGGER leg) q
  let len := (l.per : Int) + sh p - sh l.per
  let l := { l with own := b.legOwner leg != 0, trimNext := none, lineCode := code, per := p, grid := (b.tb k).phase % 32
                    offHi := l.offHi.map (· - len), offLo := l.offLo.map (· - len), edgeAt := l.edgeAt - len
                    preOff := (l.preOff.1.map (· - len), l.preOff.2.map (· - len)) }
  if back then (b.setLeg leg (l.returnFrom b.now out)).padMoved leg out else b.setLeg leg l

/-- A commit instant of a leg: local meridian, or local antimeridian with double update (R142, R150, R155, R158, R257). -/
def Block.legCommitCore (b : Block) (leg : Nat) (anti : Bool) : Block :=
  let b := b.halfEnd leg
  let worked := (b.leg leg).works
  let rel := (b.leg leg).chop.isSome && (!anti || b.get LEG.LEG_CFG_CHOP_REL leg == 0)
  let b := b.commitSet leg
  let l := b.leg leg
  let b := match l.maskNext with
    | some v => if b.legOwner leg = 0 then b else b.flag AX.AX_DRV_MASKED v (b.get LEG.LEG_STAT_AXIS leg)
    | none => b
  let b := b.setLeg leg { l with
    lastAnti := anti
    en := b.on EGA.EGA_CTL_EN
    masked := l.maskNext.getD l.masked
    maskNext := none
    held := none
    chop := if rel then none else l.chop }
  let b := if rel then b.put LEG.LEG_STAT_CHOPPING 0 leg else b
  let b := if anti then b else b.localMeridian leg
  let pos := if anti then b.period (b.legTb leg) / 2 else 0
  ((b.commitEdge leg pos worked).legUpdate leg pos rel).pendToStaged leg

/-- A local meridian, or a local antimeridian, of a leg can come. -/
def Block.commits (b : Block) (leg : Nat) : Bool :=
  b.running && decide (leg < b.numLegs) && b.tbRuns (b.legTb leg) && !(b.tb (b.legTb leg)).starting

/-- The local meridian or antimeridian of a leg. Without double update the antimeridian is no commit instant and only ends a
half-period (R150). -/
def Block.legInstant (b : Block) (leg : Nat) (anti : Bool) : Block :=
  if !b.commits leg then b
  else if anti && !(b.tb (b.legTb leg)).dbl then b.halfEnd leg
  else (b.legCommitCore leg anti).debugLower

/-! ## GO (R139, R141) -/

/-- The check of a GO on one leg. -/
def Block.goCheck (b : Block) (leg : Nat) : Ack :=
  if b.legOwner leg = 0 then .refused 3 else if b.legOwner leg = 1 then .refused 1 else .ok

/-- A write of `LEG_UPD`. -/
def Block.legGo (b : Block) (leg : Nat) (w : Word) : Block × Ack :=
  if LEG.LEG_UPD_GO.of w = 0 then (b, .ok)
  else
    match b.goCheck leg with
    | .ok => (b.seal leg, .ok)
    | r => (b, r)

/-- A write of `GROUP_GO0` or `GROUP_GO1` (R141). -/
def Block.groupGo (b : Block) (hi : Bool) (w : Word) : Block × Ack :=
  let legs := (bitsOf w.toNat 32).map (fun k => if hi then k + 32 else k)
  let key (leg : Nat) : Nat × Nat := (b.legTb leg, b.get LEG.LEG_CFG_STAGGER leg)
  if legs.any (fun leg => b.legOwner leg == 0 || !decide (leg < b.numLegs)) then (b, .refused 3)
  else if legs.any (fun leg => b.legOwner leg == 1) then (b, .refused 1)
  else
    match legs with
    | [] => (b, .ok)
    | l0 :: _ => if legs.all (fun leg => key leg == key l0) then (b.each legs Block.seal, .ok) else (b, .refused 8)

/-! ## Edges and the interlock (R135, R146 to R148, R166) -/

/-- An interval removed by the placement, counted (R148, R170). -/
def Block.suppCount (b : Block) (leg : Nat) : Block :=
  (b.bump LEG.LEG_SUPP_CNT_COUNT LEG.LEG_SUPP_CNT_OVF leg).evt (0x20 + leg) 2

/-- The edge held from a commit ends at `pos`, and an edge of the set that the servo left before it is placed there too (R170). -/
def Block.heldSqueezed (b : Block) (leg pos : Nat) : Bool :=
  let l := b.leg leg
  let k := b.legTb leg
  let cmd (q : Nat) : Bool := (b.setCommands leg (b.active leg) l.iActive q).1
  match l.held with
  | some (_, q) => q == pos && l.works && cmd (commitSpan (b.tb k).dbl (b.period k) q).1 != cmd q
  | none => false

/-- A placed edge position of a leg is reached: each edge that a limit moved there is counted, and an interval that the placement leaves without
length is removed and counted (R148, R170). -/
def legEdge (leg pos : Nat) (b : Block) : Block :=
  if !b.commits leg || !decide (pos < b.period (b.legTb leg)) then b
  else
    let l := b.leg leg
    let ((on, off), (c1, c2)) := b.placed leg (b.active leg) l.iActive
    let b := if pos == on && c1 then b.clampCount leg else b
    let b := if pos == off && c2 then b.clampCount leg else b
    let b := if pos == on && l.works && b.squeezed leg (b.active leg) l.iActive then b.suppCount leg else b
    let b := if b.heldSqueezed leg pos then b.suppCount leg else b
    b.legUpdate leg pos false

/-- The adaptive guard in effect (R162, R166). -/
def Block.guard (b : Block) (leg : Nat) : Nat :=
  b.ns SC.DT_ADAPT_GUARD leg + (if (b.bus (b.ns SC.NS_CFG_BUS leg)).noCal then 20 else 0)

/-- The node sense of a leg decides no dead time: it is not in use, or the pad is under an override (R166). -/
def Block.blind (b : Block) (leg : Nat) : Bool := b.ns SC.NS_CFG_NS_EN leg == 0 || (b.pad leg).2 != 0

/-- When the other command turned off, for the turn-on of a side (R146). -/
def LegSt.offOf (l : LegSt) (side : Bool) : Option Int := if side then l.offLo else l.offHi

/-- The edge whose turn-off the turn-on that waits follows (R166). -/
def LegSt.edgeOff (l : LegSt) : Option EdgeSt :=
  match l.turnOn with
  | some side => if l.offOf side = some l.edgeAt then l.edges.head? else none
  | none => l.edges.head?

/-- The dead time of the turn-on that waits, in fine steps, with the KIND of `DT_LAST`; none while the node has left its start
band and has neither settled nor been declared stuck (R146, R166). -/
def Block.deadTime (b : Block) (leg : Nat) : Option (Nat × Nat) :=
  let floor := max 384 (LEG.LEG_DT_DT_FLOOR.of (b.eff LEG.LEG_DT leg 0))
  if LEG.LEG_DT_ADAPT_EN.of (b.eff LEG.LEG_DT leg 0) = 0 then some (floor, 0)
  else
    let hard := 32 * b.ns SC.DT_ADAPT_HARD leg
    let amax := 32 * b.ns SC.DT_MAX_ADAPT_MAX leg
    let pick (v kind : Nat) : Option (Nat × Nat) := if v ≤ floor then some (floor, 0) else some (v, kind)
    if b.blind leg then pick hard 2
    else
      match (b.leg leg).edgeOff with
      | none => pick hard 2
      | some e =>
        if e.stuck then pick amax 3
        else
          match e.leftOut with
          | none => pick hard 2
          | some l =>
            if hard ≤ l then pick hard 2
            else
              match e.settleOut with
              | some st => if st < amax then pick (st + 32 * b.guard leg) 1 else pick amax 3
              | none => none

/-- The first position from `lo` on and below `up` at which a set has a side off. -/
def Block.offFrom (b : Block) (leg : Nat) (hi : Bool) (s : CmpPair) (i : Int) (lo up : Nat) : Option Nat :=
  let form := b.get LEG.LEG_CFG_FORM leg
  let ((a, z), _) := b.placed leg s i
  let side (q : Nat) : Bool := let c := commandAt form s a z q; if hi then c.1 else c.2
  if up ≤ lo then none
  else if !side lo then some lo
  else ([a, z].filter (fun q => lo < q && q < up && !side q)).min?

/-- The period that the next meridian will have in force (R144, R145). -/
def Block.nextPeriod (b : Block) (leg : Nat) : Block :=
  let k := b.legTb leg
  let t := b.tb k
  match t.sealed, t.take with
  | some q, some fresh => if b.early leg && (fresh || decide (1 ≤ t.n)) then b.wr EGA.TB_PERIOD_ACT (BitVec.ofNat 32 q) 0 k else b
  | _, _ => b

/-- The first position from the commit instant `lo` on and below the next one `up` at which the set that will govern from there has a side off;
an edge that arises at the commit itself is placed as the servo places it (R148, R170). `high` is the high-side command before the commit. -/
def Block.offAfter (b : Block) (leg : Nat) (hi high : Bool) (lo up : Nat) : Option Nat :=
  let l := b.leg leg
  let s := b.clampSet leg (l.frozen.getD (b.active leg))
  let i := if l.frozen.isSome then l.iFrozen else l.iActive
  let new := (b.setCommands leg s i lo).1
  if new == high || b.ownEdge leg s i lo then b.offFrom leg hi s i lo up
  else
    let (r, _) := b.commitPlace leg (if new then 0 else 1) lo i
    b.offFrom leg hi s i r up

/-- Where the present on-interval of a side ends, in fine steps from the present local meridian, where the sets known at the turn-on fix it:
the active set and, once the window of the next commit is open, the set that will govern from it (R148). A local period in which the period
changed ends at its old length and the change of the leg's shift (R132, R144). Under a chop the set governs again from the commit that releases
it (R150). -/
def Block.onEnd (b : Block) (leg : Nat) (hi : Bool) (pos : Nat) : Option Nat :=
  let l := b.leg leg
  let dbl := (b.tb (b.legTb leg)).dbl
  let q := b.period (b.legTb leg)
  let sh (q : Nat) : Int := 64 * staggerLclk (b.get LEG.LEG_CFG_STAGGER leg) q
  let p := if l.per = 0 then q else ((l.per : Int) + sh q - sh l.per).toNat
  let n := if dbl && !l.lastAnti && decide (pos < q / 2) then q / 2 else p
  let from' := match l.held with
    | some (_, q) => max (pos + 1) q
    | none => pos + 1
  let now := if l.chop.isSome then none else b.offFrom leg hi (b.active leg) l.iActive from' n
  match now with
  | some q => some q
  | none =>
    if !l.window || (l.chop.isSome && b.get LEG.LEG_CFG_CHOP_REL leg == 1 && decide (n < p)) then none
    else
      let high := (b.setCommands leg (b.active leg) l.iActive (n - 1)).1
      if n < p then b.offAfter leg hi high n p
      else
        let b := b.nextPeriod leg
        (b.offAfter leg hi high 0 (commitSpan dbl (b.period (b.legTb leg)) 0).2).map (· + p)

/-- The interval with both commands off ends and the pattern stands at the pad, 24 ns after it began at the earliest (R147, R154). -/
def Block.padFloorEnd (b : Block) (leg : Nat) : Block :=
  let l := b.leg leg
  match l.padWait with
  | some t => if b.running && decide (b.now < t + 6) then b else (b.setLeg leg { l with padWait := none }).padMoved leg (b.padOut leg)
  | none => b

/-- The dead time of the incoming command expires (R146, R148, R167). -/
def Block.turnOnDue (b : Block) (leg pos : Nat) : Block :=
  let l := b.leg leg
  match l.turnOn, b.deadTime leg with
  | some side, some (dt, kind) =>
    let since : Int := match l.offOf side with
      | some q => pos - q
      | none => dt
    if !b.running || decide (since < dt) || (if side then l.lo else l.hi) then b
    else
      let short := match b.onEnd leg side pos with
        | some e => decide (e - pos < 16 * LEG.LEG_DT_MIN_PULSE.of (b.eff LEG.LEG_DT leg 0))
        | none => false
      let out := b.padOut leg
      let b := (b.put SC.DT_LAST_DT (since.toNat / 32) (leg / 2) (leg % 2)).put SC.DT_LAST_KIND kind (leg / 2) (leg % 2)
      if short then
        ((b.setLeg leg { l with turnOn := none, suppressed := some side }).bump LEG.LEG_SUPP_CNT_COUNT
          LEG.LEG_SUPP_CNT_OVF leg).evt (0x20 + leg) 2
      else
        (b.setLeg leg { l with turnOn := none, hi := l.hi || side, lo := l.lo || !side }).padMoved leg out
  | _, _ => b

/-- An interval with both commands off ends: at the pad under a pattern, and in the interlock of the edge path (R146, R154). -/
def interlockTurnOn (leg pos : Nat) (b : Block) : Block := (b.padFloorEnd leg).turnOnDue leg pos

/-- Both commands found on: both off, EGA_INTERLOCK (R147). -/
def egaInterlock (leg pos : Nat) (b : Block) : Block :=
  if !b.running || !decide (leg < b.numLegs) then b
  else
    let l := b.leg leg
    let b := b.setLeg leg { l.drive false false pos with turnOn := none }
    ((b.blank leg).evt 0xF 2).raise 0x11 (0x20 + leg)

/-! ## Delay-locked loops (R136 to R138) -/

def dllLock (g : Nat) (b : Block) : Block :=
  if !b.running || !b.on EGA.EGA_CTL_DLL_EN then b
  else if g = 0 then (b.put EGA.EGA_STAT_DLL_LOCK0 1).put EGA.EGA_STAT_COARSE0 0
  else (b.put EGA.EGA_STAT_DLL_LOCK1 1).put EGA.EGA_STAT_COARSE1 0

def dllUnlock (g : Nat) (b : Block) : Block :=
  if !b.running then b
  else
    let b := if g = 0 then (b.put EGA.EGA_STAT_DLL_LOCK0 0).put EGA.EGA_STAT_COARSE0 1
      else (b.put EGA.EGA_STAT_DLL_LOCK1 0).put EGA.EGA_STAT_COARSE1 1
    (b.evt 0xF 0).raise 0x10 0xF

/-- One fine code up or down; the pair's next value where the fine field would overflow is open (DESIGN CHOICE, log entry 8). -/
def dllStep (coarse fine : Nat) (up : Bool) : Nat × Nat :=
  if up && fine < 63 then (coarse, fine + 1)
  else if !up && 0 < fine then (coarse, fine - 1)
  else
    let n := Config.dllCarry (coarse + 64 * fine) up
    (n % 64, n / 64 % 64)

def dllCodeUpdate (g : Nat) (up : Bool) (b : Block) : Block :=
  if !b.running || !b.on EGA.EGA_CTL_DLL_EN then b
  else if g = 0 then
    if !b.on EGA.EGA_STAT_DLL_LOCK0 then b
    else
      let (c, f) := dllStep (b.get EGA.DLL_CODE0_COARSE) (b.get EGA.DLL_CODE0_FINE) up
      (b.put EGA.DLL_CODE0_COARSE c).put EGA.DLL_CODE0_FINE f
  else
    if !b.on EGA.EGA_STAT_DLL_LOCK1 then b
    else
      let (c, f) := dllStep (b.get EGA.DLL_CODE1_COARSE) (b.get EGA.DLL_CODE1_FINE) up
      (b.put EGA.DLL_CODE1_COARSE c).put EGA.DLL_CODE1_FINE f

/-- A residual trim is measured; it reaches the line at the next local meridian (R136, R137). -/
def legTrimMeasure (leg : Nat) (trim : Int) (b : Block) : Block :=
  if !b.running || !decide (leg < b.numLegs) then b
  else
    let v := ux 6 (clampI (-31) 31 trim)
    if b.tbRuns (b.legTb leg) then b.setLeg leg { (b.leg leg) with trimNext := some v }
    else b.put LEG.LEG_TRIM_TRIM v leg

/-! ## Over-current and blanking (R149, R150, R185, R186) -/

/-- A chop counted in its half-period; EGA_CHOP_PERSIST with the last of CHOP_LIMIT in a row, from which the count begins anew (R150, DEDUCED,
log entry 108). -/
def Block.chopCount (b : Block) (leg : Nat) : Block :=
  let l := b.leg leg
  let b := (b.bump LEG.LEG_CHOP_CNT_COUNT LEG.LEG_CHOP_CNT_OVF leg).evt (0x20 + leg) 0
  if l.chopHalf then b
  else
    let run := l.chopRun + 1
    let lim := b.get EGA.EGA_CTL_CHOP_LIMIT
    if lim != 0 && lim ≤ run then
      ((b.setLeg leg { l with chopHalf := true, chopRun := 0 }).evt (0x20 + leg) 1).raise 0x12 (0x20 + leg)
    else b.setLeg leg { l with chopHalf := true, chopRun := run }

/-- A chop cuts the conducting side at `pos` (R149, R150). -/
def Block.chopNow (b : Block) (leg : Nat) (positive : Bool) (pos : Nat) : Block :=
  let l := b.leg leg
  if !b.on LEG.LEG_CFG_CHOP_EN leg || l.chop.isSome || !(if positive then l.hi else l.lo) then b
  else
    let out := b.padOut leg
    let b := ((b.setLeg leg { l with chop := some positive }).put LEG.LEG_STAT_CHOPPING 1 leg).chopCount leg
    let l := b.leg leg
    let (h, lo) := b.stage3 leg (l.cmdHi, l.cmdLo)
    (b.setLeg leg ((l.drive h lo pos).pushEdge positive (b.binOf leg l.iActive) pos true (b.senses leg))).padMoved leg out

/-- A counted trip of a leg's over-current comparator. -/
def Block.tripNow (b : Block) (leg : Nat) (positive : Bool) (pos : Nat) : Block :=
  let k := leg % 2
  ((b.bump SC.OC_TRIP_CNT_COUNT SC.OC_TRIP_CNT_OVF (leg / 2) k).evt (0xB0 + leg / 2) k).chopNow leg positive pos

/-- A counted trip of the hard comparator (R186). -/
def Block.hardNow (b : Block) (leg : Nat) : Block :=
  let k := leg % 2
  ((b.bump SC.HARD_CNT_COUNT SC.HARD_CNT_OVF (leg / 2) k).evt (0xB0 + leg / 2) (2 + k)).raise 0x16 (0x20 + leg)

/-- A current beyond the positive, or the negative, limit of the leg; a current equal to a limit trips (R185). -/
def Block.beyond (b : Block) (leg : Nat) (positive : Bool) (i : Int) : Bool :=
  if positive then decide ((b.ns SC.OC_LIM_POS leg : Int) ≤ i) else decide (i ≤ -(b.ns SC.OC_LIM_NEG leg : Int))

/-- A current beyond the hard limit, where that is in use (R186). -/
def Block.beyondHard (b : Block) (leg : Nat) (i : Int) : Bool :=
  b.ns SC.OC_HARD_HARD_EN leg == 1 && decide (b.ns SC.OC_HARD_HARD leg ≤ i.natAbs)

/-- The current of a leg reaches a limit at `pos` (R149, R185). -/
def overcurrentTrip (leg : Nat) (i : Int) (pos : Nat) (b : Block) : Block :=
  let l := b.leg leg
  let positive := b.beyond leg true i
  let negative := b.beyond leg false i
  if !b.senses leg || !(positive || negative) then b
  else if l.blanking then b.setLeg leg { l with tripPos := l.tripPos || positive, tripNeg := l.tripNeg || negative }
  else
    let b := if positive then b.tripNow leg true pos else b
    if negative then b.tripNow leg false pos else b

/-- Blanking ends at `pos` with the current `i`: a trip that fell in it counts where the current is still beyond the limit (R185, R186). -/
def blankingEnd (leg : Nat) (i : Int) (pos : Nat) (b : Block) : Block :=
  let l := b.leg leg
  if !b.running || !decide (leg < b.numLegs) || !l.blanking then b
  else
    let b := b.setLeg leg { l with blanking := false, tripPos := false, tripNeg := false, tripHard := false }
    if !b.senses leg then b
    else
      let b := if l.tripHard && b.beyondHard leg i then b.hardNow leg else b
      let b := if l.tripPos && b.beyond leg true i then b.tripNow leg true pos else b
      if l.tripNeg && b.beyond leg false i then b.tripNow leg false pos else b

/-- The page a source names for a leg: its axis's page while it has one, else its own. -/
def Block.axisPage (b : Block) (leg : Nat) : Nat :=
  if b.legOwner leg = 0 then 0x20 + leg else 0x60 + b.get LEG.LEG_STAT_AXIS leg

/-- The current of a leg reaches the hard limit (R186). -/
def hardOvercurrentTrip (leg : Nat) (i : Int) (b : Block) : Block :=
  let l := b.leg leg
  if !b.senses leg || !b.beyondHard leg i then b
  else if l.blanking then b.setLeg leg { l with tripHard := true }
  else b.hardNow leg

/-! ## Driver-fault input (R152) -/

def fltNChange (leg : Nat) (level : Bool) (b : Block) : Block :=
  if leg < b.numLegs then b.setLeg leg { (b.leg leg) with fltLow := !level } else b

/-- A write of `LEG_FLT`. -/
def Block.legFltWrite (b : Block) (leg : Nat) (w : Word) : Block × Ack :=
  if LEG.LEG_FLT_RELEASE.of w = 1 then
    if (b.leg leg).fltLow then (b, .refused 14)
    else ((((b.store LEG.LEG_FLT w leg).put LEG.LEG_FLT_HELD 0 leg).padRefresh leg).debugLower, .ok)
  else (b.store LEG.LEG_FLT w leg, .ok)

/-! ## Node sense (R163 to R166, R171, R172) -/

/-- One parallax sample (R171); none while a chop holds (R172). -/
def Block.learn (b : Block) (leg : Nat) (e : EdgeSt) (m : Nat) : Block :=
  let dir := if e.falling then 1 else 0
  let c := leg / 2
  let k := leg % 2
  let x := pxIndex leg dir e.bin
  let last (b : Block) (acc rej : Bool) : Block :=
    let b := (b.put SC.PX_LAST_DELAY m c k).put SC.PX_LAST_DIR dir c k
    ((b.put SC.PX_LAST_BIN e.bin c k).flag SC.PX_LAST_ACCEPT acc c k).flag SC.PX_LAST_REJECT rej c k
  let mode := b.ns SC.SERVO_CFG_MODE leg
  let vb := b.get SNS.VB_RES_VALUE 0 (b.ns SC.NS_CFG_BUS leg)
  if e.chop || (b.leg leg).chop.isSome || (b.pad leg).2 != 0 || vb < b.get SNS.SNS_CTL_SERVO_VMIN || mode = 0 || mode = 3 then last b false false
  else
    let n := b.get SC.PXT_COUNT c x
    let vn := max 1 (b.ns SC.SERVO_CFG_VALID_N leg)
    let corr := sx 20 (b.get SC.PXT_CORR c x)
    let d : Int := ((m : Int) - b.ns SC.SERVO_REF_PX_REF leg) * 16
    let err := d - corr
    if n ≠ 0 ∧ vn ≤ n ∧ (b.ns SC.SERVO_OUT_OUTLIER leg : Int) * 16 < err.natAbs then
      last (b.bump SC.REJECT_CNT_COUNT SC.REJECT_CNT_OVF c k) false true
    else
      let slew : Int := (max 1 (b.ns SC.SERVO_CFG_SLEW leg) : Nat) * 16
      let new := if n = 0 then d else corr + clampI (-slew) slew (divRne err (2 ^ b.ns SC.SERVO_CFG_K leg))
      let n' := if n = 0 then 1 else min 255 (n + 1)
      let raw := if satS 20 new = new then ux 20 new else Config.corrOut new
      let b := (b.put SC.PXT_CORR raw c x).put SC.PXT_COUNT n' c x
      last (if vn ≤ n' then b.put SC.PXT_VALID 1 c x else b) true false

/-- The number of a comparator in `NODE_STAT.CMP`. -/
def cmpNum : NodeCmp → Nat
  | .lo => 0
  | .mid => 1
  | .hi => 2

/-- The crossing as an open edge takes it (R164). -/
def EdgeSt.cross (e : EdgeSt) (cmp : NodeCmp) (up : Bool) (t out : Nat) : EdgeSt :=
  let start := if e.falling then cmp == .hi && !up else cmp == .lo && up
  let mid := cmp == .mid && up != e.falling
  let settle := if e.falling then cmp == .lo && !up else cmp == .hi && up
  let e := if start && e.left.isNone then { e with left := some t, leftOut := some out } else e
  let e := if mid && e.mid.isNone then { e with mid := some t } else e
  if settle && e.settle.isNone then { e with settle := some t, settleOut := some out } else e

/-- A crossing reaches one edge whose window is open: its times, and what the leg keeps of them (R164, R171, R185). -/
def Block.edgeCross (b : Block) (leg n : Nat) (cmp : NodeCmp) (up : Bool) (t : Nat) : Block :=
  let l := b.leg leg
  match l.edges[n]? with
  | none => b
  | some e =>
    let te := t + e.lag
    if !e.live || 32 * (b.ns SC.DT_MAX_ADAPT_MAX leg + 500) < te then b
    else
      let e' := e.cross cmp up te (te + Config.cmpDelay leg (cmpNum cmp) up)
      let l' := { l with edges := l.edges.set n e' }
      let settled := e.settle.isNone && e'.settle.isSome
      let l' := if settled then (if e.falling then { l' with settleFall := te } else { l' with settleRise := te }) else l'
      let b := b.setLeg leg l'
      let b := if settled then b.blank leg else b
      if e.mid.isNone && e'.mid.isSome then b.learn leg e te else b

/-- A node comparator of a leg crosses, `t` fine steps after the leg's newest edge; the oldest open edge takes it first. -/
def Block.nodeCross (b : Block) (leg : Nat) (cmp : NodeCmp) (up : Bool) (t : Nat) : Block :=
  if !b.senses leg then b
  else
    let b := b.setMap SC.NODE_STAT_CMP (cmpNum cmp) up (leg / 2) (leg % 2)
    let b := b.setLeg leg { b.leg leg with nodeTs := b.now, nodeSeen := true }
    if b.ns SC.NS_CFG_NS_EN leg = 0 then b
    else b.each (List.range (b.leg leg).edges.length).reverse (fun b n => b.edgeCross leg n cmp up t)

/-- The unit of `Thresholds` in a bus LSB. -/
def thresholdUnit : Int := 125 * 2 ^ 25

/-- The last moment from `settle` on and inside the window at which the node, whose path is given as times from the edge and voltages in bus
LSB, comes back into the band around a threshold (R165). -/
def lastReentry (th band : Int) (settle window : Nat) (path : List (Nat × Int)) : Option Nat :=
  ((path.filter (fun x => settle ≤ x.1 && x.1 ≤ window)).foldl (fun (acc : Bool × Option Nat) x =>
    let inside := decide ((x.2 * thresholdUnit - th).natAbs ≤ band.natAbs)
    (inside, if inside && !acc.1 then some x.1 else acc.2)) (true, none)).2

/-- The ringing of an edge, in ECLK rounded up (R165). -/
def Block.ringing (b : Block) (leg : Nat) (e : EdgeSt) (path : List (Nat × Int)) : Option Nat :=
  let th := (b.leg leg).th
  e.settle.map (fun s =>
    let last := lastReentry (if e.falling then th.lo else th.hi) th.band s (32 * (b.ns SC.DT_MAX_ADAPT_MAX leg + 500)) path
    (last.getD s - s + 31) / 32)

/-- The window of the oldest open edge ends; `path` is what the node did after the edge (R164, R165). A window of an edge that the front end did not
time closes and counts nothing. -/
def edgeSenseWindowEnd (leg : Nat) (path : List (Nat × Int)) (b : Block) : Block :=
  let l := b.leg leg
  match l.edges.getLast? with
  | none => b
  | some e =>
    if !b.senses leg || !e.live then b.setLeg leg { l with edges := l.edges.dropLast }
    else
      let rings := ((b.ringing leg e path).getD 0 :: l.rings).take 16
      let b := b.setLeg leg { l with edges := l.edges.dropLast, rings := rings }
      let b := b.put SC.RING_RING_MAX (min 4095 (rings.foldl max 0)) (leg / 2) (leg % 2)
      if e.mid.isNone then b.bump SC.NOCROSS_CNT_COUNT SC.NOCROSS_CNT_OVF (leg / 2) (leg % 2) else b

/-- The node left its start band and did not settle (R166). -/
def nodeStuckTimeout (leg : Nat) (b : Block) : Block :=
  let l := b.leg leg
  match l.edges with
  | [] => b
  | e :: rest =>
    if !b.senses leg || b.blind leg || e.left.isNone || e.settle.isSome || e.stuck then b
    else
      let k := leg % 2
      ((b.setLeg leg { l with edges := { e with stuck := true } :: rest }).bump SC.STUCK_CNT_COUNT SC.STUCK_CNT_OVF
        (leg / 2) k |>.evt (0xB0 + leg / 2) (4 + k)).raise 0x15 (0x20 + leg)

/-- The thresholds of a leg on its bus result (R160, R162, R165; DEDUCED, log entry 109). -/
def Block.formThresholds (b : Block) (leg : Nat) : Block :=
  let v : Int := b.get SNS.VB_RES_VALUE 0 (b.ns SC.NS_CFG_BUS leg)
  let scale : Int := b.ns SC.NS_HYST_SCALE leg
  let off := sx 10 (b.get SNS.NCAL_OFFSET 0 (leg / 8))
  let trim := sx 10 (b.get SNS.NCAL_HYST 0 (leg / 8))
  let th (f : Fld) : Int := (125 * b.ns f leg + 128 * off) * v * scale
  let part (n : Int) : Int := n * 125 * 2 ^ 15 * v
  b.setLeg leg { b.leg leg with th :=
    ⟨th SC.NS_TH_TH_LO, th SC.NS_TH_TH_MID, th SC.NS_TH_TH_HI, part (b.ns SC.NS_HYST_HYST leg + trim), part (b.ns SC.RING_BAND leg)⟩ }

/-! ## Register writes of the leg and converter pages (R127, R133, R146, R157, R161, R166, R168, R173, R185, R189) -/

/-- A write of a leg page register; axes write `LEG_CFG` through `Block.wr`. -/
def Block.legWrite (b : Block) (r : Reg) (leg : Nat) (w : Word) : Block × Ack :=
  if r = LEG.LEG_CFG then
    if b.legOwner leg ≠ 0 then (b, .refused 2)
    else if LEG.LEG_CFG_FORM.of w = 3 ∨ LEG.LEG_CFG_SAFE_PAT.of w = 3 then (b, .refused 12)
    else (b.store r w leg, .ok)
  else if r = LEG.LEG_CMP1 ∨ r = LEG.LEG_CMP2 then
    if b.legOwner leg = 1 then (b, .refused 1)
    else if b.get LEG.LEG_CFG_FORMAT leg = 0 ∧ 0x1000000 < w.toNat then (b, .refused 4)
    else (b.store r w leg, .ok)
  else if r = LEG.LEG_UPD then b.legGo leg w
  else if r = LEG.LEG_DT then
    let f := LEG.LEG_DT_DT_FLOOR.of w
    if f < 384 ∨ 128000 < f then (b, .refused 9) else (b.storeAtMeridian leg r w leg 0, .ok)
  else if r = LEG.LEG_FLT then b.legFltWrite leg w
  else if r = LEG.LEG_CHOP_CNT ∨ r = LEG.LEG_SUPP_CNT ∨ r = LEG.LEG_SUPER_CNT then
    (if slice w 31 1 = 1 then b.wr r 0 leg else b, .ok)
  else (b.store r w leg, .ok)

/-- A write of a converter page register. -/
def Block.scWrite (b : Block) (r : Reg) (c j : Nat) (w : Word) : Block × Ack :=
  let leg := 2 * c + j
  let new := r.merge false (b.rd r c j) w
  if r = SC.NS_CFG then
    if SC.NS_CFG_BUS.of w ≠ b.get SC.NS_CFG_BUS c j ∧ b.legOwner leg ≠ 0 then (b, .refused 1)
    else (b.storeAtMeridian leg r w c j, .ok)
  else if r = SC.NS_TH ∨ r = SC.NS_HYST then
    let th := if r = SC.NS_TH then new else b.rd SC.NS_TH c j
    let h := SC.NS_HYST_HYST.of (b.rd SC.NS_HYST c j)
    if r = SC.NS_TH ∧ ¬ (SC.NS_TH_TH_LO.of th + 2 * h < SC.NS_TH_TH_MID.of th ∧
        SC.NS_TH_TH_MID.of th + 2 * h < SC.NS_TH_TH_HI.of th) then (b, .refused 2)
    else (b.storeAtMeridian leg r w c j, .ok)
  else if r = SC.DT_ADAPT ∨ r = SC.DT_MAX then
    let hard := SC.DT_ADAPT_HARD.of (if r = SC.DT_ADAPT then new else b.rd SC.DT_ADAPT c j)
    let amax := SC.DT_MAX_ADAPT_MAX.of (if r = SC.DT_MAX then new else b.rd SC.DT_MAX c j)
    if amax ≤ hard then (b, .refused 3) else (b.storeAtMeridian leg r w c j, .ok)
  else if r = SC.BLANK then
    if SC.BLANK_MAX.of new < SC.BLANK_MIN.of new then (b, .refused 7) else (b.storeAtMeridian leg r w c j, .ok)
  else if r = SC.SERVO_REF then
    if 32767 < SC.SERVO_REF_PX_REF.of new ∨ 32767 < SC.SERVO_REF_PD_MAX.of new then (b, .refused 6)
    else
      let ch := SC.SERVO_REF_PX_REF.of new ≠ b.get SC.SERVO_REF_PX_REF c j
      let b := b.storeAtMeridian leg r w c j
      (if ch then b.clearAtMeridian leg 6 else b, .ok)
  else if r = SC.BIN_T12 ∨ r = SC.BIN_T3 then
    let t12 := if r = SC.BIN_T12 then new else b.rd SC.BIN_T12 c j
    let t3 := SC.BIN_T3_T3.of (if r = SC.BIN_T3 then new else b.rd SC.BIN_T3 c j)
    if ¬ (SC.BIN_T12_T1.of t12 < SC.BIN_T12_T2.of t12 ∧ SC.BIN_T12_T2.of t12 < t3) then (b, .refused 4)
    else
      let ch := new ≠ b.rd r c j
      let b := b.storeAtMeridian leg r w c j
      (if ch then b.clearAtMeridian leg 6 else b, .ok)
  else if r = SC.SERVO_CTL then (if SC.SERVO_CTL_CLEAR.of w = 1 then b.clearAtMeridian leg 6 else b, .ok)
  else if r = SC.PXT then
    let m := b.ns SC.SERVO_CFG_MODE (2 * c + j / 16)
    if m = 1 ∨ m = 2 then (b, .refused 5) else (b.store r w c j, .ok)
  else if r ∈ legSenseCounters then (if slice w 31 1 = 1 then b.clearAtMeridian leg (legSenseCounters.idxOf r) else b, .ok)
  else if r ∈ legSenseRegs then (b.storeAtMeridian leg r w c j, .ok)
  else (b.store r w c j, .ok)

end Sys2Proof.Machine
end

