-- ==== Sys2Proof/Machine/Placement.lean ====
section
/-!
DEFINITION. The ephemeris: slots, placement of programs on engines, the period re-check and cover plans (R221, R229 to R236,
R244). Times are in fine steps from a meridian of the constellation.
-/

namespace Sys2Proof.Machine

/-- Role and latency in LCLK of a program (R221); roles 0 Current, 1 Observer, 2 Plausibility, 3 Outer. -/
def progRole (id : Nat) : Nat :=
  if id < 0x10 then 0 else if id < 0x18 then 1 else if id = 0x18 then 2 else 3

def progLatency (id : Nat) : Nat :=
  match id with
  | 0x10 => 24
  | 0x11 => 96
  | 0x12 => 112
  | 0x13 => 128
  | 0x18 => 64
  | 0x20 | 0x21 | 0x25 => 32
  | 0x22 | 0x23 => 40
  | 0x24 => 48
  | _ => 50

/-- One engine's start slot in use: engine, slot, divider exponent, phase, constellation. -/
structure Ent where
  eng : Nat
  slot : Nat
  divl : Nat
  phase : Nat
  tb : Nat
deriving DecidableEq, Repr

/-- What placement knows of the constellation and the axis. -/
structure PlaceEnv where
  tb : Nat
  periods : List Nat
  dbl : Bool
  stagger : Nat
  lead : Nat
  /-- Candidate engines that are not fenced, ascending. -/
  engines : List Nat
  /-- The roles that run dual (R238). -/
  dual : Nat
deriving DecidableEq, Repr

/-- The length of a half (R229). -/
def halfLen (period : Nat) (dbl : Bool) : Nat := if dbl then period / 2 else period

/-- Slots per half (R229). -/
def slotsPerHalf (period : Nat) (dbl : Bool) : Nat := (halfLen period dbl - 63) / 1024

/-- The halves of a period: opening instant, length, the lags its tick can have and those of the next tick (R131). -/
def halves (period : Nat) (dbl : Bool) : List (Nat × Nat × List Nat × List Nat) :=
  let any := [0, 63]
  let lm := if period % 64 = 0 then [0] else any
  if dbl then
    let h := period / 2
    let la := if period % 64 = 0 then [(64 - h % 64) % 64] else any
    [(0, h, lm, la), (h, period - h, la, lm)]
  else [(0, period, lm, lm)]

/-- The first commit instant of an axis after instant `t` (R132, R232). -/
def nextCommit (period : Nat) (dbl : Bool) (shift t : Nat) : Nat :=
  let after (b : Nat) : Nat := if t < b then b else b + ((t - b) / period + 1) * period
  let sh := shift % period
  if dbl then min (after sh) (after ((sh + period / 2) % period)) else after sh

/-- The largest d of a slot over both halves, where rule 3 of R232 holds in both. -/
def worstLead (period : Nat) (dbl : Bool) (stagger lead s : Nat) : Option Nat :=
  let shift := 64 * staggerLclk stagger period
  let h := halfLen period dbl
  let ds := ((halves period dbl).map (fun x => x.2.2.1.map (fun lag =>
    nextCommit period dbl shift (x.1 + lag + 1024 * s) - (x.1 + lag + 1024 * s)))).flatten
  if ds.all (fun d => 64 * (54 + lead) ≤ d && d + 64 * 75 ≤ h) then some (ds.foldl max 0) else none

/-- The largest d over every period checked (R233). -/
def PlaceEnv.lead3 (e : PlaceEnv) (s : Nat) : Option Nat :=
  let ds := e.periods.map (fun p => worstLead p e.dbl e.stagger e.lead s)
  if ds.all Option.isSome then some ((ds.map (·.getD 0)).foldl max 0) else none

/-- Rule 4 of R232 for a program of latency `lat` in slot `s`, the axis's current program being in slot `cur`. -/
def rule4 (period : Nat) (dbl : Bool) (cur s lat : Nat) : Bool :=
  let gap := ((halves period dbl).map (fun x => x.2.1 + x.2.2.2.foldl min 63 - x.2.2.1.foldl max 0)).foldl min period
  if cur < s then 1024 * s + 64 * lat ≤ gap + 1024 * cur
  else if s < cur then 1024 * s + 64 * lat ≤ 1024 * cur && 1024 + 1024 * cur ≤ gap + 1024 * s
  else false

/-- Two occupations of one slot of one engine never run in the same half (R231). -/
def phasesApart (d1 p1 d2 p2 : Nat) : Bool := let m := 2 ^ min d1 d2; p1 % m != p2 % m

/-- Rule 2 of R232. -/
def slotFree (ents : List Ent) (eng slot divl phase : Nat) : Bool :=
  ents.all (fun x => x.eng != eng || x.slot != slot || phasesApart x.divl x.phase divl phase)

/-- The candidate engines in order: those bound to the constellation, then the unbound (R233). -/
def PlaceEnv.bound (e : PlaceEnv) (ents : List Ent) : List Nat :=
  e.engines.filter (fun g => ents.any (fun x => x.eng == g && x.tb == e.tb))

def PlaceEnv.unbound (e : PlaceEnv) (ents : List Ent) : List Nat :=
  e.engines.filter (fun g => ents.all (fun x => x.eng != g))

/-- How far a pair of engine and slot gets through the rules of R232 in the order 1, 3, 4, 2, 5: 1 fails rule 1, 2 fails rule 3
or 4, 3 fails rule 2, 4 fails rule 5, 5 fits; with the phase and the partner it would take (R233, R234). -/
def PlaceEnv.attempt (e : PlaceEnv) (ents : List Ent) (prog divl : Nat) (cur : Option Nat) (eng slot : Nat) :
    Nat × Nat × Option Nat :=
  let role := progRole prog
  if e.periods.any (fun p => slotsPerHalf p e.dbl ≤ slot) then (1, 0, none)
  else if role = 0 && (e.lead3 slot).isNone then (2, 0, none)
  else if (role = 1 || role = 2) &&
      !(match cur with
        | some c => e.periods.all (fun p => rule4 p e.dbl c slot (progLatency prog))
        | none => true) then (2, 0, none)
  else
    match (List.range (2 ^ divl)).find? (fun ph => slotFree ents eng slot divl ph) with
    | none => (3, 0, none)
    | some ph =>
      if bit e.dual role then
        match (e.bound ents ++ e.unbound ents).find? (fun g => g != eng && slotFree ents g slot divl ph) with
        | none => (4, ph, none)
        | some g => (5, ph, some g)
      else (5, ph, none)

/-- The slots a search can try. -/
def PlaceEnv.slots (e : PlaceEnv) : Nat := (e.periods.map (fun p => slotsPerHalf p e.dbl)).foldl max 0

/-- The best pair for a program of role Current: smallest worst d, ties to the first engine in candidate order (R233). -/
def PlaceEnv.bestCurrent (e : PlaceEnv) (ents : List Ent) (prog divl : Nat) : Option (Nat × Nat) :=
  let cands := e.bound ents ++ e.unbound ents
  ((List.range e.slots).foldl (fun (best : Option (Nat × Nat × Nat)) s =>
    match e.lead3 s with
    | none => best
    | some d =>
      if (match best with
          | some (bd, _, _) => decide (bd ≤ d)
          | none => false) then best
      else
        match cands.find? (fun g => (e.attempt ents prog divl none g s).1 == 5) with
        | some g => some (d, g, s)
        | none => best) none).map (·.2)

/-- The first slot in the search order of any other program on a group of engines (R233). -/
def PlaceEnv.firstFit (e : PlaceEnv) (ents : List Ent) (prog divl : Nat) (cur : Option Nat) (group : List Nat) :
    Option (Nat × Nat) :=
  let n := e.slots
  let c := cur.getD 0
  (List.range n).findSome? (fun i =>
    let s := (c + 1 + i) % n
    (group.find? (fun g => (e.attempt ents prog divl cur g s).1 == 5)).map (fun g => (g, s)))

/-- One program placed, or none (R233). -/
def PlaceEnv.place1 (e : PlaceEnv) (ents : List Ent) (prog divl : Nat) (cur : Option Nat) : Option Placed :=
  let at' : Option (Nat × Nat) :=
    if progRole prog = 0 then e.bestCurrent ents prog divl
    else
      match e.firstFit ents prog divl cur (e.bound ents) with
      | some x => some x
      | none => e.firstFit ents prog divl cur (e.unbound ents)
  at'.map (fun (g, s) =>
    let (_, ph, partner) := e.attempt ents prog divl cur g s
    ⟨prog, divl, g, s, ph, partner⟩)

/-- The start slots a placed program holds. -/
def Placed.ents (p : Placed) (tb : Nat) : List Ent :=
  ⟨p.eng, p.slot, p.divl, p.phase, tb⟩ ::
    (match p.partner with
     | some g => [⟨g, p.slot, p.divl, p.phase, tb⟩]
     | none => [])

/-- Why a program could not be placed: reason and engine (R234). -/
def PlaceEnv.reason (e : PlaceEnv) (ents : List Ent) (prog divl : Nat) (cur : Option Nat) (lowest : Nat) : Nat × Nat :=
  let cands := e.engines.filter (fun g => (e.bound ents ++ e.unbound ents).contains g)
  match cands with
  | [] => (1, lowest)
  | g0 :: _ =>
    let rank (g : Nat) : Nat := (List.range e.slots).foldl (fun m s => max m (e.attempt ents prog divl cur g s).1) 1
    let (r, g) := cands.foldl (fun (acc : Nat × Nat) g => let k := rank g; if acc.1 < k then (k, g) else acc) (0, g0)
    ((if r = 1 then 4 else if r = 2 then 5 else if r = 3 then 2 else 3), g)

/-- Every program of an axis placed, or the first that fits nowhere with its reason and engine (R233, R234). -/
def PlaceEnv.placeAll (e : PlaceEnv) : List (Nat × Nat) → List Ent → Option Nat → List Placed × Option (Nat × Nat × Nat)
  | [], _, _ => ([], none)
  | (prog, divl) :: rest, ents, cur =>
    match e.place1 ents prog divl cur with
    | none => ([], some (prog, e.reason ents prog divl cur 0))
    | some p =>
      let cur' := if progRole prog = 0 then some p.slot else cur
      let (ps, r) := e.placeAll rest (p.ents e.tb ++ ents) cur'
      (p :: ps, r)

/-! ## Contexts on the block -/

def Block.ctxSt (b : Block) (c : Nat) : Nat := b.get LC.LC_STAT_ST c

/-- A context holds a slot (R246). -/
def Block.ctxPlaced (b : Block) (c : Nat) : Bool := let s := b.ctxSt c; s == 1 || s == 2 || s == 3

/-- The start slots a context holds, its partner's included. -/
def Block.ctxEnts (b : Block) (c : Nat) : List Ent :=
  if !b.ctxPlaced c then []
  else
    let e (g : Nat) : Ent := ⟨g, b.get LC.LC_SLOT_SLOT c, b.get LC.LC_CFG_DIVL c, b.get LC.LC_CFG_PHASE c, b.get LC.LC_SLOT_TB c⟩
    let own := b.get LC.LC_SLOT_ENG c
    if b.on LC.LC_CFG_DUAL c && !b.on LC.LC_STAT_DUAL_LOST c then [e own, e (b.get LC.LC_SLOT_ENG2 c)] else [e own]

def Block.ctxs (b : Block) : List Nat := List.range b.numCtx

/-- Every start slot in use. -/
def Block.ents (b : Block) : List Ent := (b.ctxs.map b.ctxEnts).flatten

/-- The engines that are enabled and not fenced. -/
def Block.goodEngines (b : Block) : List Nat := (List.range b.numEng).filter (fun e => !b.fenced (0x1E0 + e))

/-- The period in force and any sealed or pending period of a constellation (R199). -/
def Block.periodsOf (b : Block) (k : Nat) : List Nat :=
  let t := b.tb k
  [b.period k] ++ t.sealed.toList ++ t.pend.toList

/-- The environment of an admission on constellation `k` with stagger `stg`. -/
def Block.placeEnv (b : Block) (k stg lead : Nat) : PlaceEnv :=
  ⟨k, b.periodsOf k, (b.tb k).dbl, stg, lead, b.goodEngines, b.get LEA.TB_CFG_DUAL 0 k⟩

/-- The engine a constellation's context set binds (R230), written to the engine pages and `LEA_STAT`. -/
def Block.engineRefresh (b : Block) : Block :=
  let ents := b.ents
  b.each (List.range b.numEng) (fun b e =>
    let mine := ents.filter (fun x => x.eng == e)
    let tb := (mine.head?.map Ent.tb).getD 0
    let n := slotsPerHalf (b.period tb) (b.tb tb).dbl
    let load := if n = 0 then 0 else (mine.foldl (fun a x => a + 256 * (256 / 2 ^ x.divl)) 0) / (256 * n)
    let bound := !mine.isEmpty
    let b := (b.flag LE.ENG_STAT_BOUND bound e).put LE.ENG_STAT_TB (if bound then tb else 0) e
    let b := (b.put LE.ENG_STAT_CTXS mine.length e).put LE.ENG_STAT_LOAD (min 255 load) e
    (b.put LE.ENG_NSLOT_N (if bound then n else 0) e).setMap LEA.LEA_STAT_BOUND e bound)

/-- The current program's slot of an axis among `ctxs`, with planned slots `plan` taken first. -/
def Block.curSlot (b : Block) (axis : Nat) (plan : List (Nat × Placed)) : Option Nat :=
  (b.ctxs.find? (fun c => b.ctxPlaced c && b.get LC.LC_CFG_AXIS c == axis && b.get LC.LC_CFG_ROLE c == 0)).map (fun c =>
    match plan.find? (fun x => x.1 == c) with
    | some (_, p) => p.slot
    | none => b.get LC.LC_SLOT_SLOT c)

/-- The contexts of engine `e` that run on no other engine, in ascending order. -/
def Block.aloneOn (b : Block) (e : Nat) : List Nat :=
  b.ctxs.filter (fun c => b.ctxPlaced c && b.get LC.LC_SLOT_ENG c == e && !(b.on LC.LC_CFG_DUAL c && !b.on LC.LC_STAT_DUAL_LOST c))

/-- The cover plan of engine `e`: its contexts in ascending order, placed on the other engines (R244). A dual-run context of `e` is placed
already: it continues on the other engine of its pair, in its slot (R238, R245; DEDUCED, log entry 112). -/
def Block.coverPlan (b : Block) (e : Nat) : List (Nat × Option Placed) :=
  let ents0 := b.ents.filter (fun x => x.eng != e)
  ((b.aloneOn e).foldl (fun (acc : List (Nat × Option Placed) × List Ent) c =>
    let k := b.get LC.LC_SLOT_TB c
    let axis := b.get LC.LC_CFG_AXIS c
    let env := { b.placeEnv k (b.get ⟨AX.AX_CFG3, 0, 16⟩ axis) 0 with
      engines := b.goodEngines.filter (· != e), dual := 0 }
    let cur := b.curSlot axis (acc.1.filterMap (fun x => x.2.map (fun p => (x.1, p))))
    match env.place1 acc.2 (b.get LC.LC_CFG_PROG c) (b.get LC.LC_CFG_DIVL c) cur with
    | some p => (acc.1 ++ [(c, some p)], p.ents k ++ acc.2)
    | none => (acc.1 ++ [(c, none)], acc.2)) ([], ents0)).1

/-- The first context of a constellation that a new period breaks: reason, engine, context and slot (R235). -/
def Block.periodRefusal (b : Block) (k period : Nat) : Option (Nat × Nat × Nat × Nat) :=
  (b.ctxs.filter (fun c => b.ctxPlaced c && b.get LC.LC_SLOT_TB c == k)).findSome? (fun c =>
    let s := b.get LC.LC_SLOT_SLOT c
    let axis := b.get LC.LC_CFG_AXIS c
    let stg := b.get ⟨AX.AX_CFG3, 0, 16⟩ axis
    let dbl := (b.tb k).dbl
    let prog := b.get LC.LC_CFG_PROG c
    let role := progRole prog
    let bad (r : Nat) : Option (Nat × Nat × Nat × Nat) := some (r, b.get LC.LC_SLOT_ENG c, c, s)
    if slotsPerHalf period dbl ≤ s then bad 4
    else if role = 0 && (worstLead period dbl stg 0 s).isNone then bad 5
    else if (role = 1 || role = 2) &&
        !(match b.curSlot axis [] with
          | some cs => rule4 period dbl cs s (progLatency prog)
          | none => true) then bad 5
    else none)

end Sys2Proof.Machine
end

