-- ==== Sys2Proof/Machine/Drive.lean ====
section
/-!
DEFINITION. Axes: structure, set faults and re-forming, drive states, masks and the axis commands with their timers (R204 to
R208, R257 to R282, R286).
-/

namespace Sys2Proof.Machine

/-! ## Structure of an axis -/

def Block.axState (b : Block) (a : Nat) : Nat := b.get AX.AX_STATE_STATE a
def Block.drv (b : Block) (a : Nat) : Nat := b.get AX.AX_DRV_STATE a
def Block.axTb (b : Block) (a : Nat) : Nat := b.get ⟨AX.AX_CFG, 0, 3⟩ a
def Block.axComm (b : Block) (a : Nat) : Nat := b.get ⟨AX.AX_CFG, 4, 3⟩ a
def Block.axBus (b : Block) (a : Nat) : Nat := b.get ⟨AX.AX_CFG, 12, 3⟩ a
def Block.axFb (b : Block) (a : Nat) : Nat := b.get ⟨AX.AX_CFG, 16, 5⟩ a
def Block.axFbEn (b : Block) (a : Nat) : Bool := b.on ⟨AX.AX_CFG, 21, 1⟩ a

/-- The legs of an axis, ascending (R194). -/
def Block.axLegs (b : Block) (a : Nat) : List Nat :=
  bitsOf (b.rd AX.AX_LEGS_LO a).toNat 32 ++ (bitsOf (b.rd AX.AX_LEGS_HI a).toNat 32).map (· + 32)

/-- Every leg of the axis chops (R271). -/
def Block.axChop (b : Block) (a : Nat) : Bool := (b.axLegs a).all (fun leg => b.on LEG.LEG_CFG_CHOP_EN leg)

/-- The set of a leg at place `i` (R194). -/
def Block.setOf (b : Block) (a leg : Nat) : Nat := (b.axLegs a).idxOf leg / 3

/-- The legs of set `j`. -/
def Block.setLegs (b : Block) (a j : Nat) : List Nat := ((b.axLegs a).drop (3 * j)).take 3

/-- The legs of the sets that have not failed. -/
def Block.liveLegs (b : Block) (a : Nat) : List Nat :=
  (b.axLegs a).filter (fun leg => b.mapBit AX.AX_STATE_SETS_LIVE (b.setOf a leg) a)

/-- The contexts of an axis. -/
def Block.axCtxs (b : Block) (a : Nat) : List Nat :=
  b.ctxs.filter (fun c => b.ctxSt c != 0 && b.get LC.LC_CFG_AXIS c == a)

/-- The context of an axis that runs a program among `ids`. -/
def Block.ctxOf (b : Block) (a : Nat) (ids : List Nat) : Option Nat :=
  (b.axCtxs a).find? (fun c => ids.contains (b.get LC.LC_CFG_PROG c))

/-- The current context and the speed context of an axis. -/
def Block.curCtx (b : Block) (a : Nat) : Option Nat := b.ctxOf a [1, 2, 3, 4, 5, 6]
def Block.spdCtx (b : Block) (a : Nat) : Option Nat := b.ctxOf a [0x20]

/-- Axis slots with an axis that has a drive state: LIVE, REFORMING, FAILED or DESTROYING. -/
def Block.liveAxes (b : Block) : List Nat := (List.range b.numAxes).filter (fun a => 2 ≤ b.axState a)

/-- The axis a leg belongs to. -/
def Block.axisOf (b : Block) (leg : Nat) : Option Nat :=
  (List.range b.numAxes).find? (fun a => b.axState a != 0 && (b.axLegs a).contains leg)

/-! ## Configuration registers (R291) -/

/-- The registers of the axis page whose write takes effect at the next run of the axis's current program. -/
def axCfgRegs : List Reg :=
  [AX.AX_START, AX.AX_TIME, AX.AX_TIME2, AX.AX_UCG, AX.AX_STILL, AX.AX_STALL, AX.AX_STALL_T, AX.AX_I2T, AX.AX_I2T_MAX, AX.AX_DC]

/-- A configuration field in effect. -/
def Block.axGet (b : Block) (f : Fld) (a : Nat) : Nat := b.effGet f a 0

/-- A stored write of a configuration register; on an axis without a current program it takes effect at once. -/
def Block.storeAtRun (b : Block) (a : Nat) (r : Reg) (w : Word) : Block :=
  let old := b.eff r a 0
  let b' := b.store r w a
  if (b.curCtx a).isSome then { b' with deferred := Tab.set none b'.deferred (r.addr a 0) (some old) } else b'

/-- The waiting writes of an axis take effect. -/
def Block.axUndefer (b : Block) (a : Nat) : Block :=
  { b with deferred := axCfgRegs.foldl (fun t r => Tab.set none t (r.addr a 0) none) b.deferred }

/-! ## Drive state, mask (R257, R286) -/

/-- The drive state changes (R286). -/
def Block.setDrv (b : Block) (a st : Nat) : Block :=
  let old := b.drv a
  let b := (b.put AX.AX_DRV_PREV old a).put AX.AX_DRV_STATE st a
  ((b.stamp AX.AX_DRV_TS_LO AX.AX_DRV_TS_HI a).evt (0x60 + a) 5)

/-- The mask of an axis commanded; it changes, and MASKED with it, at the next commit instant of its live legs (R257). -/
def Block.mask (b : Block) (a : Nat) (v : Bool) : Block :=
  match b.liveLegs a with
  | [] => b.flag AX.AX_DRV_MASKED v a
  | legs => b.each legs (fun b leg => b.setLeg leg { (b.leg leg) with maskNext := some v })

/-- Ramps of the current and outer contexts restart (R239, R267). -/
def Block.restartRamps (b : Block) (a : Nat) (restart : Block → Nat → Block) : Block := b.each (b.axCtxs a) restart

/-- Into IDLE, masked. -/
def Block.toIdle (b : Block) (a : Nat) : Block :=
  let s := b.ax a
  ((b.setAx a { s with seeded := false, dcHold := false, stalling := false, ascFromCatch := false }).setDrv a 0).mask a true

/-- Into ASC, unmasked (R277). -/
def Block.toAsc (b : Block) (a : Nat) (auto fromCatch : Bool) : Block :=
  let s := b.ax a
  (((b.setAx a { s with ascFromCatch := fromCatch, dcHold := false }).setDrv a 6).flag AX.AX_DRV_ASC_AUTO auto a).mask a false

/-- Into HELD with its cause, masked (R260). -/
def Block.toHeld (b : Block) (a src : Nat) : Block :=
  let b := (b.setDrv a 9).put AX.AX_DRV_HELD_SRC src a
  ((b.setAx a { (b.ax a) with seeded := false, dcHold := false, stalling := false }).mask a true).evt 0xE 3

/-- Ranks 2 and 3 on the live legs of an axis: HELD_SRC, 0 none (R260). -/
def Block.heldSrc (b : Block) (a : Nat) : Nat :=
  if b.axState a = 4 then 3
  else
    let srcs := (b.liveLegs a).filterMap (fun leg => (b.override leg).map Prod.snd)
    if srcs.contains 1 then 1 else if srcs.contains 2 then 2 else 0

/-- Every axis after overrides changed: HELD while a live leg is under rank 2 or 3, IDLE after the last is released (R260). -/
def Block.axesHeld (b : Block) : Block :=
  b.each b.liveAxes (fun b a =>
    let src := b.heldSrc a
    if src ≠ 0 then (if b.drv a = 9 then b.put AX.AX_DRV_HELD_SRC src a else b.toHeld a src)
    else if b.drv a = 9 then (b.put AX.AX_DRV_HELD_SRC 0 a).setDrv a 0
    else b)

/-- Overrides may have changed: pads, then axes. -/
def Block.overridesChanged (b : Block) : Block := b.padsRefresh.axesHeld

/-! ## Set faults (R204, R205, R208) -/

/-- The failset pattern of a cause (R204, R205). -/
def failPattern (pat cause : Nat) : Nat := if pat ≠ 0 then pat - 1 else if cause = 1 then 0 else 1

/-- The cause field of set `j` in `AX_FAIL`. -/
def failField (j : Nat) : Fld := ⟨AX.AX_FAIL, 4 * j, 4⟩

/-- A failset pattern on the legs of a set. -/
def Block.failSetLegs (b : Block) (a j : Nat) (pat : Nat → Nat) : Block :=
  b.each (b.setLegs a j) (fun b leg => b.setLeg leg { (b.leg leg) with failPat := some (pat leg) })

/-- A set fault recorded in `AX_FAIL`. -/
def Block.recordFail (b : Block) (a leg : Nat) (sets : List Nat) (cause : Nat) : Block :=
  let b := if b.on AX.AX_FAIL_VALID a then b
    else ((b.put AX.AX_FAIL_LEG leg a).put AX.AX_FAIL_VALID 1 a).stamp AX.AX_FAIL_TS_LO AX.AX_FAIL_TS_HI a
  (b.each sets (fun b j => if b.get (failField j) a = 0 then b.put (failField j) cause a else b)).evt (0x60 + a) 3

/-- The mailbox command that waits on an axis is done after its meridian or fault (R198). -/
def Block.mbxPassed (b : Block) (a : Nat) : Block :=
  b.each [0, 1] (fun b m =>
    let s := b.mbx m
    if s.stage = .waiting ∧ s.axis = a then b.setMbx m { s with stage := .passed } else b)

/-- What a recorded set fault does to a LIVE, REFORMING or DESTROYING axis (R205, R208). -/
def Block.applyFault (b : Block) (a : Nat) (legs : List Nat) (cause : Nat) : Block :=
  let st := b.axState a
  let sets := (legs.map (b.setOf a)).eraseDups
  let pat := b.get AX.AX_FAILSET_PAT a
  let named := sets.filter (fun j => b.mapBit AX.AX_STATE_SETS_LIVE j a)
  let b := b.each named (fun b j => b.failSetLegs a j (fun _ => failPattern pat cause))
  let b := b.each named (fun b j =>
    (b.setMap AX.AX_STATE_SETS_LIVE j false a).setMap AX.AX_STATE_SETS_FAILED j true a)
  let b := b.put AX.AX_STATE_LIVE_LEGS (b.liveLegs a).length a
  if st = 5 ∨ named = [] then b.padsRefresh
  else if [1, 2, 4].contains (b.axComm a) && b.get AX.AX_STATE_SETS_LIVE a != 0 then
    (b.put AX.AX_STATE_STATE 3 a).overridesChanged
  else
    let rest := bitsOf (b.get AX.AX_STATE_SETS_LIVE a) 3
    let b := b.each rest (fun b j =>
      b.failSetLegs a j (fun leg => if pat = 0 then b.get LEG.LEG_CFG_SAFE_PAT leg else pat - 1))
    let b := ((b.put AX.AX_STATE_STATE 4 a).put AX.AX_STATE_LIVE_LEGS 0 a).put AX.AX_STATE_SETS_LIVE 0 a
    let b := ((b.evt (0x60 + a) 2).raise 0x1D (0x60 + a)).overridesChanged
    b.mbxPassed a

/-- A set fault on legs of an axis: recorded, and applied where the axis is not FORMING or FAILED (R205, R208). -/
def Block.setFault (b : Block) (a : Nat) (legs : List Nat) (cause : Nat) : Block :=
  let st := b.axState a
  match legs with
  | [] => b
  | l0 :: _ =>
    if st = 0 then b
    else
      let b := b.recordFail a l0 ((legs.map (b.setOf a)).eraseDups) cause
      if st = 1 then b.setAx a { (b.ax a) with faults := (b.ax a).faults ++ [(legs, cause)] }
      else if st = 4 then b
      else b.applyFault a legs cause

/-- Set faults for a list of legs, axis by axis. -/
def Block.legsFault (b : Block) (legs : List Nat) (cause : Nat) : Block :=
  b.each (List.range b.numAxes) (fun b a => b.setFault a ((b.axLegs a).filter legs.contains) cause)

/-- LEG_DRIVER_FAULT: the leg is held OFF and the source raised; FCR's AXIS_SAFE reaction brings the set fault (R152, R204). -/
def legDriverFault (leg : Nat) (b : Block) : Block :=
  if !b.running || !decide (leg < b.numLegs) || !b.on LEG.LEG_FLT_EN leg || !(b.leg leg).fltLow || b.on LEG.LEG_FLT_HELD leg then b
  else
    (((b.put LEG.LEG_FLT_HELD 1 leg).evt (0x20 + leg) 5).padRefresh leg).raise 0x13 (0x20 + leg)

/-! ## Axis handles (R193) -/

/-- The check of an axis handle: none, or BAD_HANDLE 19 or STALE_HANDLE 18. -/
def Block.handleCheck (b : Block) (h : Nat) : Option Nat :=
  let slot := h % 32
  if h / 32 % 32 ≠ 0 ∨ b.numAxes ≤ slot then some 19
  else if b.axState slot = 0 ∨ h / 1024 % 64 ≠ b.get AX.AX_HANDLE_HANDLE slot / 1024 then some 18
  else none

/-! ## Axis commands (R258, R259, R286) -/

/-- The drive state table's answer to OP: 0 accepted, or its refusal (R278, R280, R286). -/
def Block.drvCheck (b : Block) (a op : Nat) (force : Bool) : Nat :=
  let st := b.drv a
  let ucg := b.on AX.AX_DRV_UCG a
  let coast : Nat := if ucg && !force then 31 else 0
  let dc : Nat :=
    if b.on AX.AX_DRV_W_VALID a && b.axGet AX.AX_STILL_W_STILL a < (sx 16 (b.get AX.AX_EST_W a)).natAbs then 32 else 0
  match st with
  | 9 => 33
  | 0 => if op = 3 then 0 else if op = 5 then dc else 0
  | 1 | 2 | 4 => if op = 1 ∨ op = 5 then 30 else if op = 3 then coast else 0
  | 3 | 8 => if op = 3 then coast else if op = 5 then dc else 0
  | 5 => if op = 3 then (if force then 0 else 31) else if op = 4 then 0 else 30
  | 6 => if op = 1 then 30 else if op = 3 then coast else if op = 5 then dc else 0
  | 7 => if op = 3 then coast else if op = 5 then dc else 0
  | _ => 0

/-- Every check of an axis command in the order of R258. -/
def Block.axCmdCheck (b : Block) (a : Nat) (w : Word) : Nat :=
  let h := AX.AX_CMD_HANDLE.of w
  let op := AX.AX_CMD_OP.of w
  let force := AX.AX_CMD_FORCE.of w == 1
  let comm := b.axComm a
  match b.handleCheck h with
  | some c => if h % 32 ≠ a ∧ c = 18 then 19 else c
  | none =>
    if h % 32 ≠ a then 19
    else if op = 0 ∨ 5 < op then 3
    else if b.axState a = 1 ∨ b.axState a = 5 then 29
    else if comm = 0 ∧ op ≠ 1 ∧ op ≠ 3 then 10
    else if (comm = 3 ∨ comm = 5) ∧ op = 5 then 10
    else if b.on AX.AX_DRV_CMD_PEND a then 38
    else if b.mode = 1 ∧ (op = 1 ∨ op = 4 ∨ op = 5) ∧ !b.mapBit CFU.COMM_EN_SLOT a then 34
    else if op = 1 ∧ (comm = 1 ∨ comm = 2) ∧ b.get AX.AX_UCG_KE a = 0 then 35
    else b.drvCheck a op force

/-- A write of `AX_CMD`. The outcome stands in `AX_CMD_RES`; the register write itself is refused only on an EMPTY slot (R215,
R258). -/
def Block.axCmd (b : Block) (a : Nat) (w : Word) : Block × Ack :=
  if b.axState a = 0 then (b, .refused 25)
  else if AX.AX_CMD_GO.of w = 0 then (b, .ok)
  else
    let code := b.axCmdCheck a w
    let b := ((b.put AX.AX_CMD_RES_CODE code a).put AX.AX_CMD_RES_OP (AX.AX_CMD_OP.of w) a).wrapInc AX.AX_CMD_RES_SEQ a
    if code ≠ 0 then (b, .ok)
    else
      ((b.put AX.AX_DRV_CMD_PEND 1 a).setAx a
        { (b.ax a) with cmd := some (AX.AX_CMD_OP.of w, AX.AX_CMD_FORCE.of w == 1) }, .ok)

/-- Where START leads from IDLE (R264, R286). -/
def Block.startTarget (b : Block) (a : Nat) : Nat :=
  match b.axComm a with
  | 2 => if b.axGet AX.AX_START_CATCH_EN a = 1 then 1 else 2
  | 1 =>
    let al := b.axGet AX.AX_START_ALIGN a
    if al = 2 ∨ (al = 1 ∧ !b.on AX.AX_DRV_ALIGNED a) then 2 else 3
  | _ => 3

/-- What a START from IDLE does. -/
def Block.startFrom (b : Block) (a : Nat) (restart : Block → Nat → Block) : Block :=
  let t := b.startTarget a
  let s := b.ax a
  if t = 1 then (b.setAx a { s with catching := { start := b.now } }).setDrv a 1
  else
    let b := (b.setAx a { s with convRun := 0, polTests := 0, polarity := false }).setDrv a t
    (if t = 3 then b.restartRamps a restart else b).mask a false

/-- A START from DC takes THETA_DC as the rotor angle, at zero speed; the observer starts from it at its next run (R278). -/
def Block.seedDc (b : Block) (a : Nat) : Block :=
  let th := b.axGet AX.AX_DC_THETA_DC a
  let s := { b.ax a with dcHold := false }
  match b.axComm a with
  | 1 => (b.setAx a { s with theta := th, seed := some th }).put AX.AX_EST_W 0 a
  | 2 => ((b.setAx a { s with theta := th, seed := some th, wB := 0, thB := th, wH := 0, thH := th }).put AX.AX_EST_W 0 a).put AX.AX_DRV_W_VALID 1 a
  | _ => b.setAx a s

/-- What an operation does in the present drive state once no check is against it (R277 to R280, R286). -/
def Block.opAct (b : Block) (a op : Nat) (restart : Block → Nat → Block) : Block :=
  let st := b.drv a
  if b.axComm a = 0 then
    if op = 1 then (if st = 0 ∨ st = 8 then (b.setDrv a 3).mask a false else b)
    else if op = 2 then (if st = 3 then b.setDrv a 8 else b)
    else if st = 0 then b else b.toIdle a
  else if op = 1 then
    if st = 0 then b.startFrom a restart
    else if st = 7 then
      ((b.seedDc a).setDrv a 3).restartRamps a restart
    else if st = 8 then b.setDrv a 3
    else b
  else if op = 2 then
    if st = 3 then b.setDrv a 8
    else if st = 6 then b.put AX.AX_DRV_ASC_AUTO 1 a
    else if st = 0 ∨ st = 8 then b
    else b.toIdle a
  else if op = 3 then (if st = 0 then b else b.toIdle a)
  else if op = 4 then
    if st = 6 then b.put AX.AX_DRV_ASC_AUTO 0 a else b.toAsc a false (st == 1)
  else
    let b := b.setAx a { (b.ax a) with dcHold := false }
    if st = 7 then b else (b.setDrv a 7).mask a false

/-- An accepted command acts (R258, R286). A command whose check now fails overwrites its code. -/
def Block.cmdAct (b : Block) (a : Nat) (restart : Block → Nat → Block) : Block :=
  let s := b.ax a
  match s.cmd with
  | none => b
  | some (op, force) =>
    let b := (b.setAx a { s with cmd := none }).put AX.AX_DRV_CMD_PEND 0 a
    let code := b.drvCheck a op force
    if code ≠ 0 then b.put AX.AX_CMD_RES_CODE code a else b.opAct a op restart

/-- SHL's STOP signal, taken as STOP is and without a refusal, on an EXPLICIT axis too, which takes no STOP command (R258, R286, R395). No run ends
its STOPPING (DEDUCED, log entry 139). -/
def Block.stopSignal (b : Block) (a : Nat) (restart : Block → Nat → Block) : Block :=
  if b.drvCheck a 2 false ≠ 0 then b else b.opAct a 2 restart

/-! ## Timers of the drive states -/

/-- CATCH_T expires with fewer than two steps: STANDSTILL, injection start (R265, R266). -/
def catchTimeout (a : Nat) (b : Block) : Block :=
  let s := b.ax a
  if !b.running || b.drv a != 1 || 2 ≤ s.catching.steps then b
  else
    let dt := (b.now - s.catching.start) / 25000
    let b := ((b.put AX.AX_CATCH_RESULT 1 a).put AX.AX_CATCH_STEPS (min 15 s.catching.steps) a).put AX.AX_CATCH_T_DEC (min 255 dt) a
    let b := (b.put AX.AX_CATCH_W 0 a).evt (0x60 + a) 6
    let b := b.setAx a { s with catching := {}, convRun := 0, polTests := 0, polarity := false }
    (b.setDrv a 2).mask a false

/-- A start fails: cause, IDLE masked, CFU_START_FAIL (R261, R262). -/
def Block.startFail (b : Block) (a cause : Nat) : Block :=
  (((b.put AX.AX_DRV_FAIL_CAUSE cause a).toIdle a).evt (0x60 + a) 9).raise 0x25 (0x60 + a)

def hfiTimeout (a : Nat) (b : Block) : Block :=
  if !b.running || b.drv a != 2 || b.axComm a != 2 || (b.ax a).polarity then b else b.startFail a 1

/-- T_ALIGN expires on a COMM 1 axis (R264). -/
def Block.alignDone (b : Block) (a : Nat) (restart : Block → Nat → Block) : Block :=
  if !b.running || b.drv a != 2 || b.axComm a != 1 then b
  else
    let b := (b.wr AX.AX_ALIGN_POS (b.rd FB.FB_PX (b.axFb a)) a).put AX.AX_DRV_ALIGNED 1 a
    let b := b.setAx a { (b.ax a) with zeroNext := true, seed := none }
    (b.setDrv a 3).restartRamps a restart

/-- T_RELOCK passes without re-lock (R270). -/
def relockTimeout (a : Nat) (b : Block) : Block :=
  if !b.running || b.drv a != 4 then b
  else
    let b := ((b.put AX.AX_DRV_FAIL_CAUSE 3 a).evt (0x60 + a) 9).raise 0x26 (0x60 + a)
    let b := b.setAx a { (b.ax a) with moved := [], lossStopping := false }
    if b.axGet AX.AX_START_RESTART a == 1 then
      ((b.setAx a { (b.ax a) with catching := { start := b.now } }).setDrv a 1).mask a true
    else b.toIdle a

/-- RIDE fails: ASC with ASC_AUTO (R271). -/
def Block.rideFail (b : Block) (a : Nat) : Block :=
  let b := ((b.put AX.AX_DRV_FAIL_CAUSE 4 a).evt (0x60 + a) 9).raise 0x27 (0x60 + a)
  (b.setAx a { (b.ax a) with moved := [], lossStopping := false }).toAsc a true false

def rideTimeout (a : Nat) (b : Block) : Block := if !b.running || b.drv a != 5 then b else b.rideFail a

/-- The stall condition held for STALL_T (R282). -/
def cfuStall (a : Nat) (b : Block) : Block :=
  if !b.running || !(b.drv a == 3 || b.drv a == 8) || !(b.ax a).stalling then b
  else
    let b := (b.put AX.AX_DRV_STALL 1 a).bump AX.AX_STALL_CNT_COUNT AX.AX_STALL_CNT_OVF a
    let b := ((b.evt (0x60 + a) 10).raise 0x28 (0x60 + a)).setAx a { (b.ax a) with stalling := false }
    if b.axGet AX.AX_START_STALL_ACT a = 1 then b.toIdle a else b

/-- T_DC elapses (R278). -/
def dcTimeout (a : Nat) (b : Block) : Block :=
  if !b.running || b.drv a != 7 || (b.ax a).dcHold || b.axGet AX.AX_TIME2_T_DC a == 0 then b else b.toIdle a

/-- The DC hold after STOPPING elapses (R279). -/
def holdTimeout (a : Nat) (b : Block) : Block :=
  if !b.running || b.drv a != 7 || !(b.ax a).dcHold then b else b.toIdle a

/-! ## Register writes of the axis page (R215, R289, R291) -/

def Block.axWrite (b : Block) (r : Reg) (a : Nat) (w : Word) : Block × Ack :=
  let new := r.merge false (b.rd r a) w
  if b.axState a = 0 then (b, .refused 25)
  else if r = AX.AX_CMD then b.axCmd a w
  else if r = AX.AX_TIME then
    let ride := AX.AX_TIME_T_RIDE.of new
    let c := AX.AX_TIME_CATCH_T.of new
    if ride = 0 ∨ 20 < ride ∨ c = 0 ∨ 50 < c ∨ AX.AX_TIME_T_RELOCK.of new = 0 ∨ AX.AX_TIME_T_ALIGN.of new = 0 then (b, .refused 37)
    else (b.storeAtRun a r w, .ok)
  else if r = AX.AX_TIME2 ∧ AX.AX_TIME2_T_HFI.of new = 0 then (b, .refused 37)
  else if r = AX.AX_STALL_T ∧ AX.AX_STALL_T_STALL_T.of new = 0 then (b, .refused 37)
  else if axCfgRegs.contains r then (b.storeAtRun a r w, .ok)
  else if r = AX.AX_LOSS_CNT ∨ r = AX.AX_RIDE_CNT ∨ r = AX.AX_STALL_CNT ∨ r = AX.AX_SP_DROP then
    (if slice w 31 1 = 1 then b.wr r 0 a else b, .ok)
  else (b.store r w a, .ok)

end Sys2Proof.Machine
end

