-- ==== Sys2Proof/Machine/Datapath.lean ====
section
/-!
DEFINITION. The datapath of a loop engine: Q1.15 words, 40-bit accumulators, the limiter and the special units (R216 to R219).
Words and accumulators are integers, a word in units of 2⁻¹⁵, an accumulator in units of 2⁻³¹. The error that R219 allows a special
unit is free: an opaque constant of Config kept inside the bound (DESIGN CHOICE, log entry 93).
-/

namespace Sys2Proof.Machine

/-! ## Accumulators (R217, R218) -/

/-- An accumulator and whether a sum left its range (R217). -/
structure Acc where
  v : Int
  ovf : Bool
deriving DecidableEq, Repr

/-- The largest accumulator value, 256 − 2⁻³¹ (R217). -/
def accMax : Int := 2 ^ 39 - 1

/-- An accumulator that holds `x`. -/
def Acc.of (x : Int) : Acc := ⟨x, false⟩

/-- A sum, saturated at the nearer end of the range (R217). -/
def Acc.add (a : Acc) (x : Int) : Acc :=
  let s := satS 40 (a.v + x)
  ⟨s, a.ovf || s != a.v + x⟩

/-- One MAC: the exact product of two words, shifted left by one, added (R217). -/
def Acc.mac (a : Acc) (x y : Int) : Acc := a.add (2 * x * y)

/-- A MAC whose product is scaled by 2^`sh`, for the gains with SHIFT_P (R243). -/
def Acc.macSh (a : Acc) (sh : Nat) (x y : Int) : Acc := a.add (2 * x * y * 2 ^ sh)

/-- A word widened to an accumulator value. -/
def wide (x : Int) : Int := x * 65536

/-- The write-back of an accumulator value to a word: rounded to 15 fraction bits, ties to even, then saturated (R218). -/
def q15 (v : Int) : Int := satS 16 (divRne v 65536)

/-- The product of two words as a word (R217, R218). -/
def mulQ (x y : Int) : Int := q15 (2 * x * y)

/-- The sum of two words as a word (R218). -/
def addQ (x y : Int) : Int := satS 16 (x + y)

/-- The limiter: the value, and whether it was cut; a lower bound above the upper one gives the upper (R218). -/
def limiter (lo hi v : Int) : Int × Bool :=
  let r := if hi < lo then hi else clampI lo hi v
  (r, r != v)

/-! ## Special units (R219) -/

/-- The integer nearest to `pick` among those within `err` of `x`, all three in units of 2⁻`k`, the result in units of 1. -/
def within (k : Nat) (x err pick : Int) : Int := clampI (-((err - x) / 2 ^ k)) ((x + err) / 2 ^ k) pick

/-- Terms of the sine and cosine series from term `n` on: `t` the term, `xx` the square of the angle, in units of 2⁻⁴⁸. -/
def trigSeries (xx : Int) : Nat → Nat → Int → Int
  | 0, _, _ => 0
  | f + 1, n, t => t + trigSeries xx f (n + 2) (-(t * xx / 2 ^ 48) / ((n + 1) * (n + 2)))

/-- π in units of 2⁻⁴⁸. -/
def pi48 : Int := 884279719003555

/-- Sine and cosine of an angle (0x1_0000 = 360°) in units of 2⁻⁴⁸, exact to far below the error of the unit. -/
def trig48 (theta : Nat) : Int × Int :=
  let x := sx 16 theta * pi48 / 32768
  let xx := x * x / 2 ^ 48
  (trigSeries xx 14 1 x, trigSeries xx 14 0 (2 ^ 48))

/-- CORDIC, rotate: sine and cosine in Q1.15, each at most 2 LSB from the exact value. -/
def cordicRotate (theta : Nat) : Int × Int :=
  let (s, c) := trig48 theta
  let f (x pick : Int) : Int := satS 16 (within 33 x (2 ^ 34) pick)
  (f s (Config.cordicSin (theta % 65536)), f c (Config.cordicCos (theta % 65536)))

/-- The angle of a vector of the first quadrant, by bisection on the sign of its cross product with the unit vector. -/
def atanSearch (x y : Int) : Nat → Nat → Nat
  | 0, a => a
  | k + 1, a =>
    let t := trig48 (a + 2 ^ k)
    atanSearch x y k (if 0 ≤ y * t.2 - x * t.1 then a + 2 ^ k else a)

/-- The exact angle of a vector, rounded down to 16 bits; 0 for the vector zero. -/
def atan16 (x y : Int) : Nat :=
  if x = 0 ∧ y = 0 then 0
  else if 0 < x ∧ 0 ≤ y then atanSearch x y 14 0
  else if x ≤ 0 ∧ 0 < y then 16384 + atanSearch y (-x) 14 0
  else if x < 0 then 32768 + atanSearch (-x) (-y) 14 0
  else 49152 + atanSearch (-y) x 14 0

/-- The integer part of a square root, bit by bit from bit `k` − 1. -/
def rootFrom (n : Nat) : Nat → Nat → Nat
  | 0, r => r
  | k + 1, r => rootFrom n k (if (r + 2 ^ k) * (r + 2 ^ k) ≤ n then r + 2 ^ k else r)

/-- The integer part of the square root of a number below 2¹²⁸. -/
def isqrt (n : Nat) : Nat := rootFrom n 64 0

/-- Square root of an accumulator value, at most 2⁻¹⁵ of it from the exact root. R219 gives it for non-negative values only; a
negative one gives a free value (DESIGN CHOICE, log entry 93). -/
def sqrtUnit (x : Int) : Int :=
  if x < 0 then clampI 0 accMax (Config.sqrtNeg x)
  else
    let e := 2 * x.toNat
    let lo := isqrt (e * (2 ^ 15 - 1) ^ 2 - 1)
    let lo : Int := if e = 0 then 0 else lo + 1
    clampI lo (isqrt (e * (2 ^ 15 + 1) ^ 2)) (Config.sqrtOf x)

/-- Reciprocal of an accumulator value, at most 2⁻¹⁵ of it from the exact quotient, saturated; zero and negative values give the
largest positive one, and the flag says so. -/
def recipUnit (x : Int) : Int × Bool :=
  if x ≤ 0 then (accMax, true)
  else
    let d := x * 2 ^ 15
    (min accMax (clampI (-(-(2 ^ 62 * (2 ^ 15 - 1)) / d)) (2 ^ 62 * (2 ^ 15 + 1) / d) (Config.recipOf x)), false)

/-- CORDIC, vector: the angle, at most 2 LSB from the exact one, and the magnitude as an accumulator value. -/
def cordicVector (x y : Int) : Nat × Int :=
  let a : Int := atan16 x y
  (ux 16 (clampI (a - 1) (a + 2) (a + clampI (-2) 2 (Config.cordicAngle x y))), sqrtUnit (2 * (x * x + y * y)))

/-- A word multiplied by an accumulator value, as an accumulator value, its product rounded half to even. -/
def mulAcc (x v : Int) : Int := divRne (x * v) 32768

/-! ## State words (R224) -/

/-- A 40-bit state value in two words: bits 31 to 0, then bits 39 to 32 sign-extended. -/
def stateWords (v : Int) : List Word := [BitVec.ofInt 32 v, BitVec.ofInt 32 (sx 40 (ux 40 v) / 2 ^ 32)]

/-- The state value that two words hold. -/
def stateValue (lo hi : Word) : Int := sx 40 (lo.toNat + 2 ^ 32 * (hi.toNat % 256))

end Sys2Proof.Machine
end

