-- ==== Sys2Proof/Machine/Tuning.lean ====
section
/-!
DEFINITION. TCU: sessions, generators, interlocks, records and the trigger (R315 to R328).
-/

namespace Sys2Proof.Machine

/-! ## Handles of contexts (R226) -/

/-- The check of a loop handle: none, or STALE_HANDLE 1 or BAD_HANDLE 2. -/
def Block.lcCheck (b : Block) (h : Nat) : Option Nat :=
  let n := h % 256
  if b.numCtx ≤ n then some 2
  else if b.ctxSt n = 0 ∨ h / 256 ≠ b.get LC.LC_HANDLE_HANDLE n / 256 then some 1
  else none

/-! ## Session state -/

def Block.sesState (b : Block) (s : Nat) : Nat := b.get TCU.SES_STAT_STATE 0 s
def Block.sesActive (b : Block) (s : Nat) : Bool := b.sesState s == 1 || b.sesState s == 2
def Block.sesClk (b : Block) (s : Nat) : Nat := b.get TCU.SES_CTX_CLK 0 s % 256
def Block.sesInj (b : Block) (s : Nat) : Nat := b.get TCU.SES_CTX_INJ 0 s % 256

/-- The register of the signal pair `j` and the selector of signal `k`. -/
def Block.selector (b : Block) (s k : Nat) : Nat :=
  let r := match k / 2 with
    | 0 => TCU.SES_SIG01
    | 1 => TCU.SES_SIG23
    | 2 => TCU.SES_SIG45
    | _ => TCU.SES_SIG67
  slice (b.rd r 0 s) (16 * (k % 2)) 16

/-- A session ends aborted (R325). -/
def Block.sesAbort (b : Block) (s cause : Nat) : Block :=
  if b.sesActive s then
    let b := (b.put TCU.SES_STAT_STATE 4 0 s).put TCU.SES_STAT_CAUSE cause 0 s
    let b := (b.put TCU.SES_STAT_INJ_ACTIVE 0 0 s).setSes s 
      { b.ses s with gen := false, env := 0, u := 0, given := none, queue := if cause = 3 then [] else (b.ses s).queue }
    (b.evt 0xD (8 + s)).raise 0x2F 0xD
  else b

/-- Contexts are released (R325). -/
def Block.sesCtxGone (b : Block) (ctxs : List Nat) : Block :=
  b.each (List.range 4) (fun b s =>
    if ctxs.contains (b.sesClk s) || (b.on TCU.SES_CFG_INJ_EN 0 s && ctxs.contains (b.sesInj s)) then b.sesAbort s 2 else b)

/-- A bank is seized (R325, R378). -/
def Block.sesBankLost (b : Block) (bank : Nat) : Block := b.each (b.bankSessions bank) (fun b s => b.sesAbort s 3)

/-! ## Arming (R315, R316, R318, R320, R321, R323) -/

/-- Injection points of a program (R318). -/
def pointOk (prog point : Nat) : Bool :=
  let cur := 1 ≤ prog && prog ≤ 3
  match point with
  | 1 => cur
  | 2 => cur || prog == 5 || prog == 6
  | 3 => cur
  | 4 => cur || prog == 6
  | 5 | 6 => prog == 0x20
  | 7 => prog == 0x21
  | 8 => prog == 0x25
  | _ => false

/-- Capture codes of a program (R316). -/
def codeOk (prog code : Nat) : Bool :=
  let cur := 1 ≤ prog && prog ≤ 3
  let sixDc := prog == 5 || prog == 6
  let outer := prog == 0x20 || prog == 0x21 || prog == 0x25
  let obs := 0x10 ≤ prog && prog ≤ 0x12
  (0x40 ≤ code && code ≤ 0x7F) ||
  (match code with
   | 1 => cur || sixDc || outer || obs
   | 2 => cur || outer || obs
   | 3 | 4 => cur || sixDc || outer || (obs && code == 3)
   | 5 | 6 => cur
   | 7 => cur || sixDc
   | _ => false)

/-- A selector names the generator, or a listed value of a context that is enabled and not FREE. -/
def Block.selOk (b : Block) (sel : Nat) : Bool :=
  let code := sel / 256 % 128
  let c := sel % 256
  code == 0 || (decide (c < b.numCtx) && b.ctxSt c != 0 && codeOk (b.get LC.LC_CFG_PROG c) code)

/-- An increment below half the run rate. -/
def incOk (n : Nat) : Bool := 1 ≤ n && n < 2 ^ 31

/-- The increments that a stepped sine reaches are all in range. -/
def stepsOk : Nat → Nat → Nat → Bool
  | 0, _, _ => true
  | k + 1, inc, ratio => incOk inc && stepsOk k (inc * ratio / 2 ^ 30) ratio

/-- The generator parameters of a session (R320). -/
def Block.genOk (b : Block) (s : Nat) : Bool :=
  let pinc := (b.rd TCU.SES_PINC 0 s).toNat
  match b.get TCU.SES_INJ_GEN 0 s with
  | 0 => true
  | 1 => 7 ≤ b.get TCU.SES_INJ_ORDER 0 s
  | 2 =>
    let n := b.get TCU.SES_STEP_STEPS 0 s
    n != 0 && b.get TCU.SES_DUR_MEAS 0 s != 0 && stepsOk n pinc (b.rd TCU.SES_PINC2 0 s).toNat
  | _ => (b.rd TCU.SES_CHIRP 0 s).toNat != 0 && incOk pinc && incOk (b.rd TCU.SES_PINC2 0 s).toNat

/-- The amplitude of a session, Q1.15 (R320). -/
def Block.sesAmp (b : Block) (s : Nat) : Int := sx 16 (b.get TCU.SES_AMP_AMP 0 s)

/-- The conditions under which injection is delivered into a context (R321). -/
def Block.injOk (b : Block) (ctx : Nat) : Bool :=
  let a := b.get LC.LC_CFG_AXIS ctx
  let d := b.drv a
  ((b.mode == 1 && b.mapBit CFU.COMM_EN_SLOT a) || (b.mode == 2 && b.on TCU.TCU_CTL_RUN_INJ)) &&
    (d == 3 || d == 8 || d == 7) && (b.liveLegs a).all (fun leg => (b.override leg).isNone)

/-- ARM refused with a code, or accepted 0. The handles, the point, the amplitude and the generator are checked whatever INJ_EN is, as R315, R318
and R320 state them without that condition (DEDUCED). The manual gives no order of the checks (DESIGN CHOICE, log entry 17). -/
def Block.armCheck (b : Block) (s : Nat) : Nat :=
  let inj := b.on TCU.SES_CFG_INJ_EN 0 s
  let clk := b.get TCU.SES_CTX_CLK 0 s
  let ih := b.get TCU.SES_CTX_INJ 0 s
  let n := b.get TCU.SES_CFG_NSIG 0 s
  let lo := b.get TCU.SES_BUF_BASE 0 s
  let len := b.get TCU.SES_LEN_LEN 0 s
  let hi := lo + b.sesBytes s
  let banks := (List.range 44).filter (fun k => let (a, z) := bankRange k; decide (a < hi) && decide (lo < z))
  if b.sesActive s then 1
  else if (b.lcCheck clk).isSome ∨ (b.lcCheck ih).isSome then 2
  else if inj ∧ (b.mode = 3 ∨ b.mode = 4 ∨ (b.mode = 2 ∧ !b.on TCU.TCU_CTL_RUN_INJ)) then 10
  else if !pointOk (b.get LC.LC_CFG_PROG (ih % 256)) (b.get TCU.SES_INJ_POINT 0 s) then 3
  else if inj ∧ (List.range 4).any (fun t => t != s && (b.sesActive t || (b.ses t).gen) && b.on TCU.SES_CFG_INJ_EN 0 t && b.sesInj t == ih % 256) then 4
  else if sx 16 (b.get TCU.TCU_LIM_AMP_MAX) < b.sesAmp s then 5
  else if !b.genOk s then 6
  else if n = 0 ∨ 8 < n ∨ !(List.range n).all (fun k => b.selOk (b.selector s k)) then 9
  else if len = 0 ∨ len < b.get TCU.SES_POST_POST 0 s ∨ lo % 4 ≠ 0 ∨
      !((decide (0x200000 ≤ lo) && decide (hi ≤ 0x480000)) || (decide (0x480000 ≤ lo) && decide (hi ≤ 0x490000))) then 8
  else if !banks.all (fun k => b.bankOwner k == 3) then 7
  else 0

/-! ## The trigger (R324) -/

/-- A session is triggered. -/
def Block.sesTrigger (b : Block) (s : Nat) : Block :=
  if b.sesState s ≠ 1 then b
  else
    let t := b.ses s
    let inj := b.on TCU.SES_CFG_INJ_EN 0 s
    let t := { t with mark := true, gen := t.gen || (inj && b.on TCU.SES_CFG_GEN_START 0 s) }
    let post := b.get TCU.SES_POST_POST 0 s
    let b := ((b.setSes s t).put TCU.SES_STAT_STATE 2 0 s).evt 0xD s
    let b := b.put TCU.SES_PRE_PRE_OK (min t.pre (b.get TCU.SES_LEN_LEN 0 s - post)) 0 s
    if post = 0 then
      ((b.put TCU.SES_STAT_STATE 3 0 s).setSes s { t with ending := true }).evt 0xD (4 + s)
    else b

/-- An FCR record of a source is written (R324). -/
def Block.sesFcr (b : Block) (src : Nat) : Block :=
  b.each (List.range 4) (fun b s =>
    let want := b.get TCU.SES_TRIG_SRC 0 s
    if b.get TCU.SES_CFG_TRIG_SRC 0 s == 4 && (want == 0xFF || want == src) then b.sesTrigger s else b)

/-! ## Commands of a session (R325) -/

/-- ARM: a refused one leaves a session that is not active IDLE (R325, R327). -/
def Block.sesArm (b : Block) (s : Nat) : Block × Ack :=
  match b.armCheck s with
  | 0 =>
    let start := b.on TCU.SES_CFG_INJ_EN 0 s && !b.on TCU.SES_CFG_GEN_START 0 s
    let b := (b.put TCU.SES_STAT_STATE 1 0 s).put TCU.SES_STAT_CAUSE 0 0 s
    let b := (b.put TCU.SES_STAT_WRAPPED 0 0 s).put TCU.SES_STAT_STEP 0 0 s
    let b := ((b.put TCU.SES_WPTR_NEXT 0 0 s).put TCU.SES_PRE_PRE_OK 0 0 s).put TCU.SES_TRIG_REC_INDEX 0 0 s
    let b := b.setSes s { gen := start, inc := (b.rd TCU.SES_PINC 0 s).toNat, lfsr := 2 ^ b.get TCU.SES_INJ_ORDER 0 s - 1 }
    (if b.get TCU.SES_CFG_TRIG_SRC 0 s = 0 then b.sesTrigger s else b, .ok)
  | c => (if b.sesActive s then b else b.put TCU.SES_STAT_STATE 0 0 s, .refused c)

def Block.sesHostTrig (b : Block) (s : Nat) : Block :=
  if b.get TCU.SES_CFG_TRIG_SRC 0 s = 3 then b.sesTrigger s else b

def Block.sesStop (b : Block) (s : Nat) : Block :=
  if b.sesActive s then
    let b := (b.put TCU.SES_STAT_STATE 4 0 s).put TCU.SES_STAT_CAUSE 1 0 s
    (b.setSes s { b.ses s with ending := true }).evt 0xD (8 + s)
  else b

def Block.sesClear (b : Block) (s : Nat) : Block × Ack :=
  if b.sesActive s then (b, .refused 1)
  else (b.put TCU.SES_STAT_STATE 0 0 s, .ok)

/-- A write of `SES_CMD`. -/
def Block.sesCmd (b : Block) (s : Nat) (w : Word) : Block × Ack :=
  if TCU.SES_CMD_ARM.of w = 1 then b.sesArm s
  else if TCU.SES_CMD_TRIG.of w = 1 then (b.sesHostTrig s, .ok)
  else if TCU.SES_CMD_STOP.of w = 1 then (b.sesStop s, .ok)
  else if TCU.SES_CMD_CLEAR.of w = 1 then b.sesClear s
  else (b, .ok)

/-! ## The generator (R319 to R321) -/

/-- The sine of a 32-bit phase in units of 2⁻¹⁵, at most 1 LSB from the exact value (R319; DESIGN CHOICE, log entry 16). -/
def sineOf (phase : Nat) : Int :=
  let x := sx 32 phase * pi48 / 2 ^ 31
  within 33 (trigSeries (x * x / 2 ^ 48) 14 1 x) (2 ^ 33) (Config.sineQ15 (phase % 2 ^ 32))

/-- A polynomial over two elements times x, modulo x^order + taps. -/
def gfStep (order taps r : Nat) : Nat := if 2 ^ order ≤ 2 * r then (2 * r - 2 ^ order) ^^^ taps else 2 * r

/-- The product of two polynomials modulo x^order + taps. -/
def gfMul (order taps x y : Nat) : Nat :=
  (List.range order).foldl (fun r k => let r := gfStep order taps r; if bit y (order - 1 - k) then r ^^^ x else r) 0

/-- x to the power `n` modulo x^order + taps, for `n` of at most `order` bits. -/
def gfPow (order taps n : Nat) : Nat :=
  (List.range order).foldl (fun r k => let r := gfMul order taps r r; if bit n (order - 1 - k) then gfStep order taps r else r) 1

/-- The taps give a sequence of the maximal length 2^ORDER − 1, ORDER 7 to 15: x has that order modulo the polynomial. -/
def maximalTaps (order taps : Nat) : Bool :=
  let n := 2 ^ order - 1
  decide (taps < 2 ^ order) && gfPow order taps n == 1 &&
    [3, 5, 7, 11, 13, 17, 23, 31, 43, 73, 89, 127, 151, 8191].all (fun q => n % q != 0 || gfPow order taps (n / q) != 1)

/-- Taps of maximal length for ORDER 7 to 15. -/
def prbsDefault (order : Nat) : Nat :=
  match order with
  | 8 => 0x1D
  | 9 => 0x11
  | 10 => 0x9
  | 11 => 0x5
  | 12 => 0x53
  | 13 => 0x1B
  | 14 => 0x443
  | _ => 0x3

/-- The taps in force: those of the device where they give maximal length (R319; DESIGN CHOICE, log entry 16). -/
def prbsTaps (order : Nat) : Nat := let t := Config.prbsTaps order; if maximalTaps order t then t else prbsDefault order

/-- The shift register after one bit (R319; DESIGN CHOICE, log entry 16). -/
def prbsNext (order taps r : Nat) : Nat :=
  r / 2 + (if (bitsOf (r &&& taps) order).length % 2 = 1 then 2 ^ (order - 1) else 0)

/-- The sign of the present bit, true +1. -/
def prbsOf (order r : Nat) : Bool := bit r (Config.prbsStage order % order) == Config.prbsPlus

/-- The waveform of the present run in units of 2⁻¹⁵. -/
def Block.waveform (b : Block) (s : Nat) : Int :=
  let t := b.ses s
  match b.get TCU.SES_INJ_GEN 0 s with
  | 0 => 0
  | 1 => if prbsOf (b.get TCU.SES_INJ_ORDER 0 s) t.lfsr then 32768 else -32768
  | _ => clampI (-32768) 32768 (sineOf t.phase)

/-- The largest number below 2^`n` above `x` whose `d`-th power times `p0` is at most `p1` times 2^(`r` `d`). -/
def rootBelow (p0 p1 d r : Nat) : Nat → Nat → Nat
  | 0, x => x
  | n + 1, x => rootBelow p0 p1 d r n (if (x + 2 ^ n) ^ d * p0 ≤ p1 * 2 ^ (r * d) then x + 2 ^ n else x)

/-- The per-run factor of an exponential chirp that leads from `p0` to `p1` in `d` runs, in units of 2^-`r`; its precision and the rounding of its
last bit are open (R319; DESIGN CHOICE, log entry 16). -/
def chirpFactor (p0 p1 d r : Nat) : Nat := rootBelow p0 p1 d r (r + 33) 0 + Config.chirpRound p0 p1 d 0 % 2

/-- The increment of the run after `n` runs of a chirp, `inc` that of the run before. An exponential sweep takes PINC times the `n`-th power of its
factor, and neither turns back nor passes PINC2; the rounding of the increment is open (DESIGN CHOICE, log entry 16). -/
def Block.chirpInc (b : Block) (s n inc : Nat) : Nat :=
  let p0 := (b.rd TCU.SES_PINC 0 s).toNat
  let p1 := (b.rd TCU.SES_PINC2 0 s).toNat
  let d := max 1 (b.rd TCU.SES_CHIRP 0 s).toNat
  if b.on TCU.SES_INJ_LOG 0 s then
    let r := 30 + Config.chirpBits
    let x := p0 * chirpFactor p0 p1 d r ^ n / 2 ^ (r * n) + Config.chirpRound p0 p1 d n % 2
    max (min inc p1) (min (max inc p1) x)
  else ((p0 : Int) + ((p1 : Int) - p0) * n / d).toNat

/-- The generator after one run. -/
def Block.genNext (b : Block) (s : Nat) : SesSt :=
  let t := b.ses s
  let t := { t with phase := (t.phase + t.inc) % 2 ^ 32 }
  match b.get TCU.SES_INJ_GEN 0 s with
  | 1 =>
    let n := b.get TCU.SES_INJ_ORDER 0 s
    if t.run < b.get TCU.SES_INJ_HOLD 0 s then { t with run := t.run + 1 } else { t with run := 0, lfsr := prbsNext n (prbsTaps n) t.lfsr }
  | 2 =>
    let len := b.get TCU.SES_DUR_SETTLE 0 s + b.get TCU.SES_DUR_MEAS 0 s
    if t.run + 1 < len then { t with run := t.run + 1 }
    else if t.step + 1 < b.get TCU.SES_STEP_STEPS 0 s then
      { t with run := 0, step := t.step + 1, inc := t.inc * (b.rd TCU.SES_PINC2 0 s).toNat / 2 ^ 30 }
    else { t with ending := true }
  | 3 =>
    if t.run + 1 < (b.rd TCU.SES_CHIRP 0 s).toNat then { t with run := t.run + 1, inc := b.chirpInc s (t.run + 1) t.inc }
    else { t with ending := true }
  | _ => { t with run := t.run + 1 }

/-- TCU works (R328, R377). -/
def Block.tcuOn (b : Block) : Bool := b.on TCU.TCU_CTL_EN && !b.fenced 0xD

/-- The session injects into a context. -/
def Block.sesInto (b : Block) (s ctx : Nat) : Bool :=
  b.on TCU.SES_CFG_INJ_EN 0 s && b.sesInj s == ctx && (b.sesActive s || (b.ses s).gen)

/-- The interlocks hold the injection of a session at zero now (R321). -/
def Block.sesHeld (b : Block) (s : Nat) : Bool := b.on TCU.SES_CFG_INJ_EN 0 s && !b.injOk (b.sesInj s)

/-- What a session delivers now (R321, R328). -/
def Block.sesU (b : Block) (s : Nat) : Int := if b.tcuOn && !b.sesHeld s then (b.ses s).u else 0

/-- The envelope of the next run: one step of FADE up to AMP; at the end of the generator down from where it stands, in FADE runs; 0 at once
where the interlocks fail (R320, R321). -/
def SesSt.nextEnv (t : SesSt) (fade : Nat) (ok : Bool) : Nat :=
  if !t.gen || !ok then 0 else if t.ending then t.env - t.fall else min (fade * fade) (t.env + fade)

/-- The sessions that inject into a context deliver to its run at the start: envelope, u and interlocks (R319 to R321). -/
def Block.genDeliver (b : Block) (ctx : Nat) : Block :=
  b.each (List.range 4) (fun b s =>
    let t := b.ses s
    if !b.tcuOn || !b.sesInto s ctx then (if b.sesInj s == ctx then b.setSes s { t with given := none } else b)
    else
      let ok := b.injOk ctx
      let fade := max 1 (b.get TCU.SES_AMP_FADE 0 s)
      let t := if t.ending && t.fall == 0 then { t with fall := (t.env + fade - 1) / fade } else t
      let env := t.nextEnv fade ok
      let u := clampI (-32768) 32767 (divRne (b.sesAmp s * env * b.waveform s) (fade * fade * 32768))
      b.setSes s { t with given := some ⟨env, u, !ok⟩ })

/-- What a completed run received, as `SES_STAT` and the records show it. -/
def Block.genShow (b : Block) (s : Nat) (u : Int) (zero : Bool) : Block :=
  (b.setSes s { b.ses s with given := none, u := u, zero := zero }).flag TCU.SES_STAT_INJ_ACTIVE (u != 0) 0 s

/-- The generators that delivered to a completed run advance (R319). -/
def Block.genAdvance (b : Block) (ctx : Nat) : Block :=
  b.each (List.range 4) (fun b s =>
    let t := b.ses s
    if !b.sesInto s ctx then b
    else
      match t.given with
      | none => b.genShow s 0 false
      | some g =>
        if !t.gen then b.genShow s g.u g.zero
        else
          let meas := b.get TCU.SES_INJ_GEN 0 s == 2 && !t.ending && decide (b.get TCU.SES_DUR_SETTLE 0 s ≤ t.run)
          let b := b.setSes s { b.genNext s with env := g.env, gen := !(t.ending && g.env == 0), lastStep := t.step, inMeas := meas }
          let b := (b.genShow s g.u g.zero).put TCU.SES_STAT_STEP t.step 0 s
          if g.u ≠ 0 ∧ b.get TCU.SES_CFG_TRIG_SRC 0 s = 1 then b.sesTrigger s else b)

/-- A run of a context was lost: the next record of its sessions shows GAP (R319). -/
def Block.genLost (b : Block) (ctx : Nat) : Block :=
  b.each (List.range 4) (fun b s =>
    if b.sesActive s && b.sesInj s == ctx && b.on TCU.SES_CFG_INJ_EN 0 s then b.setSes s { b.ses s with gap := true } else b)

/-! ## Records (R316, R322, R323) -/

/-- The generator output and INJ_ZERO of a record: what the run received where the clock context is the injection context, else what holds
as the record is taken (R316, R321, R322). -/
def Block.recGen (b : Block) (s : Nat) : Int × Bool :=
  if b.sesClk s = b.sesInj s then ((b.ses s).u, (b.ses s).zero) else (b.sesU s, b.sesHeld s)

/-- The value of a selector. A context-memory word is that of the last completed run: while a run that has started has not completed, as it stood
before that start (R316; DEDUCED, log entry 151). -/
def State.signal (s : State) (ses sel : Nat) : Int :=
  let code := sel / 256 % 128
  let c := sel % 256
  if code = 0 then (s.b.recGen ses).1
  else if code < 0x40 then clampI (-32768) 32767 ((s.b.lc c).last.sig.getD (code - 1) 0)
  else
    match (s.b.lc c).prior with
    | some ws => sx 16 (ws.getD (code - 0x40) 0).toNat
    | none => sx 16 (memWord s.mem (0x490000 + c * 0x100 + 4 * (code - 0x40))).toNat

/-- The signals of a record, two per word. -/
def packSignals : List Int → List Word
  | [] => []
  | [x] => [BitVec.ofNat 32 (ux 16 x)]
  | x :: y :: r => BitVec.ofNat 32 (ux 16 x + 65536 * ux 16 y) :: packSignals r

/-- A record is taken after a run of the clock context. -/
def State.takeRecord (s : State) (ses : Nat) : State :=
  let b := s.b
  let t := b.ses ses
  let len := max 1 (b.get TCU.SES_LEN_LEN 0 ses)
  let post := b.get TCU.SES_POST_POST 0 ses
  if b.sesState ses = 2 ∧ post ≤ t.post then s
  else if 16 ≤ t.queue.length then
    let b := b.bump TCU.SES_OVR_CNT_COUNT TCU.SES_OVR_CNT_OVF 0 ses
    { s with b := (b.setSes ses { t with seq := t.seq + 1 }).raise 0x2E 0xD }
  else
    let gen2 := b.get TCU.SES_INJ_GEN 0 ses == 2
    let g := b.recGen ses
    let head := t.seq % 65536 + (if gen2 then t.lastStep % 256 * 65536 else 0) + (if g.1 ≠ 0 then 2 ^ 24 else 0) +
      (if g.2 then 2 ^ 25 else 0) + (if t.gap then 2 ^ 26 else 0) + (if t.mark then 2 ^ 27 else 0)
    let sigs := (List.range (b.get TCU.SES_CFG_NSIG 0 ses)).map (fun k => s.signal ses (b.selector ses k))
    let idx := (b.get TCU.SES_WPTR_NEXT 0 ses + t.queue.length) % len
    let trig := b.sesState ses == 2
    let b := if t.gap then b.bump TCU.SES_GAP_CNT_COUNT TCU.SES_GAP_CNT_OVF 0 ses else b
    let b := if t.mark then (b.put TCU.SES_TRIG_REC_INDEX idx 0 ses).stamp TCU.SES_TS_LO TCU.SES_TS_HI 0 ses else b
    let t := { t with
      seq := t.seq + 1, gap := false, mark := false
      pre := if trig then t.pre else t.pre + 1
      post := if trig then t.post + 1 else t.post
      queue := t.queue ++ [(idx, BitVec.ofNat 32 head :: packSignals sigs)] }
    { s with b := b.setSes ses t }

/-- Signal 0 crosses the level in the direction of the edge (R324). -/
def crosses (falling : Bool) (level prev now : Int) : Bool :=
  if falling then level ≤ prev && decide (now < level) else decide (prev < level) && level ≤ now

/-- After a completed run of the clock context of a session. -/
def State.clockRun (s : State) (ses : Nat) : State :=
  let b := s.b
  let t := b.ses ses
  let v := s.signal ses (b.selector ses 0)
  let hit := b.get TCU.SES_CFG_TRIG_SRC 0 ses == 2 && (match t.prev with
    | some p => crosses (b.on TCU.SES_CFG_TRIG_EDGE 0 ses) (sx 16 (b.get TCU.SES_TRIG_LEVEL 0 ses)) p v
    | none => false)
  let b := b.setSes ses { t with prev := some v }
  let b := if hit then b.sesTrigger ses else b
  let t := b.ses ses
  let n := t.runs + 1
  let due := 2 ^ b.get TCU.SES_CFG_DEC 0 ses ≤ n
  let b := b.setSes ses { t with runs := if due then 0 else n }
  let gated := b.on TCU.SES_CFG_GATE 0 ses && b.get TCU.SES_INJ_GEN 0 ses == 2 && !t.inMeas
  let s := { s with b := b }
  if due && !gated && b.sesActive ses then s.takeRecord ses else s

/-- Every session paced by a context after its completed run (R315, R319). -/
def State.tcuAfterRun (s : State) (ctx : Nat) : State :=
  let s := { s with b := s.b.genAdvance ctx }
  if !s.b.tcuOn then s
  else (List.range 4).foldl (fun s k => if s.b.sesActive k && s.b.sesClk k == ctx then s.clockRun k else s) s

/-- The words of a record written where TCU may write; a word of a bank that is not READY or not its own is discarded and refused on the bank's
page (R334, R341). -/
def State.recordStore (s : State) (a : Nat) : List Word → State
  | [] => s
  | w :: ws =>
    let t := match bankOf a with
      | some k =>
        match s.b.bankWriteCheck k .tcu with
        | none => s.storeWord .tcu a w 0xFFFFFFFF#32
        | some c => { s with b := s.b.refuse (bankPage k) (a % 4096) .tcu c }
      | none => s
    t.recordStore (a + 4) ws

/-- A staged record is written to the buffer; POST records from the trigger end the session. -/
def State.recordWrite (s : State) (ses : Nat) : State :=
  let b := s.b
  let t := b.ses ses
  match t.queue with
  | [] => s
  | (idx, ws) :: rest =>
    if !b.awake || b.fenced 0xD then s
    else
      let isPost := decide (t.queue.length ≤ t.post - t.wrote)
      let next := (idx + 1) % max 1 (b.get TCU.SES_LEN_LEN 0 ses)
      let b := (b.setSes ses { t with queue := rest, wrote := if isPost then t.wrote + 1 else t.wrote }).put TCU.SES_WPTR_NEXT next 0 ses
      let b := if next = 0 ∧ !isPost then b.put TCU.SES_STAT_WRAPPED 1 0 ses else b
      let b := if isPost ∧ b.sesState ses = 2 ∧ b.get TCU.SES_POST_POST 0 ses ≤ t.wrote + 1 then
          ((b.put TCU.SES_STAT_STATE 3 0 ses).setSes ses { b.ses ses with ending := true }).evt 0xD (4 + ses)
        else b
      ({ s with b := b } : State).recordStore (b.get TCU.SES_BUF_BASE 0 ses + 4 * ws.length * idx) ws

/-! ## Register writes (R325, R328) -/

/-- The configuration registers of a session. -/
def sesCfgRegs : List Reg :=
  [TCU.SES_CFG, TCU.SES_CTX, TCU.SES_INJ, TCU.SES_AMP, TCU.SES_PINC, TCU.SES_PINC2, TCU.SES_STEP, TCU.SES_DUR, TCU.SES_CHIRP,
   TCU.SES_SIG01, TCU.SES_SIG23, TCU.SES_SIG45, TCU.SES_SIG67, TCU.SES_TRIG, TCU.SES_BUF, TCU.SES_LEN, TCU.SES_POST]

def Block.tcuWrite (b : Block) (r : Reg) (j : Nat) (w : Word) : Block × Ack :=
  if r = TCU.SES_CMD then b.sesCmd j w
  else if r ∈ sesCfgRegs then (if b.sesActive j then (b, .refused 1) else (b.store r w 0 j, .ok))
  else if r = TCU.SES_OVR_CNT ∨ r = TCU.SES_GAP_CNT then (if slice w 31 1 = 1 then b.wr r 0 0 j else b, .ok)
  else (b.store r w 0 j, .ok)

end Sys2Proof.Machine
end

