-- ==== Sys2Proof/Machine/Feedback.lean ====
section
/-!
DEFINITION. Feedback channels and position-compare units (R292 to R311). Where the manual gives a quotient and no rounding the
model rounds down (DESIGN CHOICE, log entry 15).
-/

namespace Sys2Proof.Machine

def Block.fbMode (b : Block) (f : Nat) : Nat := b.get FB.FB_CFG_MODE f

/-- The channel's input stage works; in BOOT it is idle (R36, R304, R312). -/
def Block.fbRuns (b : Block) (f : Nat) : Bool :=
  b.awake && b.mode != 0 && decide (f < 24) && b.on FBI.FBI_CTL_EN && !b.fenced (0x78 + f)

/-- CPR of a channel (R296). -/
def Block.cpr (b : Block) (f : Nat) : Nat :=
  if 4 ≤ b.fbMode f then 2 ^ b.get FB.FB_SER_ST_BITS f
  else
    let c := b.get FB.FB_CPR_CPR f
    if c = 0 then 2 ^ 24 else c

/-- PX of a channel as an unsigned 32-bit word (R296). -/
def Block.px (b : Block) (f : Nat) : Nat := (b.rd FB.FB_PX f).toNat

/-- COUNT and REV written, PX with them (R296). COUNT stays below CPR in every mode but OFF, which has no CPR: there `FB_CPR` stands for it
(DESIGN CHOICE, log entry 114). -/
def Block.fbSetPos (b : Block) (f count : Nat) (rev : Int) : Block :=
  let b := (b.put FB.FB_POS_COUNT count f).put FB.FB_REV_REV (ux 16 rev) f
  b.wr FB.FB_PX (BitVec.ofInt 32 (sx 16 (ux 16 rev) * b.cpr f + count)) f

/-! ## Position compare (R305 to R308) -/

/-- `a − b` modulo 2³² as a signed value. -/
def diff32 (a b : Nat) : Int := sx 32 ((a + 2 ^ 32 - b % 2 ^ 32) % 2 ^ 32)

/-- The action of a firing on a pin. -/
def Block.pcoAct (b : Block) (pin action : Nat) : Block :=
  match action with
  | 0 => { b with pcoPulse := setBit b.pcoPulse pin true }
  | 1 => { b with pcoLatch := setBit b.pcoLatch pin true }
  | 2 => { b with pcoLatch := setBit b.pcoLatch pin false }
  | _ => { b with pcoLatch := setBit b.pcoLatch pin (!bit b.pcoLatch pin) }

/-- The level driven on a PCO pin (R308). -/
def Block.pcoLevel (b : Block) (pin : Nat) : Bool :=
  if b.on FBI.PCO_CFG_FORCE_EN 0 pin then b.on FBI.PCO_CFG_FORCE_LVL 0 pin
  else (bit b.pcoLatch pin || bit b.pcoPulse pin) != b.on FBI.PCO_CFG_POL 0 pin

/-- A unit fires at PX (R305, R307). -/
def Block.pcFire (b : Block) (u px : Nat) : Block :=
  let b := (b.stamp PC.PC_FIRE_TS_LO PC.PC_FIRE_TS_HI u).wr PC.PC_FIRE_PX (BitVec.ofNat 32 px) u
  let b := ((b.bump PC.PC_FIRE_CNT_COUNT PC.PC_FIRE_CNT_OVF u).put PC.PC_STAT_FIRED 1 u).setMap FBI.FIRED_MAP_PC u true
  let b := b.evt (0x90 + u) 0
  let b := if b.on PC.PC_CFG_PIN_EN u then b.pcoAct (b.get PC.PC_CFG_PIN u) (b.get PC.PC_CFG_ACTION u) else b
  if !b.on PC.PC_CFG_PERIODIC u then b.put PC.PC_STAT_ARMED 0 u
  else
    let step := sx 32 (b.rd PC.PC_STEP u).toNat
    let target := (b.rd PC.PC_TARGET u).toNat
    let d := diff32 px target
    let serial := 4 ≤ b.fbMode (b.get PC.PC_CFG_FB u)
    let k : Nat := if serial && 0 < d * step then d.natAbs / step.natAbs else 0
    let b := b.wr PC.PC_TARGET (BitVec.ofInt 32 (target + (k + 1 : Int) * step)) u
    b.bumpBy k PC.PC_SKIP_CNT_COUNT PC.PC_SKIP_CNT_OVF u

/-- Whether a move of PX reaches a target in the armed direction (R305). -/
def pcReached (dir old new target : Nat) : Bool :=
  let d0 := diff32 old target
  let d1 := diff32 new target
  let up := d0 < 0 && 0 ≤ d1
  let down := 0 < d0 && d1 ≤ 0
  if dir = 0 then up else if dir = 1 then down else up || down

/-- The armed units of a valid channel compared, in ascending order, each against where PX stood at its last comparison (R305, R308). -/
def Block.pcMovedFrom (b : Block) (f : Nat) (old : Nat → Nat) : Block :=
  if !b.on FB.FB_STAT_VALID f || !b.on FBI.FBI_CTL_EN then b
  else
    b.each ((List.range 32).filter (fun u => b.on PC.PC_STAT_ARMED u && b.get PC.PC_CFG_FB u == f)) (fun b u =>
      if pcReached (b.get PC.PC_CFG_DIR u) (old u) (b.px f) (b.rd PC.PC_TARGET u).toNat then b.pcFire u (b.px f) else b)

/-- The comparison of modes 1 to 3 after PX moved from `old`; modes 4 and 5 compare at accepted readings only (R305). -/
def Block.pcMoved (b : Block) (f old : Nat) : Block := if 4 ≤ b.fbMode f then b else b.pcMovedFrom f (fun _ => old)

/-- PX at a unit's last comparison in modes 4 and 5: its check since the last accepted reading, else that reading (R305, R306). -/
def Block.pcSeen (b : Block) (f u : Nat) : Nat :=
  let s := b.fb f
  match s.checked.find? (fun x => x.1 == u), s.hist.head? with
  | some x, _ => x.2
  | none, some h => h.2
  | none, none => b.px f

/-- Direction of motion: 1 up, −1 down, 0 none while STILL (R306). -/
def Block.fbDir (b : Block) (f : Nat) : Int :=
  if b.on FB.FB_STAT_STILL f then 0
  else
    let s := sx 32 (b.rd FB.FB_SPEED f).toNat
    if 0 < s then 1 else if s < 0 then -1 else 0

/-- The check of a target against PX (R306). -/
def Block.pcCheck (b : Block) (u : Nat) : Block :=
  let f := b.get PC.PC_CFG_FB u
  if !b.on PC.PC_STAT_ARMED u || !b.on FB.FB_STAT_VALID f || !b.on FBI.FBI_CTL_EN then b
  else
    let d := diff32 (b.rd PC.PC_TARGET u).toNat (b.px f)
    let h : Int := b.get PC.PC_CFG_HYST u
    let dir := b.get PC.PC_CFG_DIR u
    let m := b.fbDir f
    let behind := if dir = 0 then d < -h else if dir = 1 then h < d else (0 < m && d < -h) || (m < 0 && h < d)
    let s := b.fb f
    let b := if 4 ≤ b.fbMode f then b.setFb f { s with checked := (u, b.px f) :: s.checked.filter (fun x => x.1 != u) } else b
    if d.natAbs ≤ h then b.pcFire u (b.px f)
    else if behind then
      let b := b.put PC.PC_STAT_LATE 1 u
      if b.on PC.PC_CFG_LATE_FIRE u then b.pcFire u (b.px f) else (b.put PC.PC_STAT_ARMED 0 u).evt (0x90 + u) 1
    else b

/-- Every armed unit of a channel checked again (R297, R306). -/
def Block.pcRecheck (b : Block) (f : Nat) : Block :=
  b.each ((List.range 32).filter (fun u => b.on PC.PC_STAT_ARMED u && b.get PC.PC_CFG_FB u == f)) Block.pcCheck

def pcoPulseEnd (pin : Nat) (b : Block) : Block :=
  if b.running then { b with pcoPulse := setBit b.pcoPulse pin false } else b

/-! ## Validity (R304) -/

/-- VALID recomputed, with its events; an axis without its channel is no longer ALIGNED, and it reads VALID = 0 of a fenced one (R264, R304). -/
def Block.fbValid (b : Block) (f : Nat) : Block :=
  let mode := b.fbMode f
  let s := b.on FB.FB_STAT_SUSPECT f || b.on FB.FB_STAT_STALE f || b.on FB.FB_STAT_WIRE_A f || b.on FB.FB_STAT_WIRE_B f ||
    b.on FB.FB_STAT_WIRE_Z f || (mode == 3 && b.on FB.FB_STAT_HALL_ERR f)
  let v := mode != 0 && !b.fenced (0x78 + f) && !s
  let old := b.on FB.FB_STAT_VALID f
  let b := (b.flag FB.FB_STAT_VALID v f).setMap FBI.VALID_MAP_FB f v
  let b := if b.fenced (0x78 + f) then b.setFb f { b.fb f with latValid := false } else b
  if old && !v then
    let b := (b.evt (0x78 + f) 0).evt 0x11 f
    if b.on FB.FB_STAT_ATTACHED f then b.put AX.AX_DRV_ALIGNED 0 (b.get FB.FB_STAT_AXIS f) else b
  else if !old && v then (b.evt (0x78 + f) 1).pcRecheck f
  else b

/-- A status bit set with its sticky copy. -/
def Block.fbErr (b : Block) (f : Nat) (stat err : Fld) : Block := (b.put stat 1 f).put err 1 f

/-! ## Counting (R295 to R298) -/

/-- One count up or down (R296). -/
def Block.fbStep (b : Block) (f : Nat) (up : Bool) : Block :=
  let old := b.px f
  let cpr := b.cpr f
  let c := b.get FB.FB_POS_COUNT f
  let rev := sx 16 (b.get FB.FB_REV_REV f)
  let (c', rev') : Nat × Int := if up then (if cpr ≤ c + 1 then (0, rev + 1) else (c + 1, rev))
    else (if c = 0 then (cpr - 1, rev - 1) else (c - 1, rev))
  let wrap := rev' < -32768 || 32767 < rev'
  let b := b.fbSetPos f c' rev'
  let b := if wrap then (b.put FB.FB_REV_REV_WRAP 1 f).evt (0x78 + f) 3 else b
  let s := b.fb f
  let b := b.setFb f { s with edges := (b.now, up) :: s.edges.take 15 }
  (b.put FB.FB_STAT_STILL 0 f).pcMoved f old

/-- The phase of a quadrature state in the order A leads B. -/
def quadPhase (a b : Bool) : Nat := if !a && !b then 0 else if a && !b then 1 else if a && b then 2 else 3

/-- A filtered A or B level changes (R295). A pair in wire disagreement keeps its level (R294). -/
def quadCount (f : Nat) (a bl : Bool) (b : Block) : Block :=
  let m := b.fbMode f
  if !b.fbRuns f || !(m == 1 || m == 2) then b
  else
    let s := b.fb f
    let a := if b.on FB.FB_STAT_WIRE_A f then s.a else a
    let bl := if b.on FB.FB_STAT_WIRE_B f then s.b else bl
    let d := (quadPhase a bl + 4 - quadPhase s.a s.b) % 4
    let b := b.setFb f { s with a := a, b := bl }
    if d = 0 then b
    else if d = 2 then
      let b := (b.bump FB.FB_QERR_CNT_COUNT FB.FB_QERR_CNT_OVF f).put FB.FB_ERR_QUAD_ERR 1 f
      ((b.put FB.FB_STAT_SUSPECT 1 f).fbValid f).raise 0x2B (0x78 + f)
    else b.fbStep f ((d == 1) != b.on FB.FB_CFG_DIR_INV f)

/-- Distance of two counts round the turn. -/
def turnDist (cpr a b : Nat) : Nat := let d := (a + cpr - b % cpr) % cpr; min d (cpr - d)

/-- A home or correction changed COUNT: VALID recomputed and every armed unit checked, once (R297, R306). -/
def Block.fbMoved (b : Block) (f : Nat) : Block :=
  if b.on FB.FB_STAT_VALID f then (b.fbValid f).pcRecheck f else b.fbValid f

/-- An index event (R297, R304). -/
def indexEvent (f : Nat) (b : Block) : Block :=
  let m := b.fbMode f
  if !b.fbRuns f || !(m == 1 || m == 2) || b.on FB.FB_STAT_WIRE_Z f then b
  else
    let c := b.get FB.FB_POS_COUNT f
    let z := b.get FB.FB_Z_Z_POS f
    let rev := sx 16 (b.get FB.FB_REV_REV f)
    let b := (b.put FB.FB_Z_LAST_COUNT c f).evt (0x78 + f) 2
    let s := b.fb f
    let zm := b.get FB.FB_CFG_ZMODE f
    if zm = 1 then
      if s.zDone then b
      else
        let b := (b.setFb f { s with zDone := true, homeArmed := false }).fbSetPos f z rev
        let b := b.put FB.FB_STAT_HOMED 1 f
        let b := if s.homeArmed then b.put FB.FB_STAT_SUSPECT 0 f else b
        if c = z then b.fbValid f else b.fbMoved f
    else if zm = 2 ∨ zm = 3 then
      let bad := b.get FB.FB_Z_Z_TOL f < turnDist (b.cpr f) c z
      let b := if bad then ((b.put FB.FB_ERR_INDEX_ERR 1 f).put FB.FB_STAT_SUSPECT 1 f).raise 0x2B (0x78 + f) else b
      if zm = 2 then b.fbValid f
      else
        let b := (b.fbSetPos f z rev).put FB.FB_STAT_SUSPECT 0 f
        if c = z then b.fbValid f else b.fbMoved f
    else b

/-- The forward Hall sequence (R298). -/
def hallIndex (h : Nat) : Option Nat :=
  match h with
  | 1 => some 0
  | 3 => some 1
  | 2 => some 2
  | 6 => some 3
  | 4 => some 4
  | 5 => some 5
  | _ => none

/-- A filtered Hall state (R298). -/
def hallTransition (f h : Nat) (b : Block) : Block :=
  let m := b.fbMode f
  let s := b.fb f
  if !b.fbRuns f || !(m == 2 || m == 3) || s.hall == h then b
  else
    let b := b.setFb f { s with hall := h }
    if m = 2 ∧ !b.on FB.FB_CFG_HCHK f then b
    else
      let err (b : Block) : Block :=
        let b := (b.fbErr f FB.FB_STAT_HALL_ERR FB.FB_ERR_HALL_ERR).raise 0x2C (0x78 + f)
        (if m = 3 then b.put FB.FB_STAT_SUSPECT 1 f else b).fbValid f
      match hallIndex s.hall, hallIndex h with
      | _, none => err b
      | none, some _ => (b.put FB.FB_STAT_HALL_ERR 0 f).fbValid f
      | some i, some j =>
        let d := (j + 6 - i) % 6
        if d = 1 ∨ d = 5 then
          let b := (b.put FB.FB_STAT_HALL_ERR 0 f).fbValid f
          if m = 3 then b.fbStep f ((d == 1) != b.on FB.FB_CFG_DIR_INV f) else b
        else err b

/-- A wire disagreement sets or clears on a pair, 0 A, 1 B, 2 Z (R294). -/
def wireDisagree (f pair : Nat) (bad : Bool) (b : Block) : Block :=
  let m := b.fbMode f
  let covered := m == 1 || m == 2 || (m == 4 && pair == 1)
  if !b.fbRuns f || (bad && (!b.on FB.FB_CFG_WIRE_EN f || !covered)) || 2 < pair then b
  else
    let stat := if pair = 0 then FB.FB_STAT_WIRE_A else if pair = 1 then FB.FB_STAT_WIRE_B else FB.FB_STAT_WIRE_Z
    let err := if pair = 0 then FB.FB_ERR_WIRE_A else if pair = 1 then FB.FB_ERR_WIRE_B else FB.FB_ERR_WIRE_Z
    if bad then
      if b.on stat f then b
      else (((b.fbErr f stat err).bump FB.FB_WIRE_CNT_COUNT FB.FB_WIRE_CNT_OVF f).fbValid f).raise 0x2A (0x78 + f)
    else (b.put stat 0 f).fbValid f

/-! ## Readings (R299 to R301) -/

/-- Gray code of `n` bits decoded. -/
def grayDecode (n x : Nat) : Nat :=
  (List.range n).foldl (fun (acc : Nat × Bool) k =>
    let i := n - 1 - k
    let v := acc.2 != bit x i
    (if v then acc.1 + 2 ^ i else acc.1, v)) (0, false) |>.1

/-- Bits of a frame: SKIP, MT, ST and ERR fields (R299). -/
def Block.frameBits (b : Block) (f : Nat) : Nat :=
  b.get FB.FB_SER_SKIP f + b.get FB.FB_SER_MT_BITS f + b.get FB.FB_SER_ST_BITS f + b.get FB.FB_SER_ERR_BITS f

/-- The bits of a reading's fields, from its most significant bit on. The bits that a delivery of mode 5 is too short to hold are free values
(DESIGN CHOICE, log entry 140). -/
def Block.frameField (b : Block) (f len frame : Nat) : Nat × Block :=
  let need := b.frameBits f
  if need ≤ len then (frame / 2 ^ (len - need), b)
  else
    let (x, b) := b.draw
    (frame * 2 ^ (need - len) + x.toNat % 2 ^ (need - len), b)

/-- A reading complete, of `len` bits: checked, then accepted into COUNT and REV or rejected (R299, R300). With MT_BITS = 0 the carry is counted
from the last accepted reading; the first reading after a change of the channel's format has none (DEDUCED, log entry 140). -/
def Block.fbReading (b : Block) (f len frame : Nat) : Block :=
  let st := b.get FB.FB_SER_ST_BITS f
  let mt := b.get FB.FB_SER_MT_BITS f
  let eb := b.get FB.FB_SER_ERR_BITS f
  let frame := frame % 2 ^ len
  let (field, b) := b.frameField f len frame
  let err := field % 2 ^ eb
  let err := if b.on FB.FB_SER_ERR_POL f then 2 ^ eb - 1 - err else err
  let b := b.wr FB.FB_RD_RAW (BitVec.ofNat 32 frame) f
  if err &&& b.get FB.FB_SER_ERR_MASK f ≠ 0 then
    ((b.fbErr f FB.FB_STAT_SER_ERR FB.FB_ERR_SER_ERR).bump FB.FB_SERR_CNT_COUNT FB.FB_SERR_CNT_OVF f).raise 0x2D (0x78 + f)
  else
    let raw := field / 2 ^ eb % 2 ^ (mt + st)
    let word := if b.on FB.FB_SER_GRAY f then grayDecode (mt + st) raw else raw
    let c := word % 2 ^ st
    let seen := b.pcSeen f
    let last := (b.fb f).hist.head?
    let oldR := sx 16 (b.get FB.FB_REV_REV f)
    let cpr := 2 ^ st
    let d : Int := match last with
      | some h => (c : Int) - (h.2 % cpr : Nat)
      | none => 0
    let carry : Int := if (cpr : Int) < 2 * d then -1 else if 2 * d < -(cpr : Int) then 1 else 0
    let r : Int := if 0 < mt then sx 16 (word / 2 ^ st) else oldR + carry
    let wrap := last.isSome && (if 0 < mt then decide (32768 < (r - oldR).natAbs) else decide (r < -32768) || decide (32767 < r))
    let b := (b.fbSetPos f c r).put FB.FB_STAT_SER_ERR 0 f
    let b := if wrap then (b.put FB.FB_REV_REV_WRAP 1 f).evt (0x78 + f) 3 else b
    let s := b.fb f
    let b := (b.wr FB.FB_RD_TS_LO (BitVec.ofNat 32 s.readTs) f).wr FB.FB_RD_TS_HI (BitVec.ofNat 32 (s.readTs / 2 ^ 32)) f
    let b := b.setFb f { s with fresh := true, staleRun := 0, checked := [], hist := (s.readTs, b.px f) :: s.hist.take 256 }
    let b := (b.put FB.FB_STAT_STALE 0 f).fbValid f
    b.pcMovedFrom f seen

/-- A trigger starts an SSI reading or is skipped (R299). -/
def ssiTrigger (f : Nat) (b : Block) : Block :=
  if !b.fbRuns f || b.fbMode f != 4 || !b.on FB.FB_SSI_TRIG_EN f then b
  else
    let s := b.fb f
    if s.busy then b.bump FB.FB_SERR_CNT_COUNT FB.FB_SERR_CNT_OVF f
    else b.setFb f { s with busy := true, readTs := b.now - b.get FB.FB_RD_LAT_COMP f }

/-- The frame of an SSI reading has ended, with its idle time; a channel that no longer runs takes nothing from it (R299, R300). -/
def ssiReadingDone (f frame : Nat) (b : Block) : Block :=
  let s := b.fb f
  if !s.busy then b
  else
    let b := b.setFb f { s with busy := false }
    if b.fbRuns f && b.fbMode f == 4 then b.fbReading f (b.frameBits f) frame else b

/-! ## Speed and latch (R301 to R303) -/

/-- The number saturated to a signed 32-bit word. -/
def sat32 (i : Int) : Word := BitVec.ofInt 32 (satS 32 i)

/-- Counts over a time in LCLK as speed with 4 fraction bits and as 2⁻¹⁶ revolution per second. -/
def Block.fbSpeed (b : Block) (f : Nat) (counts : Int) (lclk : Nat) : Block :=
  let t := max 1 lclk
  (b.wr FB.FB_SPEED (sat32 (counts * 4000000000 / t)) f).wr FB.FB_SPEED_N
    (sat32 (counts * 16384000000000 / ((b.cpr f * t : Nat) : Int))) f

/-- The last `e` counts went one way: their number with its sign. -/
def countsSigned (e : Nat) (edges : List (Nat × Bool)) : Option Int :=
  let l := (edges.take e).map Prod.snd
  if l.all id then some e else if l.all not then some (-(e : Int)) else none

/-- Neither method has what it divides: fewer counts or latches than it needs, or counts of both directions; the manual states no speed
(DESIGN CHOICE, log entry 115). -/
def Block.speedOpen (b : Block) (f : Nat) : Block :=
  let (x, b) := b.draw
  let (y, b) := b.draw
  (b.wr FB.FB_SPEED x f).wr FB.FB_SPEED_N y f

/-- Both speeds of a channel at a latch, and the method in force (R302, R303). -/
def Block.fbSpeeds (b : Block) (f : Nat) : Block :=
  let s := b.fb f
  let m := 2 ^ b.get FB.FB_SPD_CFG_MSH f
  let serial := 4 ≤ b.fbMode f
  let count : Option (Int × Nat) :=
    match s.hist.head?, s.hist[m]? with
    | some (t0, p0), some (t1, p1) => some (diff32 p0 p1, t0 - t1)
    | _, _ => none
  let e := max 1 (b.get FB.FB_SPD_CFG_EDGES_P f)
  let period : Option (Int × Nat) :=
    match s.edges.head?, s.edges[e]? with
    | some (t0, _), some (t1, _) =>
      (countsSigned e s.edges).map (fun n => (n, max ((t0 / 4 - t1 / 4) * 4) ((b.now / 4 - t0 / 4) * 4)))
    | _, _ => none
  let old := b.get FB.FB_STAT_METHOD f
  let sel := b.get FB.FB_SPD_CFG_METHOD_SEL f
  let dn := b.get FB.FB_SPD_TH_N_DN f
  let upT := b.get FB.FB_SPD_TH_N_UP f
  let meth := if serial ∨ sel = 2 then 1 else if sel = 1 then 0
    else
      match count with
      | some (n, _) => if old = 0 ∧ upT ≤ n.natAbs then 1 else if old = 1 ∧ n.natAbs ≤ dn then 0 else old
      | none => old
  let b := if meth = old then b else (b.put FB.FB_STAT_METHOD meth f).evt (0x78 + f) 4
  if b.on FB.FB_STAT_STILL f && meth == 0 then (b.wr FB.FB_SPEED 0 f).wr FB.FB_SPEED_N 0 f
  else
    match (if meth = 1 then count else period) with
    | some (c, t) => b.fbSpeed f c t
    | none => b.speedOpen f

/-- A channel latches: history, speeds, θm and what the axis receives (R301, R302). -/
def Block.fbLatch (b : Block) (f : Nat) : Block :=
  if !b.fbRuns f || b.fbMode f == 0 then b
  else
    let serial := 4 ≤ b.fbMode f
    let s := b.fb f
    let b := if serial then b else b.setFb f { s with hist := (b.now, b.px f) :: s.hist.take 256 }
    let b := b.fbSpeeds f
    let s := b.fb f
    let att := b.on FB.FB_STAT_ATTACHED f
    let b := if !serial || !att then b
      else if s.fresh then b
      else
        let n := s.staleRun + 1
        let b := (b.setFb f { s with staleRun := n }).bump FB.FB_SERR_CNT_COUNT FB.FB_SERR_CNT_OVF f
        if n = 2 then ((b.fbErr f FB.FB_STAT_STALE FB.FB_ERR_STALE).fbValid f).raise 0x2D (0x78 + f) else b
    let cpr := b.cpr f
    let adv : Int := match s.hist.head? with
      | some h => if serial then sx 32 (b.rd FB.FB_SPEED f).toNat * (b.now - h.1 : Nat) / 4000000000 else 0
      | none => 0
    let px : Int := sx 16 (b.get FB.FB_REV_REV f) * cpr + b.get FB.FB_POS_COUNT f + adv
    let c := (px % cpr).toNat
    let b := b.put FB.FB_ANGLE_THETA_M (c * 65536 / cpr) f
    b.setFb f { (b.fb f) with
      fresh := false
      latCount := c
      latRev := ux 16 (px / cpr)
      latPx := ux 32 px
      latHall := s.hall
      latValid := b.on FB.FB_STAT_VALID f }

/-- The 16 384-PCLK timer of an unattached channel (R302). -/
def fbFreeLatch (f : Nat) (b : Block) : Block := if b.on FB.FB_STAT_ATTACHED f then b else b.fbLatch f

/-- No count edge for ZERO_T: STILL, and speed 0 where the period method is in force (R302). -/
def speedZeroTimeout (f : Nat) (b : Block) : Block :=
  let m := b.fbMode f
  if !b.fbRuns f || !(m == 1 || m == 2 || m == 3) then b
  else
    let b := b.put FB.FB_STAT_STILL 1 f
    if b.on FB.FB_STAT_METHOD f then b else (b.wr FB.FB_SPEED 0 f).wr FB.FB_SPEED_N 0 f

/-! ## Register writes (R304, R306 to R308, R311, R314) -/

/-- The registers an attached channel refuses. -/
def fbAttachedRegs : List Reg :=
  [FB.FB_CFG, FB.FB_CPR, FB.FB_POS, FB.FB_REV, FB.FB_Z, FB.FB_SER, FB.FB_RD, FB.FB_SSI_TRIG]

/-- A write of `FB_CTL`. -/
def Block.fbCtl (b : Block) (f : Nat) (w : Word) : Block × Ack :=
  let other := b.on FB.FB_STAT_WIRE_A f || b.on FB.FB_STAT_WIRE_B f || b.on FB.FB_STAT_WIRE_Z f || b.on FB.FB_STAT_STALE f ||
    (b.fbMode f == 3 && b.on FB.FB_STAT_HALL_ERR f) || b.fbMode f == 0
  if FB.FB_CTL_REARM.of w = 1 ∧ other then (b, .refused 6)
  else
    let b := if FB.FB_CTL_REARM.of w = 1 then (b.put FB.FB_STAT_SUSPECT 0 f).fbValid f else b
    if FB.FB_CTL_HOME_ARM.of w = 1 then
      ((b.put FB.FB_STAT_HOMED 0 f).setFb f { (b.fb f) with zDone := false, homeArmed := true }, .ok)
    else (b, .ok)

/-- PX after a write that changes CPR, COUNT or REV (R296). -/
def Block.fbPx (b : Block) (f : Nat) : Block := b.fbSetPos f (b.get FB.FB_POS_COUNT f) (sx 16 (b.get FB.FB_REV_REV f))

/-- COUNT and Z_POS lie below CPR (R311). -/
def Block.fbPosOk (b : Block) (f : Nat) : Bool :=
  decide (b.get FB.FB_POS_COUNT f < b.cpr f) && decide (b.get FB.FB_Z_Z_POS f < b.cpr f)

/-- `FB_SER` lies in the limits of its mode (R311). -/
def Block.fbSerOk (b : Block) (f : Nat) : Bool :=
  let st := b.get FB.FB_SER_ST_BITS f
  let m := b.fbMode f
  st != 0 && decide (st ≤ 24) && decide (b.get FB.FB_SER_MT_BITS f ≤ 16) &&
    (m != 4 || decide (b.frameBits f ≤ 48)) && (m != 5 || decide (b.frameBits f ≤ 32))

/-- What ends with a change of a channel's mode or of its Hall check: readings and counts before it, STALE outside modes 4 and 5 and HALL_ERR
where no Hall check is made (R304). -/
def Block.fbModeSet (b : Block) (f : Nat) (ch : Bool) : Block :=
  let b := if ch then
      (b.setFb f { (b.fb f) with hist := [], edges := [], checked := [], busy := false, fresh := false, staleRun := 0 }).put FB.FB_STAT_STALE 0 f
    else b
  let m := b.fbMode f
  if m == 3 || (m == 2 && b.on FB.FB_CFG_HCHK f) then b else b.put FB.FB_STAT_HALL_ERR 0 f

/-- A channel whose CPR or mode was written: PX and VALID anew, and the units compared where VALID stood before (R296, R304, R305). -/
def Block.fbRescale (b : Block) (f old : Nat) (valid : Bool) : Block :=
  let b := (b.fbPx f).fbValid f
  if valid then b.pcMoved f old else b

/-- A write of `FB_CFG` (R304, R311). -/
def Block.fbCfg (b : Block) (f : Nat) (w : Word) : Block × Ack :=
  if 6 ≤ FB.FB_CFG_MODE.of w then (b, .refused 2)
  else
    let b' := b.store FB.FB_CFG w f
    if 4 ≤ b'.fbMode f ∧ !b'.fbSerOk f then (b, .refused 3)
    else if b'.fbMode f ≠ 0 ∧ !b'.fbPosOk f then (b, .refused 10)
    else ((b'.fbModeSet f (b'.fbMode f != b.fbMode f)).fbRescale f (b.px f) (b.on FB.FB_STAT_VALID f), .ok)

/-- A write of `FB_SER` (R311). Readings before a change of CPR are not compared with those after it. -/
def Block.fbSer (b : Block) (f : Nat) (w : Word) : Block × Ack :=
  let b' := b.store FB.FB_SER w f
  if !b'.fbSerOk f then (b, .refused 3)
  else if !b'.fbPosOk f then (b, .refused 10)
  else
    let b' := if b'.cpr f = b.cpr f then b' else b'.setFb f { (b'.fb f) with hist := [], checked := [] }
    (b'.fbRescale f (b.px f) (b.on FB.FB_STAT_VALID f), .ok)

/-- A write of `FB_CPR` (R311). -/
def Block.fbCpr (b : Block) (f : Nat) (w : Word) : Block × Ack :=
  let b' := b.store FB.FB_CPR w f
  if !b'.fbPosOk f then (b, .refused 10) else (b'.fbRescale f (b.px f) (b.on FB.FB_STAT_VALID f), .ok)

def Block.fbWrite (b : Block) (r : Reg) (f : Nat) (w : Word) : Block × Ack :=
  let new := r.merge false (b.rd r f) w
  if r ∈ fbAttachedRegs ∧ b.on FB.FB_STAT_ATTACHED f then (b, .refused 1)
  else if r = FB.FB_CFG then b.fbCfg f w
  else if r = FB.FB_SER then b.fbSer f w
  else if r = FB.FB_CPR then b.fbCpr f w
  else if r = FB.FB_RD ∨ r = FB.FB_SSI_TRIG then
    let div := FB.FB_RD_DIV.of (if r = FB.FB_RD then new else b.rd FB.FB_RD f)
    let dly := FB.FB_SSI_TRIG_SAMP_DLY.of (if r = FB.FB_SSI_TRIG then new else b.rd FB.FB_SSI_TRIG f)
    let div' := if div = 0 then 256 else div
    if (1 ≤ div ∧ div ≤ 3) ∨ div' ≤ dly then (b, .refused 4) else (b.store r w f, .ok)
  else if r = FB.FB_SPD_CFG then
    if 8 < FB.FB_SPD_CFG_MSH.of w ∨ FB.FB_SPD_CFG_ZERO_T.of new = 0 then (b, .refused 5) else (b.store r w f, .ok)
  else if r = FB.FB_SPD_TH then
    if FB.FB_SPD_TH_N_UP.of w ≤ FB.FB_SPD_TH_N_DN.of w then (b, .refused 5) else (b.store r w f, .ok)
  else if r = FB.FB_POS then
    if b.cpr f ≤ FB.FB_POS_COUNT.of w then (b, .refused 10)
    else
      (((b.store r w f).fbPx f).pcMoved f (b.px f), .ok)
  else if r = FB.FB_REV then (((b.store r w f).fbPx f).pcMoved f (b.px f), .ok)
  else if r = FB.FB_Z then
    if b.cpr f ≤ FB.FB_Z_Z_POS.of w then (b, .refused 10) else (b.store r w f, .ok)
  else if r = FB.FB_CTL then b.fbCtl f w
  else if r = FB.FB_QERR_CNT ∨ r = FB.FB_SERR_CNT ∨ r = FB.FB_WIRE_CNT then
    (if slice w 31 1 = 1 then b.wr r 0 f else b, .ok)
  else (b.store r w f, .ok)

/-- PERIODIC with its direction, step and hysteresis is allowed (R307). -/
def pcPeriodicOk (cfg step : Word) : Bool :=
  let s := sx 32 step.toNat
  let h : Int := PC.PC_CFG_HYST.of cfg
  PC.PC_CFG_PERIODIC.of cfg == 0 || (PC.PC_CFG_DIR.of cfg == 0 && decide (h < s)) || (PC.PC_CFG_DIR.of cfg == 1 && decide (s < -h))

/-- A write of `PC_TARGET` (R306, R308). -/
def Block.pcTarget (b : Block) (u : Nat) (w : Word) : Block × Ack :=
  let b := b.store PC.PC_TARGET w u
  if b.on PC.PC_CTL_EN u then ((b.put PC.PC_STAT_ARMED 1 u).pcCheck u, .ok) else (b, .ok)

/-- A write of `PC_CTL` (R314). -/
def Block.pcCtl (b : Block) (u : Nat) (w : Word) : Block × Ack :=
  let b := b.store PC.PC_CTL w u
  if PC.PC_CTL_DISARM.of w = 1 ∨ PC.PC_CTL_EN.of w = 0 then (b.put PC.PC_STAT_ARMED 0 u, .ok) else (b, .ok)

def Block.pcWrite (b : Block) (r : Reg) (u : Nat) (w : Word) : Block × Ack :=
  if r = PC.PC_CFG then
    if b.on PC.PC_STAT_ARMED u then (b, .refused 8)
    else if 24 ≤ PC.PC_CFG_FB.of w ∨ b.fbMode (PC.PC_CFG_FB.of w) = 0 then (b, .refused 7)
    else if !pcPeriodicOk w (b.rd PC.PC_STEP u) then (b, .refused 9)
    else (b.store r w u, .ok)
  else if r = PC.PC_STEP then
    if !pcPeriodicOk (b.rd PC.PC_CFG u) w then (b, .refused 9) else (b.store r w u, .ok)
  else if r = PC.PC_TARGET then b.pcTarget u w
  else if r = PC.PC_CTL then b.pcCtl u w
  else if r = PC.PC_FIRE_CNT ∨ r = PC.PC_SKIP_CNT then (if slice w 31 1 = 1 then b.wr r 0 u else b, .ok)
  else (b.store r w u, .ok)

end Sys2Proof.Machine
end

