-- ==== Sys2Proof/Machine/Xsp.lean ====
section
/-!
DEFINITION. The expansion serial port (R109 to R114, R125). Times of windows are in fine steps, modulo the period of the
constellation that `XSP.CTL.TRIG_TB` names.
-/

namespace Sys2Proof.Machine

/-! ## Windows (R109, R112) -/

/-- Words of a descriptor. -/
def Block.xdWords (b : Block) (n : Nat) : Nat := let w := b.get XSP.XD_FRAME_WORDS 0 n; if w = 0 then 16 else w

/-- Bits of one word of a descriptor. R125 gives the value 3 of WIDTH, and the values 2 and 3 of DEST, no meaning: such a width is 32 bits, such a
destination the buffer (DESIGN CHOICE, log entry 149). -/
def Block.xdWidth (b : Block) (n : Nat) : Nat :=
  match b.get XSP.XD_FRAME_WIDTH 0 n with
  | 0 => 8
  | 1 => 16
  | _ => 32

/-- Bits of a transfer. -/
def Block.xdBits (b : Block) (n : Nat) : Nat :=
  (if b.on XSP.XD_FRAME_CMD16 0 n then 16 else 8) + 8 * b.get XSP.XD_FRAME_ADDR_W 0 n + b.get XSP.XD_FRAME_DUMMY 0 n +
    b.xdWords n * b.xdWidth n + (if b.on XSP.XD_FRAME_CRC_EN 0 n then 8 else 0)

/-- The window of a transfer in PCLK. -/
def Block.xdWindow (b : Block) (n : Nat) : Nat :=
  let p := b.get XSP.XD_FRAME_SEL 0 n
  let div := let d := b.get XSP.PROF_CLK_DIV 0 p; if d = 0 then 256 else d
  b.get XSP.PROF_DLY_LEAD 0 p + b.xdBits n * div + b.get XSP.PROF_DLY_LAG 0 p + b.get XSP.PROF_CLK_IDLE 0 p

/-- A descriptor is armed for the ephemeris. -/
def Block.xdArmed (b : Block) (n : Nat) : Bool := b.on XSP.XD_TRIG_EN 0 n && b.get XSP.XD_TRIG_SRC 0 n == 2

def Block.anyArmed (b : Block) : Bool := (List.range 16).any b.xdArmed

/-- The firing windows of a descriptor: start and length, the start lag included. The antimeridian window of AM counts also while the
constellation has DOUBLE = 0 (DESIGN CHOICE, log entry 135). -/
def Block.xdFirings (b : Block) (n period : Nat) : List (Nat × Nat) :=
  let len := 64 * (4 + 4 * b.xdWindow n)
  let at' := 64 * b.get XSP.XD_TRIG_OFFSET 0 n
  (at' % period, len) :: (if b.on XSP.XD_TRIG_AM 0 n then [((at' + period / 2) % period, len)] else [])

/-- Every firing window of the armed descriptors. -/
def Block.firings (b : Block) (period : Nat) : List (Nat × Nat) :=
  (((List.range 16).filter b.xdArmed).map (fun n => b.xdFirings n period)).flatten

/-- Two windows lie clear of each other modulo the period. -/
def clearOf (period : Nat) (x y : Nat × Nat) : Bool :=
  x.2 ≤ (y.1 + period - x.1) % period && y.2 ≤ (x.1 + period - y.1) % period

/-- Every window fits the period and lies clear of every other. -/
def windowsClear (period : Nat) : List (Nat × Nat) → Bool
  | [] => true
  | x :: xs => decide (x.2 ≤ period) && xs.all (clearOf period x) && windowsClear period xs

/-- The check of R112 for the constellation of the ephemeris descriptors under a period. -/
def Block.xspFits (b : Block) (period : Nat) : Bool := period == 0 || windowsClear period (b.firings period)

/-- The check of a period, or of EN, of constellation `k` (R112, R143). -/
def Block.xspAllows (b : Block) (k period : Nat) : Bool := b.get XSP.CTL_TRIG_TB != k || b.xspFits period

/-- XSP holds a constellation running (R112, R130). -/
def Block.xspHolds (b : Block) (k : Nat) : Bool := b.on XSP.CTL_EN && b.get XSP.CTL_TRIG_TB == k && b.anyArmed

/-- The period the check uses: the one in force, or `TB_PERIOD` of a stopped constellation. -/
def Block.xspPeriod (b : Block) (k : Nat) : Nat :=
  if b.tbRuns k || (b.tb k).starting then b.period k else (b.rd EGA.TB_PERIOD 0 k).toNat

/-- A destination is valid: a channel that its mode enables, of at most 32 bits (R124). -/
def Block.destOk (b : Block) (n : Nat) : Bool :=
  b.get XSP.XD_FRAME_DEST 0 n != 1 ||
    (decide (b.get XSP.XD_ADDR_DEST_IDX 0 n < 24) && b.fbMode (b.get XSP.XD_ADDR_DEST_IDX 0 n) != 0 && decide (b.xdWords n * b.xdWidth n ≤ 32))

/-! ## Register writes (R110, R112, R113) -/

/-- A write of `XD_TRIGn`. -/
def Block.xdTrigWrite (b : Block) (n : Nat) (w : Word) : Block × Ack :=
  let on := XSP.XD_TRIG_EN.of w == 1
  if b.on XSP.XD_TRIG_EN 0 n && on then (b, .refused 2)
  else
    let b' := b.store XSP.XD_TRIG w 0 n
    if !on then (b', .ok)
    else if !b.destOk n then (b, .refused 7)
    else if b'.xdArmed n && !b'.xspFits (b'.xspPeriod (b'.get XSP.CTL_TRIG_TB)) then (b, .refused 3)
    else (b', .ok)

/-- The longest gap between ephemeris windows, none where nothing is armed. -/
def longestGap (period : Nat) (ws : List (Nat × Nat)) : Option Nat :=
  (ws.map (fun x =>
    let next := (ws.map (fun y => let d := (y.1 + period - x.1) % period; if d = 0 then period else d)).foldl min period
    next - x.2)).max?

/-- A descriptor runs. -/
def Block.xdRunning (b : Block) (n : Nat) : Bool := b.on XSP.STAT_BUSY && b.get XSP.STAT_DESC == n

/-- A write of `XSP.GO`; it needs no `XD_TRIG.EN` (DEDUCED, log entry 75). -/
def Block.xspGo (b : Block) (w : Word) : Block × Ack :=
  let n := XSP.GO_DESC.of w
  let k := b.get XSP.CTL_TRIG_TB
  if XSP.GO_GO.of w = 0 ∨ b.get XSP.XD_TRIG_SRC 0 n ≠ 1 ∨ !b.on XSP.CTL_EN then (b, .ok)
  else if b.xsp.wait.contains n || b.xdRunning n then (b, .refused 6)
  else if !b.destOk n then (b, .refused 7)
  else
    let gap := if b.tbRuns k then longestGap (b.period k) (b.firings (b.period k)) else none
    let fits := match gap with
      | some g => decide (256 * b.xdWindow n ≤ g)
      | none => true
    if fits then ({ b with xsp := { b.xsp with wait := b.xsp.wait ++ [n] } }.put XSP.STAT_SW_WAIT 1, .ok) else (b, .refused 5)

def Block.xspWrite (b : Block) (r : Reg) (j : Nat) (w : Word) : Block × Ack :=
  if r = XSP.XD_TRIG then b.xdTrigWrite j w
  else if r = XSP.XD_FRAME ∨ r = XSP.XD_CMD ∨ r = XSP.XD_ADDR then
    (if b.on XSP.XD_TRIG_EN 0 j then (b, .refused 2) else (b.store r w 0 j, .ok))
  else if r = XSP.PROF_CLK then (if XSP.PROF_CLK_DIV.of w = 1 then (b, .refused 1) else (b.store r w 0 j, .ok))
  else if r = XSP.GO then b.xspGo w
  else if r = XSP.CTL then
    let b' := b.store r w
    let k := b'.get XSP.CTL_TRIG_TB
    if k ≠ b.get XSP.CTL_TRIG_TB ∧ !b'.xspFits (b'.xspPeriod k) then (b, .refused 4) else (b', .ok)
  else if r = XSP.XD_STAT then
    let b := b.store r w 0 j
    (if XSP.XD_STAT_CLR.of w = 1 then
      (((b.put XSP.XD_STAT_MISS 0 0 j).put XSP.XD_STAT_CRC_ERR 0 0 j).put XSP.XD_STAT_MISS_OVF 0 0 j).put XSP.XD_STAT_CRC_OVF 0 0 j
     else b, .ok)
  else (b.store r w 0 j, .ok)

/-! ## Transfers (R111, R113, R114) -/

/-- The data words that a write of descriptor `n` sends: its buffer's, of the descriptor's width (R110). -/
def Block.xdOut (b : Block) (n : Nat) : List Word :=
  if b.on XSP.XD_FRAME_DIR 0 n then
    (List.range (b.xdWords n)).map (fun k => BitVec.ofNat 32 ((b.rd XSP.XBUF 0 (16 * n + k)).toNat % 2 ^ b.xdWidth n))
  else []

/-- The bits that the port drives in a transfer of descriptor `n` up to its trailer (R99, R109). -/
def Block.xdDriven (b : Block) (n : Nat) : List Bool :=
  let data := b.xdWords n * b.xdWidth n
  let dummy := b.get XSP.XD_FRAME_DUMMY 0 n
  bitsMsb (if b.on XSP.XD_FRAME_CMD16 0 n then 16 else 8) (b.get XSP.XD_CMD_CMD 0 n) ++
    bitsMsb (8 * b.get XSP.XD_FRAME_ADDR_W 0 n) (b.get XSP.XD_ADDR_ADDR 0 n) ++ (List.range dummy).map Config.idleBit ++
    (if b.on XSP.XD_FRAME_DIR 0 n then (b.xdOut n).flatMap (fun w => bitsMsb (b.xdWidth n) w.toNat)
     else (List.range data).map Config.idleBit)

/-- A transfer of descriptor `n` starts: its select falls on the first PCLK edge from now. -/
def Block.xspStart (b : Block) (n : Nat) : Block :=
  let trailer := if b.on XSP.XD_FRAME_CRC_EN 0 n then some (BitVec.ofNat 8 (crc8 (b.xdDriven n))) else none
  let b := { b with xsp := { b.xsp with out := b.xdOut n, trailer := trailer } }
  let t := (b.now + 3) / 4 * 4
  let b := ((b.put XSP.STAT_BUSY 1).put XSP.STAT_SEL (b.get XSP.XD_FRAME_SEL 0 n)).put XSP.STAT_DESC n
  (b.wr XSP.XD_TS_LO (BitVec.ofNat 32 t) 0 n).wr XSP.XD_TS_HI (BitVec.ofNat 32 (t / 2 ^ 32)) 0 n

/-- The destination of a descriptor is a fenced channel. -/
def Block.destFenced (b : Block) (n : Nat) : Bool :=
  b.get XSP.XD_FRAME_DEST 0 n == 1 && b.fenced (0x78 + b.get XSP.XD_ADDR_DEST_IDX 0 n)

/-- The instant of an armed ephemeris descriptor comes; before the first meridian of a starting constellation nothing fires (R112). A miss is reported also while XSP itself is fenced: R114 says so, where R377 has a
fenced unit raise no further source (DEDUCED, log entry 105). -/
def xspEphemerisFire (n : Nat) (b : Block) : Block :=
  if !b.awake || b.mode == 0 || !b.on XSP.CTL_EN || !decide (n < 16) || !b.xdArmed n || !b.tbRuns (b.get XSP.CTL_TRIG_TB) ||
      (b.tb (b.get XSP.CTL_TRIG_TB)).starting then b
  else if b.fenced 5 || b.destFenced n || b.on XSP.STAT_BUSY then
    (b.bump XSP.XD_STAT_MISS XSP.XD_STAT_MISS_OVF 0 n).raiseFenced 0x0B 5
  else b.xspStart n

/-- A waiting software transfer fits before the next firing; in BOOT the port serves the boot ROM alone (R36, R115). The oldest goes first, and
where it does not fit, those behind it wait too (DESIGN CHOICE, log entry 136). -/
def xspSwTransferStart (b : Block) : Block :=
  match b.xsp.wait with
  | [] => b
  | n :: rest =>
    if !b.awake || b.mode == 0 || b.fenced 5 || !b.on XSP.CTL_EN || b.on XSP.STAT_BUSY then b
    else ({ b with xsp := { b.xsp with wait := rest } }.flag XSP.STAT_SW_WAIT !rest.isEmpty).xspStart n

/-- Words of a width as one number, the first received most significant. -/
def joinWords (width : Nat) (ws : List Word) : Nat := ws.foldl (fun x w => x * 2 ^ width + w.toNat % 2 ^ width) 0

/-- The words of a read placed in the descriptor's buffer. -/
def Block.fillBuffer (b : Block) (n : Nat) (ws : List Word) : Block :=
  b.each (List.range (min 16 ws.length)) (fun b k =>
    b.wr XSP.XBUF (BitVec.ofNat 32 ((ws.getD k 0).toNat % 2 ^ b.xdWidth n)) 0 (16 * n + k))

/-- The trailer of a read fails: it is not the CRC of what the other side drove, `head` up to the data and the data words (R99, R114). -/
def Block.xspCrcBad (b : Block) (n : Nat) (head : List Bool) (ws : List Word) (crc : Byte) : Bool :=
  b.on XSP.XD_FRAME_CRC_EN 0 n && crc8 (head ++ ws.flatMap (fun w => bitsMsb (b.xdWidth n) w.toNat)) != crc.toNat

/-- The running transfer ends. A read whose trailer fails leaves DONE as it was (DESIGN CHOICE, log entry 149). -/
def xspTransferDone (head : List Bool) (data : List Word) (crc : Byte) (b : Block) : Block :=
  if !b.awake || b.fenced 5 || !b.on XSP.STAT_BUSY then b
  else
    let n := b.get XSP.STAT_DESC
    let ws := data.take (b.xdWords n)
    let b := b.put XSP.STAT_BUSY 0
    if b.on XSP.XD_FRAME_DIR 0 n then b.put XSP.XD_STAT_DONE 1 0 n
    else if b.xspCrcBad n head ws crc then
      (b.bump XSP.XD_STAT_CRC_ERR XSP.XD_STAT_CRC_OVF 0 n).raise 0x0C 5
    else
      let b := b.put XSP.XD_STAT_DONE 1 0 n
      if b.get XSP.XD_FRAME_DEST 0 n = 1 then
        let f := b.get XSP.XD_ADDR_DEST_IDX 0 n
        if b.fbRuns f && b.fbMode f == 5 then
          let ts := (b.rd XSP.XD_TS_LO 0 n).toNat + (b.rd XSP.XD_TS_HI 0 n).toNat * 2 ^ 32
          let ts := ts - b.get FB.FB_RD_LAT_COMP f
          (b.setFb f { b.fb f with readTs := ts }).fbReading f (b.xdWords n * b.xdWidth n) (joinWords (b.xdWidth n) ws)
        else b
      else b.fillBuffer n ws

end Sys2Proof.Machine
end

