-- ==== Sys2Proof/Machine/Constel.lean ====
section
/-!
DEFINITION. Constellations: start, stop, period changes, the ticks and linked update (R129 to R131, R143 to R145, R158, R231, R245).
-/

namespace Sys2Proof.Machine

/-! ## Contexts at a tick (R231, R245) -/

/-- A context's slot falls in the half with sample count `k` (R231). -/
def Block.ctxDue (b : Block) (c phase : Nat) : Bool :=
  (b.rd LEA.TB_SCNT 0 (b.get LC.LC_SLOT_TB c)).toNat % 2 ^ b.get LC.LC_CFG_DIVL c == phase

/-- Cover plans are computed anew (R244). -/
def Block.planStart (b : Block) : Block := b.put LEA.LEA_STAT_PLAN_BUSY 1

/-- A context at a tick of its constellation: a lost run of a migrating one is counted unless HALT or DORMANT prevents it, and a planned one runs
on (R41, R237, R245, R246). -/
def Block.ctxTick (b : Block) (c : Nat) : Block :=
  let l := b.lc c
  let k := b.get LC.LC_SLOT_TB c
  let h : Int := (halfLen (b.period k) (b.tb k).dbl / 64 : Nat)
  let b' := b.setLc c { l with ran := false, routed := l.routed.map (fun x => (x.1, x.2 - h)), ffNext := l.ffNext.map (fun x => (x.1, x.2 - h)) }
  if b.ctxSt c ≠ 3 then b'
  else
    let skipped := b.mode == 5 || (b.mode == 4 && b.get LC.LC_CFG_ROLE c != 1)
    let b' := if b.ctxDue c l.phase0 && !l.ran && !skipped then (b'.bump LC.LC_MISS_COUNT LC.LC_MISS_OVF c).genLost c else b'
    if l.planWait then b'
    else ((b'.put LC.LC_STAT_ST 2 c).evt (0x140 + c) 5).evt 0xC 1

/-- A tick of constellation `k` opens a half: its contexts, then the sample count. -/
def Block.halfTick (b : Block) (k : Nat) : Block :=
  let cs := b.ctxs.filter (fun c => b.ctxPlaced c && b.get LC.LC_SLOT_TB c == k)
  (b.each cs Block.ctxTick).put LEA.TB_SCNT_COUNT ((b.rd LEA.TB_SCNT 0 k).toNat + 1) 0 k

/-! ## The period (R143 to R145) -/

/-- The period in force, with EXACT. -/
def Block.setPeriod (b : Block) (k p : Nat) : Block :=
  ((b.wr EGA.TB_PERIOD_ACT (BitVec.ofNat 32 p) 0 k).flag EGA.TB_STAT_EXACT (p % 64 == 0) 0 k).engineRefresh

/-- Freshness restarts with an accepted `TB_GO` (R145). -/
def Block.unfresh (b : Block) (k : Nat) : Block :=
  b.each (b.legsOn k) (fun b leg => (b.setLeg leg { b.leg leg with pendFresh := false }).put LEG.LEG_STAT_FRESH 0 leg)

/-- A period is sealed. -/
def Block.sealPeriod (b : Block) (k p : Nat) (link : Bool) : Block :=
  let t := b.tb k
  let b := if t.sealed.isSome then b.put EGA.TB_STAT_SUPERSEDED 1 0 k else b
  ((b.setTb k { t with sealed := some p, link := link, n := 0 }).put EGA.TB_STAT_ARMED 1 0 k).put EGA.TB_STAT_LINK_WAIT 0 0 k

/-- A `TB_GO` on constellation `k`; in the 8 ECLK before a meridian it goes to the pending latch, after what the window found is kept. -/
def Block.tbGo (b : Block) (k : Nat) (w : Word) : Block × Ack :=
  let p := (b.rd EGA.TB_PERIOD 0 k).toNat
  let link := b.on EGA.TB_CFG_LINK_EN 0 k
  if EGA.TB_GO_GO.of w = 0 then (b, .ok)
  else if !b.tbRuns k then (b, .refused 7)
  else if !b.xspAllows k p then (b, .refused 10)
  else
    match b.periodRefusal k p with
    | some (reason, eng, ctx, slot) =>
      let b := (b.put LEA.ADM_LAST_REASON reason).put LEA.ADM_LAST_ENG eng
      let b := (b.put LEA.ADM_LAST_ROLE (b.get LC.LC_CFG_ROLE ctx)).put LEA.ADM_LAST_PROG (b.get LC.LC_CFG_PROG ctx)
      (((b.put LEA.ADM_LAST_TB k).put LEA.ADM_CTX_CTX ctx).put LEA.ADM_CTX_SLOT slot, .refused 11)
    | none =>
      let inWindow := b.tbWindow k
      let b := (if inWindow then b.decidePeriod k else b).planStart.unfresh k
      let t := b.tb k
      if inWindow then
        let b := if t.pend.isSome then b.put EGA.TB_STAT_SUPERSEDED 1 0 k else b
        ((b.setTb k { t with pend := some p, linkPend := link }).put EGA.TB_STAT_PEND 1 0 k, .ok)
      else (b.sealPeriod k p link, .ok)

/-- The meridian takes the sealed period as its window decided (R145). -/
def Block.takePeriod (b : Block) (k : Nat) : Block :=
  let fresh := (b.tb k).take.getD (b.allFresh k)
  let b := b.setTb k { b.tb k with take := none }
  let t := b.tb k
  match t.sealed with
  | none => b
  | some p =>
    if fresh || 1 ≤ t.n then
      let b := (b.put EGA.TB_STAT_ARMED 0 0 k).put EGA.TB_STAT_LINK_WAIT 0 0 k
      let b := ((b.setTb k { t with sealed := none, n := 0 }).setPeriod k p).evt 0xF (8 + k)
      if fresh then b else ((b.put EGA.TB_STAT_LINK_TIMEOUT 1 0 k).evt 0xF 1).raise 0x14 0xF
    else (b.setTb k { t with n := 1 }).put EGA.TB_STAT_LINK_WAIT 1 0 k

/-- A meridian is passed: the period that ends, then the one that the meridian takes (R131, R144). -/
def Block.passMeridian (b : Block) (k : Nat) : Block :=
  let t := b.tb k
  (b.setTb k { t with phase := (t.phase + b.period k) % 64 }).takePeriod k

/-- The commit of a leg without stagger at a meridian that its tick lags (R131): the meridian is passed before the commit. -/
def Block.earlyMeridian (b : Block) (leg : Nat) (anti : Bool) : Block :=
  let k := b.legTb leg
  if !anti && b.unstaggered leg && (b.tb k).take.isSome && !(b.tb k).took then
    let b := b.passMeridian k
    b.setTb k { b.tb k with took := true }
  else b

/-- The pending period is sealed one ECLK after the meridian. -/
def Block.pendPeriod (b : Block) (k : Nat) : Block :=
  let t := b.tb k
  match t.pend with
  | none => b
  | some p => ((b.setTb k { t with pend := none }).put EGA.TB_STAT_PEND 0 0 k).sealPeriod k p t.linkPend

/-! ## Start and stop (R130) -/

/-- A constellation is in use. -/
def Block.tbInUse (b : Block) (k : Nat) : Bool :=
  (b.legsOn k).any (fun leg => b.legOwner leg != 0) ||
    (List.range b.numAxes).any (fun a => b.axState a == 1 && b.axTb a == k)

/-- The first meridian awaited: `wait` LCLK from now with SYNC = 0, else after the next meridian tick of the constellation it follows. The legs open
with their local meridian (R130). -/
def Block.tbAwaits (b : Block) (k : Nat) (follow : Bool) (wait : Nat) : Block :=
  let t := b.tb k
  let t := if follow then
      { t with starting := true, syncTo := some (b.get EGA.TB_CFG_SYNC 0 k - 1, b.get EGA.TB_CFG_SYNC_OFS 0 k), firstAt := none }
    else { t with starting := true, syncTo := none, firstAt := some (b.now + wait) }
  (b.each (b.legsOn k) (fun b leg => b.setLeg leg { b.leg leg with lastAnti := true })).setTb k t

/-- Its start: the shadow period in force, the first meridian awaited. -/
def Block.tbStarts (b : Block) (k : Nat) : Block :=
  let b := (b.setPeriod k (b.rd EGA.TB_PERIOD 0 k).toNat).put EGA.TB_MCOUNT_COUNT 0 0 k
  let b := (b.put EGA.TB_STAT_RUN 1 0 k).setTb k { dbl := b.on EGA.TB_CFG_DOUBLE 0 k }
  b.tbAwaits k (b.get EGA.TB_CFG_SYNC 0 k != 0) 64

/-- Its stop: sealed and pending periods are discarded, and on its legs nothing waits for a meridian any more. -/
def Block.tbStops (b : Block) (k : Nat) : Block :=
  let b := ((b.put EGA.TB_STAT_RUN 0 0 k).put EGA.TB_STAT_PEND 0 0 k).put EGA.TB_STAT_ARMED 0 0 k
  let b := (b.put EGA.TB_STAT_LINK_WAIT 0 0 k).setTb k {}
  b.each (b.legsOn k) (fun b leg =>
    let b := b.undefer leg
    let out := b.padOut leg
    let l := (b.leg leg).drive false false 0
    ((b.setLeg leg { l with own := false, window := false, frozen := none, held := none, cmdHi := false, cmdLo := false }).padMoved
      leg out).padRefresh leg)

/-- A write of `TB_CFG`. -/
def Block.tbCfg (b : Block) (k : Nat) (w : Word) : Block × Ack :=
  let was := b.on EGA.TB_CFG_EN 0 k
  let now := EGA.TB_CFG_EN.of w == 1
  let sync := EGA.TB_CFG_SYNC.of w
  let use := b.tbInUse k
  if was && !now && (use || b.xspHolds k) then (b, .refused 6)
  else if use ∧ (EGA.TB_CFG_DOUBLE.of w ≠ b.get EGA.TB_CFG_DOUBLE 0 k ∨ sync ≠ b.get EGA.TB_CFG_SYNC 0 k) then (b, .refused 6)
  else if !was && now then
    if 9 ≤ sync ∨ (1 ≤ sync ∧ (sync = k + 1 ∨ !b.tbRuns (sync - 1))) then (b, .refused 13)
    else if !b.xspAllows k (b.rd EGA.TB_PERIOD 0 k).toNat then (b, .refused 10)
    else ((b.store EGA.TB_CFG w 0 k).tbStarts k, .ok)
  else if was && !now then ((b.store EGA.TB_CFG w 0 k).tbStops k, .ok)
  else (b.store EGA.TB_CFG w 0 k, .ok)

/-- The time-stamp and the count of a meridian tick. -/
def Block.meridianStamp (b : Block) (k : Nat) : Block :=
  (b.put EGA.TB_MCOUNT_COUNT (b.get EGA.TB_MCOUNT_COUNT 0 k + 1) 0 k).stamp EGA.TB_MTS_LO EGA.TB_MTS_HI 0 k

/-- A meridian tick of `k` fixes the first meridian of the constellations whose start awaits it (R130). -/
def Block.syncStarts (b : Block) (k : Nat) : Block :=
  b.each (List.range 8) (fun b j =>
    match (b.tb j).syncTo with
    | some (r, ofs) => if r = k then b.setTb j { b.tb j with syncTo := none, firstAt := some (b.now + ofs) } else b
    | none => b)

/-- The first meridian of a started constellation, which takes a period sealed since the start; after a wake the counts go on (R41, R145). -/
def tbFirstMeridian (k : Nat) (b : Block) : Block :=
  let t := b.tb k
  if !b.running || !decide (k < 8) || !b.tbRuns k || !t.starting then b
  else
    let b := b.setTb k { t with
      starting := false, dbl := b.on EGA.TB_CFG_DOUBLE 0 k, anti := false, wasRunning := false, phase := 0, syncTo := none, firstAt := none }
    let b := ((b.takePeriod k).pendPeriod k).syncStarts k
    if t.wasRunning then (b.halfTick k).meridianStamp k
    else ((b.put EGA.TB_MCOUNT_COUNT 0 0 k).meridianStamp k).wr LEA.TB_SCNT 0 0 k

/-- A meridian or antimeridian tick. Without double update the period has no antimeridian (R129). -/
def constellationTick (k : Nat) (anti : Bool) (b : Block) : Block :=
  let t := b.tb k
  if !b.running || !decide (k < 8) || !b.tbRuns k || t.starting || (anti && !t.dbl) then b
  else
    let b := b.halfTick k
    if anti then b.setTb k { b.tb k with anti := true }
    else
      let b := b.meridianStamp k
      let b := ((if t.took then b else b.passMeridian k).pendPeriod k).syncStarts k
      b.setTb k { b.tb k with anti := false, took := false, dbl := b.on EGA.TB_CFG_DOUBLE 0 k }

/-! ## Register writes of the EGA page (R158) -/

/-- EN reaches the legs of stopped constellations at once (R158). -/
def Block.egaCtl (b : Block) (w : Word) : Block :=
  let b := b.store EGA.EGA_CTL w
  let en := b.on EGA.EGA_CTL_EN
  b.each ((List.range b.numLegs).filter (fun leg => !b.tbRuns (b.legTb leg))) (fun b leg =>
    let l := b.leg leg
    let out := b.padOut leg
    (b.setLeg leg (if en then { l with en := true }
      else { l.drive false false 0 with en := false, cmdHi := false, cmdLo := false })).padMoved leg out)

def Block.egaWrite (b : Block) (r : Reg) (j : Nat) (w : Word) : Block × Ack :=
  if r = EGA.EGA_CTL then (b.egaCtl w, .ok)
  else if r = EGA.GROUP_GO0 then b.groupGo false w
  else if r = EGA.GROUP_GO1 then b.groupGo true w
  else if r = EGA.TB_CFG then b.tbCfg j w
  else if r = EGA.TB_PERIOD then
    (if w.toNat < 80000 ∨ 320000000 < w.toNat then (b, .refused 5) else (b.store r w 0 j, .ok))
  else if r = EGA.TB_GO then b.tbGo j w
  else (b.store r w 0 j, .ok)

end Sys2Proof.Machine
end

