-- ==== Sys2Proof/Machine/Sampling.lean ====
section
/-!
DEFINITION. Sample placement, the current converters, bus and housekeeping converters (R176 to R184, R188 to R191). Positions are in
fine steps from the axis's local meridian.
-/

namespace Sys2Proof.Machine

/-! ## The span of a sample (R14, R179, R232) -/

/-- Governing commit and latest hold of the sample whose set the meridian or antimeridian commits, from the local meridian. -/
def Block.sampleSpan (b : Block) (a slot : Nat) (anti : Bool) : Option (Int × Int) :=
  let k := b.axTb a
  let p := b.period k
  let dbl := (b.tb k).dbl
  let shift := 64 * staggerLclk (b.get ⟨AX.AX_CFG3, 0, 16⟩ a) p
  let h := halfLen p dbl
  (halves p dbl).findSome? (fun x =>
    let t := x.1 + x.2.2.1.foldl max 0 + 1024 * slot
    let d := nextCommit p dbl shift t - t
    let c : Nat := (t + d + p - shift % p) % p
    if (c ≠ 0) = anti then
      let e : Int := if anti then (h : Int) else (p : Int)
      let g : Int := e - h
      some (g, e - d - 55 * 64)
    else none)

/-- `AXS_LATEST_M` or `AXS_LATEST_A` (R190). -/
def Block.latest (b : Block) (a : Nat) (anti : Bool) : Nat :=
  match b.curCtx a with
  | some c =>
    match b.sampleSpan a (b.get LC.LC_SLOT_SLOT c) anti with
    | some (_, l) => (l / 64).toNat
    | none => 0
  | none => 0

/-! ## Quiet windows (R177, R179) -/

/-- Whether a leg has edges: EGA places them under an override too (R155). -/
def Block.switches (b : Block) (leg : Nat) : Bool :=
  let l := b.leg leg
  b.legOwner leg != 0 && l.works && b.tbRuns (b.legTb leg)

/-- The disturbed interval round an edge of a leg at `t`, falling or rising. -/
def Block.disturbed (b : Block) (a leg : Nat) (t : Int) (falling : Bool) : Int × Int :=
  let l := b.leg leg
  let settle := if falling then l.settleFall else l.settleRise
  let ring := 32 * b.get SC.RING_RING_MAX (leg / 2) (leg % 2)
  (t - 320 * b.effGet SNS.AXS_CFG_PRE_GUARD 0 a, t + settle + ring + 320 * b.effGet SNS.AXS_CFG_SETTLE 0 a)

/-- The edges that the active set gives a leg in a period: position, and whether it falls. A boundary of the period is no edge, and a set
whose high side does not change state has none (R134, R135). -/
def Block.legEdges (b : Block) (leg : Nat) : List (Nat × Bool) :=
  let p := b.period (b.legTb leg)
  let s := b.active leg
  let form := b.get LEG.LEG_CFG_FORM leg
  let ((on, z), _) := b.placed leg s (b.leg leg).iActive
  let still := s.shape form = 0 || on = z || (form = 2 && decide (s.c2.toNat % 4 < 2))
  if still then [] else [(on, false), (z, true)].filter (fun e => 0 < e.1 && e.1 < p)

/-- The edges of a leg in its present period: as `legEdges`, but for an edge that the servo delays from the last commit, and those of the set that
it delays with it (R135, R170). -/
def Block.legEdgesNow (b : Block) (leg : Nat) : List (Nat × Bool) :=
  let l := b.leg leg
  match l.held with
  | none => b.legEdges leg
  | some (c, q) =>
    let k := b.legTb leg
    let (g, _) := commitSpan (b.tb k).dbl (b.period k) q
    let after := (b.setCommands leg (b.active leg) l.iActive q).1
    (if after != c.1 then [(q, !after)] else []) ++ (b.legEdges leg).filter (fun e => decide (e.1 ≤ g) || decide (q < e.1))

/-- The present time seen from an axis's local meridian, in fine steps, by the time-stamp of the last meridian tick. -/
def Block.nowFrom (b : Block) (a : Nat) : Int :=
  let k := b.axTb a
  let ts : Int := (b.rd EGA.TB_MTS_LO 0 k).toNat + (b.rd EGA.TB_MTS_HI 0 k).toNat * 2 ^ 32
  64 * ((b.now : Int) - ts) - 64 * staggerLclk (b.get ⟨AX.AX_CFG3, 0, 16⟩ a) (b.period k)

/-- The disturbed intervals of a leg's edges in a span, the leg's meridian standing at `off` (R179). -/
def Block.legIntervals (b : Block) (a leg : Nat) (off lo hi : Int) : List (Int × Int) :=
  let p := b.period (b.legTb leg)
  if !b.switches leg || p == 0 then []
  else
    let n0 := (lo - off) / (p : Int) - 1
    let n := ((hi - lo) / (p : Int)).toNat + 4
    let present := (b.nowFrom a - off) / (p : Int)
    ((List.range n).map (fun (i : Nat) =>
      let m := n0 + (i : Int)
      let base := off + m * (p : Int)
      (if m = present then b.legEdgesNow leg else b.legEdges leg).filterMap (fun e =>
        let t := base + e.1
        if lo ≤ t && t ≤ hi then some (b.disturbed a leg t e.2) else none))).flatten

/-- Where the local meridian of a leg stands seen from an axis's local meridian, by the time-stamps of the last ticks. -/
def Block.meridianOffset (b : Block) (a leg : Nat) : Int :=
  let k := b.axTb a
  let j := b.legTb leg
  let ts (n : Nat) : Int := (b.rd EGA.TB_MTS_LO 0 n).toNat + (b.rd EGA.TB_MTS_HI 0 n).toNat * 2 ^ 32
  let sh (n stg : Nat) : Int := 64 * staggerLclk stg (b.period n)
  (if j = k then 0 else 64 * (ts j - ts k)) + sh j (b.get LEG.LEG_CFG_STAGGER leg) - sh k (b.get ⟨AX.AX_CFG3, 0, 16⟩ a)

/-- Every disturbed interval of a sample, the edges of `skip` left out (R181). A leg of another axis whose pad is under an override is not seen
(R202). -/
def Block.intervals (b : Block) (a : Nat) (skip : Option Nat) (lo hi : Int) : List (Int × Int) :=
  let own := b.axLegs a
  let neigh := if b.effGet SNS.AXS_CFG_NEIGH 0 a = 1 then
      (List.range b.numLegs).filter (fun leg => !own.contains leg && b.legOwner leg != 0 && (b.pad leg).2 == 0 &&
        b.ns SC.NS_CFG_BUS leg == b.axBus a)
    else []
  ((own.filter (fun leg => some leg ≠ skip)).map (fun leg => b.legIntervals a leg 0 lo hi)).flatten ++
    (neigh.map (fun leg => b.legIntervals a leg (b.meridianOffset a leg) lo hi)).flatten

/-- The part of the gaps after an interval is taken out. -/
def cutGap (gaps : List (Int × Int)) (d : Int × Int) : List (Int × Int) :=
  (gaps.map (fun g =>
    (if g.1 < d.1 then [(g.1, min g.2 d.1)] else []) ++ (if d.2 < g.2 then [(max g.1 d.2, g.2)] else []) )).flatten.filter
      (fun g => g.1 < g.2)

/-- A position rounded down to an LCLK edge, the meridian that positions count from standing `phase` fine steps after one (R131). -/
def floorLclk (phase : Nat) (t : Int) : Int := (t + phase) / 64 * 64 - phase

/-- The quiet windows of a span, each with its end rounded down to an LCLK edge. -/
def quietWindows (phase : Nat) (lo hi : Int) (ds : List (Int × Int)) : List (Int × Int) :=
  if lo < hi then (ds.foldl cutGap [(lo, hi)]).map (fun g => (g.1, floorLclk phase g.2)) else []

/-- The longest window of at least `need`, the later of two of one length. -/
def bestWindow (ws : List (Int × Int)) (need : Int) : Option (Int × Int) :=
  ws.foldl (fun best w =>
    if w.2 - w.1 < need then best
    else
      match best with
      | none => some w
      | some v =>
        let lw := w.2 - w.1
        let lv := v.2 - v.1
        if lv < lw ∨ (lv = lw ∧ v.2 < w.2) then some w else best) none

/-- The spacing in force, in fine steps (R177, R179). -/
def Block.holdSpace (b : Block) (a : Nat) : Nat :=
  let legs := b.axLegs a
  let shared := legs.any (fun leg => b.legOwner (if leg % 2 = 0 then leg + 1 else leg - 1) != 0)
  max (320 * b.effGet SNS.AXS_CFG_OS_SPACE 0 a) (if shared then 3200 else 1600)

/-- The hold of a sample: window, count of holds, and the pair with its third leg under RECON; none is HELD (R179 to R181). -/
def Block.placeHold (b : Block) (a : Nat) (lo hi : Int) : Option ((Int × Int) × Nat × Option (Nat × Nat × Nat)) :=
  let s := b.holdSpace a
  let want := max 1 (b.effGet SNS.AXS_CFG_OS_N 0 a)
  let phase := (b.tb (b.axTb a)).phase
  let ws := quietWindows phase (lo + 640) hi (b.intervals a none (lo + 640) hi)
  let tryN := (List.range want).findSome? (fun i =>
    let n := want - i
    (bestWindow ws (640 + ((n - 1) * s : Nat))).map (fun w => (w, n)))
  match tryN with
  | some (w, n) => some (w, n, none)
  | none =>
    if b.effGet SNS.AXS_CFG_FALLBACK 0 a ≠ 1 then none
    else
      match b.axLegs a with
      | [x, y, z] =>
        let one (p q r : Nat) : Option ((Int × Int) × Nat × Option (Nat × Nat × Nat)) :=
          (bestWindow (quietWindows phase (lo + 640) hi (b.intervals a (some r) (lo + 640) hi)) 640).map (fun w => (w, 1, some (p, q, r)))
        [one x y z, one x z y, one y z x].foldl (fun best c =>
          match best, c with
          | none, c => c
          | some v, some w =>
            let lv := v.1.2 - v.1.1
            let lw := w.1.2 - w.1.1
            if lv < lw ∨ (lv = lw ∧ v.1.2 < w.1.2) then some w else some v
          | some v, none => some v) none
      | _ => none

/-! ## The hold (R180 to R183, R301) -/

/-- A HELD or RECON sample counted; the persistence of R181. -/
def Block.fallback (b : Block) (a : Nat) (yes : Bool) : Block :=
  let s := b.sample a
  if !yes then b.setSample a { s with fallbacks := 0 }
  else
    let n := s.fallbacks + 1
    let b := (b.setSample a { s with fallbacks := n }).bump SNS.AXS_CNT_FALLBACKS SNS.AXS_CNT_OVF 0 a
    if n = b.get SNS.SNS_CTL_FB_LIMIT then (b.evt 0x10 2).raise 0x1A (0x60 + a) else b

/-- A hold enters a converter: after those that closed before it, and leg A before a leg B of another axis that closed with it
(R176). -/
def enqueue (q : List HoldSt) (h : HoldSt) : List HoldSt :=
  let late := (q.reverse.takeWhile (fun x => h.leg % 2 == 0 && x.leg % 2 == 1 && x.axis != h.axis && x.at' == h.at')).reverse
  q.take (q.length - late.length) ++ [h] ++ late

/-- One hold of each leg of an axis enters its converter; a fenced converter takes none (R16, R176). -/
def Block.enqueueHolds (b : Block) (a : Nat) : Block :=
  let legs := (b.axLegs a).filter (fun leg => !b.fenced (0xB0 + leg / 2))
  let k := (b.sample a).sample
  b.each legs (fun b leg => b.setConv (leg / 2) (enqueue (b.conv (leg / 2)) ⟨leg, a, k, b.now⟩))

/-- A node comparator of the axis changed within 40 ns (R182). -/
def Block.recentNode (b : Block) (a : Nat) : Bool :=
  (b.axLegs a).any (fun leg => let l := b.leg leg; l.nodeSeen && decide (b.now ≤ l.nodeTs + 10))

/-- The bits of `AXS_REC`. -/
def recWord (lead : Nat) (held recon reduced dist : Bool) (used : Nat) : Word :=
  BitVec.ofNat 32 (min lead (2 ^ 23 - 1) + (if held then 2 ^ 25 else 0) + (if recon then 2 ^ 26 else 0) +
    (if reduced then 2 ^ 27 else 0) + (if dist then 2 ^ 28 else 0) + (used - 1) * 2 ^ 29)

/-- What the last hold of a sample brings: the channel's latch, the bus result and the time-stamp (R183, R184, R301). -/
def Block.lastHold (b : Block) (a : Nat) : Block :=
  let b := if b.axFbEn a then b.fbLatch (b.axFb a) else b
  b.setSample a { b.sample a with vbus := b.get SNS.VB_RES_VALUE 0 (b.axBus a), holdTs := b.now, placed := true }

/-- A sample begins: its holds are placed and its record is formed; without a window it is HELD and makes no hold (R179 to R181). -/
def Block.sampleBegin (b : Block) (a : Nat) (anti : Bool) (g l : Int) : Block :=
  let s := b.sample a
  let b := b.setSample a { s with
    sample := s.sample + 1, used := 0, series := 0, sums := [], recon := none, anti := anti, disturbed := false }
  match b.placeHold a g l with
  | none => ((b.wr SNS.AXS_REC (recWord 0 true false false false 1) 0 a).fallback a true).lastHold a
  | some (w, n, rec) =>
    let lead := ((floorLclk (b.tb (b.axTb a)).phase l - w.2) / 64).toNat
    let b := b.wr SNS.AXS_REC
      (recWord lead false rec.isSome (rec.isNone && decide (n < max 1 (b.effGet SNS.AXS_CFG_OS_N 0 a))) false n) 0 a
    let b := (b.put SNS.AXS_WIN_LCLK ((w.2 - w.1) / 64).toNat 0 a).fallback a rec.isSome
    b.setSample a { b.sample a with recon := rec, used := n, series := n }

/-- One hold of the series closes on every leg of the axis; the last completes the record (R180, R182, R183). -/
def Block.seriesHold (b : Block) (a : Nat) : Block :=
  let s := b.sample a
  if s.series = 0 then b
  else
    let dist := s.disturbed || b.recentNode a
    let b := (b.setSample a { s with series := s.series - 1, disturbed := dist }).enqueueHolds a
    if s.series = 1 then ((b.flag SNS.AXS_REC_DISTURBED dist 0 a).stamp SNS.AXS_TS_LO SNS.AXS_TS_HI 0 a).lastHold a else b

/-- The sample-holds of an axis close at a placed instant: the first hold of a sample places its series, whose other holds follow at the
spacing in force, one SAMPLE_HOLD each (R179 to R183). -/
def sampleHold (a : Nat) (anti : Bool) (b : Block) : Block :=
  if !b.awake || b.mode == 0 || !b.on SNS.SNS_CTL_EN || b.fenced 0x10 || !(b.liveAxes.contains a) || !b.tbRuns (b.axTb a) then b
  else
    match b.curCtx a with
    | none => b
    | some c =>
      match b.sampleSpan a (b.get LC.LC_SLOT_SLOT c) anti with
      | none => b
      | some (g, l) =>
        let s := b.sample a
        (if s.series = 0 || s.anti != anti then b.sampleBegin a anti g l else b).seriesHold a

/-! ## Conversions (R176, R178, R184) -/

/-- A converted word corrected by an offset and a gain trim (R176). -/
def corrected (raw off gain : Int) : Int := divRne ((raw - off) * (65536 + gain)) 65536

/-- The mean of a leg's results once the last of its `used` holds is converted (R180). -/
def SampleSt.mean (s : SampleSt) (leg : Nat) : Option Int :=
  match s.sums.find? (fun x => x.1 == leg) with
  | some x => if x.2.2 = s.used then some (satS 14 (divRne x.2.1 x.2.2)) else none
  | none => none

/-- The result of a leg reaches the input latch once it is complete, and that of the third leg of a RECON sample once those of the pair are
(R16, R180, R181). -/
def Block.deliver (b : Block) (a leg : Nat) : Block :=
  let s := b.sample a
  let put (b : Block) (leg : Nat) (v : Option Int) : Block :=
    match v with
    | some v => b.setLeg leg { b.leg leg with iLatch := v }
    | none => b
  match s.recon with
  | none => put b leg (s.mean leg)
  | some (p, q, r) =>
    if leg = r then b
    else
      let b := put b leg (s.mean leg)
      match s.mean p, s.mean q with
      | some x, some y => put b r (some (satS 14 (-(x + y))))
      | _, _ => b

/-- The legs of the axis's live sets whose result the coming run uses and finds missing (R16, R204). -/
def Block.missingLegs (b : Block) (a : Nat) : List Nat :=
  let s := b.sample a
  let legs := b.liveLegs a
  if !s.placed || s.series != 0 then legs
  else
    match s.recon with
    | some (p, q, r) =>
      if (s.mean p).isNone || (s.mean q).isNone then legs.filter (fun leg => leg == r || (s.mean leg).isNone) else []
    | none => if s.used = 0 then [] else legs.filter (fun leg => (s.mean leg).isNone)

/-- A current conversion completes. -/
def conversionDone (k : Nat) (raw : BitVec 14) (b : Block) : Block :=
  if !b.awake || b.mode == 0 || !decide (k < b.numConv) || b.fenced (0xB0 + k) then b
  else
    match b.conv k with
    | [] => b
    | h :: rest =>
      let v := satS 14 (corrected (sx 14 raw.toNat) (sx 10 (b.get SC.SC_CAL_OFFSET k)) (sx 10 (b.get SC.SC_CAL_GAIN k)))
      let b := b.setConv k rest
      let b := if h.leg % 2 = 0 then (b.put SC.RES_A_VALUE (ux 14 v) k).wrapInc SC.RES_A_SEQ k
        else (b.put SC.RES_B_VALUE (ux 14 v) k).wrapInc SC.RES_B_SEQ k
      let s := b.sample h.axis
      if s.sample ≠ h.sample ∨ s.used = 0 then b
      else
        let sums := match s.sums.find? (fun x => x.1 == h.leg) with
          | some x => (h.leg, x.2.1 + v, x.2.2 + 1) :: s.sums.filter (fun y => y.1 != h.leg)
          | none => (h.leg, v, 1) :: s.sums
        (b.setSample h.axis { s with sums := sums }).deliver h.axis h.leg

/-- Both self-test results lie within 16 LSB of their expected values (R178). -/
def selftestOk (d0 dh : Int) : Bool := decide (d0.natAbs ≤ 16) && decide (dh.natAbs ≤ 16)

/-- The self-test conversions of a converter, as deviations from their expected values (R178). -/
def converterSelftest (k : Nat) (d0 dh : Int) (b : Block) : Block :=
  if !b.awake || b.mode == 0 || !decide (k < b.numConv) || !b.on SC.SC_CTL_SELFTEST k || b.fenced (0xB0 + k) then b
  else
    let dev := if d0.natAbs ≤ dh.natAbs then dh else d0
    let ok := selftestOk d0 dh
    let b := (b.put SC.SC_STAT_SELF_DEV (ux 16 (satS 16 dev)) k).flag SC.SC_STAT_SELF_OK ok k
    if ok then b else (b.evt (0xB0 + k) 8).raise 0x1B (0xB0 + k)

def converterSelftestSkip (k : Nat) (b : Block) : Block :=
  if !b.awake || b.mode == 0 || !decide (k < b.numConv) || !b.on SC.SC_CTL_SELFTEST k || b.fenced (0xB0 + k) then b
  else b.put SC.SC_STAT_SELF_OK 1 k

/-- A bus-voltage conversion ends. -/
def busConversionDone (n : Nat) (raw : BitVec 14) (b : Block) : Block :=
  if !b.awake || b.mode == 0 || !b.on SNS.SNS_CTL_EN || !decide (n < 8) || b.fenced 0x10 then b
  else
    let v := (clampI 0 16383 (corrected raw.toNat (sx 10 (b.get SNS.VB_CAL_OFFSET 0 n)) (sx 10 (b.get SNS.VB_CAL_GAIN 0 n)))).toNat
    let b := (b.put SNS.VB_RES_VALUE v 0 n).wrapInc SNS.VB_RES_SEQ 0 n
    let need := 2 ^ b.get SNS.VB_CFG_FILT 0 n
    let s := b.bus n
    let ov := decide (b.get SNS.VB_CFG_OV 0 n < v)
    let uv := decide (v < b.get SNS.VB_CFG_UV 0 n)
    let s' : BusSt := { s with ov := if ov then min need (s.ov + 1) else 0, uv := if uv then min need (s.uv + 1) else 0 }
    let b := (b.setBus n s').each ((List.range b.numLegs).filter (fun leg => b.ns SC.NS_CFG_BUS leg == n)) Block.formThresholds
    let inside := !ov && !uv
    let b := if inside then b.setMap SNS.SNS_STAT_BUS_OV n false
      else if ov && need ≤ s'.ov && !b.mapBit SNS.SNS_STAT_BUS_OV n then
        ((b.setMap SNS.SNS_STAT_BUS_OV n true).evt 0x10 0).raiseWith ⟨0x17, 0x10 + 0x1000 * n, 0x10000, 7, 0⟩
      else b
    if inside then b.setMap SNS.SNS_STAT_BUS_UV n false
    else if uv && need ≤ s'.uv && !b.mapBit SNS.SNS_STAT_BUS_UV n then
      ((b.setMap SNS.SNS_STAT_BUS_UV n true).evt 0x10 1).raiseWith ⟨0x18, 0x10 + 0x1000 * n, 0x10000, 7, 0⟩
    else b

/-- Whether a housekeeping input is scanned. -/
def Block.hkScanned (b : Block) (ch : Nat) : Bool :=
  if ch < 24 then b.mapBit SNS.HK_CTL0_EN ch
  else if ch < 40 then b.mapBit SNS.HK_CTL1_TS (ch - 24)
  else if ch < 48 then b.mapBit SNS.HK_CTL1_HKX (ch - 40)
  else ch == 48 && b.on SNS.HK_CTL1_DIE

/-- A housekeeping conversion ends. -/
def hkConversionDone (ch : Nat) (raw : BitVec 12) (b : Block) : Block :=
  if !b.awake || b.mode == 0 || !b.on SNS.SNS_CTL_EN || b.fenced 0x10 || !b.hkScanned ch then b
  else
    let off := if ch < 24 then SNS.HK_CAL0_OFFSET else SNS.HK_CAL1_OFFSET
    let gain := if ch < 24 then SNS.HK_CAL0_GAIN else SNS.HK_CAL1_GAIN
    let v := (clampI 0 4095 (corrected raw.toNat (sx 10 (b.get off)) (sx 10 (b.get gain)))).toNat
    let b := (b.put SNS.HK_RES_VALUE v 0 ch).wrapInc SNS.HK_RES_SEQ 0 ch
    if ch = 48 then
      b.put SNS.DIE_TEMP_TEMP
        (ux 12 (satS 12 (Config.dieTemp raw.toNat (sx 10 (b.get SNS.DIE_CAL_OFFSET)) (sx 10 (b.get SNS.DIE_CAL_SLOPE)))))
    else b

/-! ## Register writes of the SNS page (R184, R189, R190) -/

/-- The waiting `AXS_CFG` of an axis takes effect at its commit. -/
def Block.undeferAxs (b : Block) (leg : Nat) : Block :=
  match b.axisOf leg with
  | some a => { b with deferred := Tab.set none b.deferred (SNS.AXS_CFG.addr 0 a) none }
  | none => b

def Block.axsCfgWrite (b : Block) (a : Nat) (w : Word) : Block × Ack :=
  if b.axState a = 0 then (b, .refused 10)
  else if 8 < SNS.AXS_CFG_OS_N.of w ∨ SNS.AXS_CFG_OS_SPACE.of w < 5 then (b, .refused 9)
  else if SNS.AXS_CFG_FALLBACK.of w = 1 ∧ (b.axLegs a).length ≠ 3 then (b, .refused 8)
  else
    let old := b.eff SNS.AXS_CFG 0 a
    let b := b.store SNS.AXS_CFG w 0 a
    (if b.tbRuns (b.axTb a) then { b with deferred := Tab.set none b.deferred (SNS.AXS_CFG.addr 0 a) (some old) } else b, .ok)

def Block.snsWrite (b : Block) (r : Reg) (j : Nat) (w : Word) : Block × Ack :=
  if r = SNS.AXS_CFG then b.axsCfgWrite j w
  else if r = SNS.AXS_CNT then (if slice w 31 1 = 1 then b.wr r 0 0 j else b, .ok)
  else if r = SNS.VB_CFG then ((b.store r w 0 j).setBus j { b.bus j with ov := 0, uv := 0 }, .ok)
  else (b.store r w 0 j, .ok)

end Sys2Proof.Machine
end

