-- ==== Sys2Proof/Machine/Axes.lean ====
section
/-!
DEFINITION. CFU's mailboxes, the creation, re-forming and destruction of axes, and the command pins (R192 to R214, R252 to R254).
-/

namespace Sys2Proof.Machine

/-! ## What an axis runs (R195, R252, R253) -/

/-- The programs of an axis with their divider exponents, in the order of R252. `opt` is the word of `CRT_OPT`. -/
def progList (comm sets : Nat) (fbEn : Bool) (opt : Word) : List (Nat × Nat) :=
  let want (f : Fld) : Bool := f.of opt == 1
  let outer (f : Fld) (id : Nat) (d : Fld) : List (Nat × Nat) := if want f then [(id, d.of opt)] else []
  let plaus := if want CFU.CRT_OPT0_PLAUS then [(0x18, 0)] else []
  let fwk := [(0x22, CFU.CRT_OPT0_DIV_FWK.of opt)]
  let spd := outer CFU.CRT_OPT0_SPD 0x20 CFU.CRT_OPT0_DIV_SPD
  let pos := outer CFU.CRT_OPT0_POS 0x21 CFU.CRT_OPT0_DIV_POS
  let biq := outer CFU.CRT_OPT0_BIQ4 0x23 CFU.CRT_OPT0_DIV_BIQ4
  let harm := outer CFU.CRT_OPT0_HARM 0x24 CFU.CRT_OPT0_DIV_HARM
  match comm with
  | 1 => [(sets, 0), (0x10, 0)] ++ plaus ++ fwk ++ spd ++ pos ++ biq ++ harm
  | 2 => [(sets, 0), (0x11, 0), (0x12, 0), (0x13, 0)] ++ plaus ++ fwk ++ spd ++ biq ++ harm
  | 3 => [(5, 0), (0x10, 0)] ++ spd
  | 4 => [(4, 0)]
  | 5 => [(6, 0)] ++ (if fbEn then [(0x10, 0)] else []) ++ spd ++ pos
  | _ => []

/-- The requests of `CRT_OPT` are allowed for the COMM, and its dividers are in range. -/
def optOk (comm : Nat) (fbEn : Bool) (opt : Word) : Bool :=
  let want (f : Fld) : Bool := f.of opt == 1
  let p := want CFU.CRT_OPT0_PLAUS
  let s := want CFU.CRT_OPT0_SPD
  let o := want CFU.CRT_OPT0_POS
  let q := want CFU.CRT_OPT0_BIQ4
  let h := want CFU.CRT_OPT0_HARM
  let allowed := match comm with
    | 1 => true
    | 2 => !o
    | 3 => !p && !o && !q && !h
    | 5 => !p && !q && !h && (fbEn || (!s && !o))
    | _ => !p && !s && !o && !q && !h
  allowed && (s || (!o && !q && !h)) &&
    [CFU.CRT_OPT0_DIV_SPD, CFU.CRT_OPT0_DIV_POS, CFU.CRT_OPT0_DIV_FWK, CFU.CRT_OPT0_DIV_BIQ4, CFU.CRT_OPT0_DIV_HARM].all
      (fun f => decide (f.of opt ≤ 8))

/-- COMM, leg count, MOD and channel go together (R195). -/
def commOk (comm legs mod : Nat) (fbEn : Bool) : Bool :=
  let three := legs == 3 || legs == 6 || legs == 9
  match comm with
  | 0 => mod == 7
  | 1 => three && decide (mod ≤ 3) && fbEn
  | 2 => three && decide (mod ≤ 3)
  | 3 => legs == 3 && mod == 4 && fbEn
  | 4 => three && decide (mod ≤ 3) && !fbEn
  | 5 => legs == 2 && (mod == 5 || mod == 6)
  | _ => false

/-- The commutation modes a channel mode serves (R292). -/
def fbSuits (mode comm : Nat) : Bool :=
  match mode with
  | 1 | 4 | 5 => [0, 1, 2, 5].contains comm
  | 2 => [0, 1, 2, 3, 5].contains comm
  | 3 => [0, 2, 3].contains comm
  | _ => false

/-! ## The checks of CREATE (R199) -/

/-- Parameters of a mailbox. -/
structure MbxArgs where
  legs : List Nat
  p2 : Word
  p3 : Word
  p4 : Word
  opt : Word
deriving DecidableEq, Repr

def Block.mbxArgs (b : Block) (i : Nat) : MbxArgs :=
  ⟨bitsOf (b.rd CFU.MBX_P0 0 i).toNat 32 ++ (bitsOf (b.rd CFU.MBX_P1 0 i).toNat 32).map (· + 32),
   b.rd CFU.MBX_P2 0 i, b.rd CFU.MBX_P3 0 i, b.rd CFU.MBX_P4 0 i, if i = 0 then b.rd CFU.CRT_OPT0 else b.rd CFU.CRT_OPT1⟩

namespace MbxArgs

def tb (g : MbxArgs) : Nat := CFU.MBX_P2_TB.of g.p2
def comm (g : MbxArgs) : Nat := CFU.MBX_P2_COMM.of g.p2
def fb (g : MbxArgs) : Nat := CFU.MBX_P2_FB.of g.p2
def fbEn (g : MbxArgs) : Bool := CFU.MBX_P2_FB_EN.of g.p2 == 1
def tmEn (g : MbxArgs) : Bool := CFU.MBX_P3_TM_EN.of g.p3 == 1
def progs (g : MbxArgs) : List (Nat × Nat) := progList g.comm (g.legs.length / 3) g.fbEn g.opt

end MbxArgs

/-- A refusal: code, resource kind and index. -/
abbrev MbxNo := Nat × Nat × Nat

/-- The first member of a list that holds, as a refusal. -/
def noAt (code kind : Nat) (l : List Nat) (p : Nat → Bool) : Option MbxNo := (l.find? p).map (fun n => (code, kind, n))

/-- The check of a ring that an axis attaches: STALE_HANDLE 18, RING_INVALID 16 or RING_BUSY 17. -/
def Block.ringNo (b : Block) (h ty : Nat) : Option MbxNo :=
  let n := h % 64
  match b.ringCheck h with
  | 2 => some (18, 6, n)
  | 3 => some (16, 6, n)
  | _ =>
    if b.ringState n ≠ 1 ∨ b.ringType n ≠ ty then some (16, 6, n)
    else if b.on RG.RG_STAT_ATTACHED n then some (17, 6, n) else none

/-- The lowest empty axis slot. -/
def Block.freeSlot (b : Block) : Option Nat := (List.range b.numAxes).find? (fun a => b.axState a == 0)

/-- Free contexts, ascending. -/
def Block.freeCtxs (b : Block) : List Nat := b.ctxs.filter (fun c => b.ctxSt c == 0)

/-- Steps 2 to 12 of R199: the first refusal. -/
def Block.createNo (b : Block) (g : MbxArgs) : Option MbxNo :=
  let mod := CFU.MBX_P2_MOD.of g.p2
  let fields := CFU.MBX_P2_SAFE_PAT.of g.p2 != 3 && CFU.MBX_P3_SP_SRC.of g.p3 != 3 &&
    (g.comm == 0 || (CFU.MBX_P3_FORMAT.of g.p3 == 0 && CFU.MBX_P3_LINK.of g.p3 == 0))
  let convs := (g.legs.map (· / 2)).eraseDups
  let other (leg : Nat) : Nat := if leg % 2 = 0 then leg + 1 else leg - 1
  let split (c : Nat) : Bool := g.legs.any (fun leg => leg / 2 == c && !g.legs.contains (other leg) &&
    b.legOwner (other leg) != 0 && b.legTb (other leg) != g.tb)
  let m := b.fbMode g.fb
  let steps : List (Option MbxNo) :=
    [if b.freeSlot.isNone then some (5, 1, 0) else none,
     if !([2, 3, 6, 9].contains g.legs.length) then some (6, 0, 0) else none,
     if commOk g.comm g.legs.length mod g.fbEn && fields then none else some (10, 0, 0),
     if optOk g.comm g.fbEn g.opt then none else some (36, 0, 0),
     noAt 7 2 g.legs (fun leg => decide (b.numLegs ≤ leg)),
     noAt 8 2 g.legs (fun leg => b.legOwner leg != 0),
     noAt 9 2 g.legs (fun leg => b.on LEG.LEG_FLT_HELD leg),
     if b.tbRuns g.tb then none else some (11, 8, g.tb),
     noAt 12 3 convs (fun c => b.fenced (0xB0 + c)),
     noAt 13 3 convs split,
     if !g.fbEn then none
      else if 24 ≤ g.fb || b.fenced (0x78 + g.fb) || !fbSuits m g.comm then some (14, 7, g.fb)
      else if b.on FB.FB_STAT_ATTACHED g.fb then some (15, 7, g.fb) else none,
     if CFU.MBX_P3_SP_SRC.of g.p3 = 0 then b.ringNo (CFU.MBX_P4_SP_RING.of g.p4) 0 else none,
     if g.tmEn then b.ringNo (CFU.MBX_P4_TM_RING.of g.p4) 1 else none,
     if b.freeCtxs.length < g.progs.length then some (20, 5, 0) else none]
  steps.findSome? id

/-- Step 13: every program placed, or the refusal with what `ADM_LAST` records. -/
def Block.createPlace (b : Block) (g : MbxArgs) : List Placed × Option (Nat × Nat × Nat) :=
  (b.placeEnv g.tb (CFU.MBX_P3_STAGGER.of g.p3) (b.get LEA.TB_CFG_LEAD 0 g.tb)).placeAll g.progs b.ents none

/-! ## Answers (R198, R213) -/

/-- A mailbox command is done. -/
def Block.mbxAnswer (b : Block) (i : Nat) (no : MbxNo) : Block :=
  let b := ((b.put CFU.MBX_RESULT_CODE no.1 0 i).put CFU.MBX_RESULT_RES_KIND no.2.1 0 i).put CFU.MBX_RESULT_RES_INDEX no.2.2 0 i
  let b := (b.put CFU.MBX_RESULT_OP (b.get CFU.MBX_CMD_OP 0 i) 0 i).put CFU.MBX_RESULT_BUSY 0 0 i
  ((b.wrapInc CFU.MBX_HANDLE_SEQ 0 i).evt 0xE i).setMbx i {}

/-- It waits for its meridian. -/
def Block.mbxWait (b : Block) (i a : Nat) : Block := b.setMbx i { stage := .waiting, axis := a }

/-- The modes that allow a mailbox command (R196). -/
def mbxMode (op mode : Nat) : Bool :=
  if op = 2 ∨ op = 4 then decide (1 ≤ mode) && decide (mode ≤ 4) else decide (1 ≤ mode) && decide (mode ≤ 3)

/-! ## DESTROY and REFORM (R203, R207, R208) -/

/-- DESTROY is checked, and accepted or answered. -/
def Block.mbxDestroy (b : Block) (i : Nat) : Block :=
  let h := b.get CFU.MBX_P0_P0 0 i % 65536
  let a := h % 32
  let st := b.axState a
  match b.handleCheck h with
  | some c => b.mbxAnswer i (c, 1, a)
  | none =>
    if b.get CFU.MBX_P1_P1 0 i % 2 = 0 ∧ (b.axLegs a).any (fun leg => (b.pad leg).1 != 1) then b.mbxAnswer i (22, 1, a)
    else if st = 1 ∨ st = 3 then b.mbxAnswer i (23, 1, a)
    else (b.put AX.AX_STATE_STATE 5 a).mbxWait i a

/-- REFORM is checked, and accepted or answered. -/
def Block.mbxReform (b : Block) (i : Nat) : Block :=
  let h := b.get CFU.MBX_P0_P0 0 i % 65536
  let a := h % 32
  let st := b.axState a
  let mask := b.get CFU.MBX_P1_P1 0 i % 8
  let live := b.get AX.AX_STATE_SETS_LIVE a
  match b.handleCheck h with
  | some c => b.mbxAnswer i (c, 1, a)
  | none =>
    if st = 1 ∨ st = 3 ∨ st = 5 then b.mbxAnswer i (23, 1, a)
    else if st = 4 ∨ b.get AX.AX_STATE_SETS a ≤ 1 ∨ !([1, 2, 4].contains (b.axComm a)) ∨ mask = 0 ∨ mask &&& live ≠ mask ∨ mask = live then
      b.mbxAnswer i (24, 1, a)
    else
      (b.mbxWait i a).setFault a (((bitsOf mask 3).map (fun j => b.setLegs a j)).flatten) 4

/-- The command of a mailbox starts; its checks end with MAILBOX_CHECKS_COMPLETE (R198). -/
def Block.mbxStart (b : Block) (i : Nat) : Block :=
  let op := b.get CFU.MBX_CMD_OP 0 i
  let b := b.put CFU.MBX_RESULT_QUEUED 0 0 i
  if op = 0 ∨ 4 < op then b.mbxAnswer i (3, 0, 0)
  else if !mbxMode op b.mode then b.mbxAnswer i (4, 0, 0)
  else b.setMbx i { stage := .checking, since := (b.mbx i).since }

/-- The command of a mailbox waits for that of the other. -/
def Block.mbxQueue (b : Block) (i : Nat) : Block :=
  (b.setMbx i { stage := .queued, since := (b.mbx i).since }).put CFU.MBX_RESULT_QUEUED 1 0 i

/-- The GO on mailbox `i` comes before that on the other: the earlier SCLK, and in one SCLK MBX1 (R197). -/
def Block.mbxFirst (b : Block) (i : Nat) : Bool :=
  let t := (b.mbx i).since / 2
  let u := (b.mbx (1 - i)).since / 2
  decide (t < u) || (t == u && i == 1)

/-- A GO on mailbox `i`. It starts where the other is idle and waits behind it otherwise; a GO on MBX1 in the SCLK in which that of MBX0 came
goes first (R197). -/
def Block.mbxGo (b : Block) (i : Nat) : Block :=
  let o := b.mbx (1 - i)
  let b := (b.put CFU.MBX_RESULT_BUSY 1 0 i).setMbx i { since := b.now }
  if o.stage = .idle then b.mbxStart i
  else if i = 1 ∧ o.stage = .checking ∧ b.mbxFirst 1 then (b.mbxQueue 0).mbxStart 1
  else b.mbxQueue i

/-! ## Writes of the mailbox (R197) -/

/-- Who may write mailbox `i`. -/
def mbxMaster (i : Nat) (m : Master) : Bool :=
  match m with
  | .hsp | .debug => i == 0
  | .spu => i == 1
  | _ => false

/-- The registers of a mailbox that its master writes while it is idle. -/
def mbxParams : List Reg := [CFU.MBX_CMD, CFU.MBX_P0, CFU.MBX_P1, CFU.MBX_P2, CFU.MBX_P3, CFU.MBX_P4]

def Block.mbxWrite (b : Block) (m : Master) (r : Reg) (i : Nat) (w : Word) : Block × Ack :=
  if !mbxMaster i m then (b, .refused 2)
  else if !mbxParams.contains r then (b.store r w 0 i, .ok)
  else if (b.mbx i).stage ≠ .idle then (b, .refused 1)
  else
    let b := b.store r w 0 i
    (if r = CFU.MBX_CMD ∧ CFU.MBX_CMD_GO.of w = 1 then b.mbxGo i else b, .ok)

/-- A queued command starts when the other mailbox's is done; of two that wait the one whose GO came first. -/
def mbxQueuedStart (i : Nat) (b : Block) : Block :=
  let o := (b.mbx (1 - i)).stage
  let x := b.mbx i
  if !b.awake || 2 ≤ i || x.stage != .queued || !(o == .idle || (o == .queued && b.mbxFirst i)) then b else b.mbxStart i

/-! ## An accepted CREATE (R200) -/

/-- `LEG_CFG` as CFU writes it. -/
def MbxArgs.legCfg (g : MbxArgs) : Word :=
  let mod := CFU.MBX_P2_MOD.of g.p2
  let form := if mod = 7 then 1 else if mod = 4 then 2 else 0
  let fmt := if g.comm = 0 then CFU.MBX_P3_FORMAT.of g.p3 else 0
  let link := if g.comm = 0 then CFU.MBX_P3_LINK.of g.p3 else 0
  BitVec.ofNat 32 (g.tb + 16 * form + 64 * fmt + 128 * link + 256 * CFU.MBX_P2_CHOP_EN.of g.p2 + 512 * CFU.MBX_P2_CHOP_MODE.of g.p2 +
    1024 * CFU.MBX_P2_CHOP_REL.of g.p2 + 4096 * CFU.MBX_P2_SAFE_PAT.of g.p2 + 65536 * CFU.MBX_P3_STAGGER.of g.p3)

/-- A context admitted for axis `a`: RESERVED (R246). -/
def Block.reserve (b : Block) (a tb sets : Nat) (tm dual : Bool) (c : Nat) (p : Placed) : Block :=
  let role := progRole p.prog
  let cfg := p.prog + 256 * a + 8192 * role + 65536 * p.divl + 2 ^ 20 * p.phase + (if dual then 2 ^ 28 else 0) +
    (if role = 0 then 2 ^ 29 * (2 ^ sets - 1) else 0)
  let b := b.wr LC.LC_CFG (BitVec.ofNat 32 cfg) c
  let b := b.wr LC.LC_SLOT (BitVec.ofNat 32 (p.slot + 2 ^ 20 * p.eng + 2 ^ 24 * p.partner.getD 0 + 2 ^ 28 * tb)) c
  let b := (b.wr LC.LC_STAT 1 c).put LC.LC_HANDLE_VALID 1 c
  (b.put LC.LC_TM_EN (if tm && role == 0 then 1 else 0) c).setLc c {}

/-- The context indices of an axis in allocation order. -/
def Block.axCtxList (b : Block) (a : Nat) (cs : List Nat) : Block :=
  let word (k : Nat) : Word := BitVec.ofNat 32 ((List.range 4).foldl (fun n i => n + 256 ^ i * cs.getD (4 * k + i) 255) 0)
  ((b.wr AX.AX_CTX0 (word 0) a).wr AX.AX_CTX1 (word 1) a).wr AX.AX_CTX2 (word 2) a

/-- Slot, contexts, legs' configuration, channel and rings of a new axis. -/
def Block.admitAxis (b : Block) (i a : Nat) (g : MbxArgs) (ps : List Placed) : Block :=
  let sets := if g.legs.length = 2 then 1 else g.legs.length / 3
  let b := ((b.put AX.AX_STATE_STATE 1 a).put AX.AX_STATE_SETS sets a).put AX.AX_HANDLE_VALID 1 a
  let b := b.wr AX.AX_LEGS_LO (BitVec.ofNat 32 (ofBits (g.legs.filter (· < 32)))) a
  let b := b.wr AX.AX_LEGS_HI (BitVec.ofNat 32 (ofBits ((g.legs.filter (32 ≤ ·)).map (· - 32)))) a
  let b := ((b.wr AX.AX_CFG g.p2 a).wr AX.AX_CFG3 g.p3 a).wr AX.AX_RINGS g.p4 a
  let b := (b.put AX.AX_FAILSET_PAT (CFU.MBX_P2_FAILSET.of g.p2) a).wr AX.AX_OPT g.opt a
  let b := b.each g.legs (fun b leg =>
    (b.wr LEG.LEG_CFG g.legCfg leg).put SC.NS_CFG_BUS (CFU.MBX_P2_BUS.of g.p2) (leg / 2) (leg % 2))
  let cs := b.freeCtxs.take ps.length
  let dual := b.get LEA.TB_CFG_DUAL 0 g.tb
  let b := (cs.zip ps).foldl (fun b x => b.reserve a g.tb sets g.tmEn (bit dual (progRole x.2.prog)) x.1 x.2) b
  let b := b.axCtxList a cs
  let b := if g.fbEn then (b.put FB.FB_STAT_ATTACHED 1 g.fb).put FB.FB_STAT_AXIS a g.fb else b
  let b := if CFU.MBX_P3_SP_SRC.of g.p3 = 0 then b.put RG.RG_STAT_ATTACHED 1 (CFU.MBX_P4_SP_RING.of g.p4 % 64) else b
  let b := if g.tmEn then b.put RG.RG_STAT_ATTACHED 1 (CFU.MBX_P4_TM_RING.of g.p4 % 64) else b
  (b.engineRefresh.planStart).mbxWait i a

/-- The checks of a mailbox command complete. -/
def mailboxChecksComplete (i : Nat) (b : Block) : Block :=
  let op := b.get CFU.MBX_CMD_OP 0 i
  if !b.awake || 2 ≤ i || (b.mbx i).stage != .checking then b
  else if op = 2 then b.mbxDestroy i
  else if op = 3 then b.mbxReform i
  else
    let g := b.mbxArgs i
    match b.createNo g with
    | some no => b.mbxAnswer i no
    | none =>
      match b.createPlace g with
      | (_, some (prog, reason, eng)) =>
        let b := ((b.put LEA.ADM_LAST_REASON reason).put LEA.ADM_LAST_ENG eng).put LEA.ADM_LAST_ROLE (progRole prog)
        ((b.put LEA.ADM_LAST_PROG prog).put LEA.ADM_LAST_TB g.tb).mbxAnswer i (21, 4, eng)
      | (ps, none) =>
        if op = 1 then b.admitAxis i (b.freeSlot.getD 0) g ps else b.mbxAnswer i (0, 0, 0)

/-- Sixteen LCLK after the meridian of an accepted command. -/
def mailboxDone (i : Nat) (b : Block) : Block :=
  let s := b.mbx i
  if !b.awake || 2 ≤ i || s.stage != .passed then b
  else
    let b := if b.get CFU.MBX_CMD_OP 0 i = 1 then b.put CFU.MBX_HANDLE_HANDLE (b.get AX.AX_HANDLE_HANDLE s.axis + s.axis) 0 i else b
    b.mbxAnswer i (0, 0, 0)

/-! ## Meridians of a mailbox command (R127, R200, R203, R206) -/

/-- The owner of a leg changes. -/
def Block.setOwner (b : Block) (leg owner axis : Nat) : Block :=
  let b := (b.put LEG.LEG_STAT_OWNER owner leg).put LEG.LEG_STAT_AXIS axis leg
  let b := ((b.put LEG.LEG_STAT_STAGED 0 leg).put LEG.LEG_STAT_PEND 0 leg).put LEG.LEG_STAT_FRESH 0 leg
  b.setLeg leg { b.leg leg with staged := none, pending := none, frozen := none }

/-- The commit meridian of a CREATE. -/
def axisCommitMeridian (a : Nat) (b : Block) : Block :=
  if !b.awake || !decide (a < b.numAxes) || b.axState a != 1 || !b.tbRuns (b.axTb a) then b
  else
    let owner := if b.axComm a = 0 then 2 else 1
    let legs := b.axLegs a
    let b := b.each legs (fun b leg =>
      let b := b.setOwner leg owner a
      b.setLeg leg { b.leg leg with masked := true, maskNext := none })
    let b := b.put AX.AX_STATE_STATE 2 a
    let b := (b.put AX.AX_STATE_SETS_LIVE (2 ^ b.get AX.AX_STATE_SETS a - 1) a).put AX.AX_STATE_LIVE_LEGS legs.length a
    let b := (b.stamp AX.AX_BORN_LO AX.AX_BORN_HI a).evt (0x60 + a) 0
    let from' := b.now + staggerLclk (b.get ⟨AX.AX_CFG3, 0, 16⟩ a) (b.period (b.axTb a))
    let b := b.each (b.axCtxs a) (fun b c =>
      if b.ctxSt c = 1 then (b.put LC.LC_STAT_ST 2 c).setLc c { b.lc c with liveFrom := from' } else b)
    let faults := (b.ax a).faults
    let b := b.setAx a { b.ax a with faults := [] }
    let b := (faults.foldl (fun b x => if b.axState a = 4 then b else b.applyFault a x.1 x.2) b).overridesChanged
    b.mbxPassed a

/-- The re-form meridian: the current program serves the healthy sets. -/
def axisReformMeridian (a : Nat) (b : Block) : Block :=
  if !b.awake || !decide (a < b.numAxes) || b.axState a != 3 || !b.tbRuns (b.axTb a) then b
  else
    let live := b.get AX.AX_STATE_SETS_LIVE a
    let b := b.put AX.AX_STATE_STATE 2 a
    let b := match b.curCtx a with
      | some c => b.put LC.LC_CFG_SETS live c
      | none => b
    let b := (b.bump CFU.REFORM_CNT_COUNT CFU.REFORM_CNT_OVF).evt (0x60 + a) 1
    ((b.raise 0x1C (0x60 + a)).planStart).mbxPassed a

/-- The registers of an axis page that return to their reset values at the destroy meridian (R203, R291). -/
def axResetRegs : List Reg :=
  [AX.AX_STATE, AX.AX_LEGS_LO, AX.AX_LEGS_HI, AX.AX_CFG, AX.AX_CFG3, AX.AX_RINGS, AX.AX_FAILSET, AX.AX_FAIL, AX.AX_FAIL_TS_LO,
   AX.AX_FAIL_TS_HI, AX.AX_CTX0, AX.AX_CTX1, AX.AX_CTX2, AX.AX_BORN_LO, AX.AX_BORN_HI, AX.AX_CMD, AX.AX_CMD_RES, AX.AX_DRV,
   AX.AX_OPT, AX.AX_START, AX.AX_TIME, AX.AX_TIME2] ++
  [AX.AX_UCG, AX.AX_STILL, AX.AX_STALL, AX.AX_STALL_T, AX.AX_I2T, AX.AX_I2T_MAX, AX.AX_I2T_ACC, AX.AX_DC, AX.AX_ALIGN_POS,
   AX.AX_EST, AX.AX_CATCH, AX.AX_LOSS_CNT, AX.AX_RIDE_CNT, AX.AX_STALL_CNT, AX.AX_SP_DROP, AX.AX_DRV_TS_LO, AX.AX_DRV_TS_HI]

/-- A context is released: FREE, slot released, generation advanced (R226, R246). -/
def Block.releaseCtx (b : Block) (c : Nat) : Block :=
  let g := (b.get LC.LC_HANDLE_HANDLE c / 256 + 1) % 256
  let b := ((b.wr LC.LC_STAT 0 c).wr LC.LC_CFG 0 c).wr LC.LC_SLOT 0 c
  ((b.put LC.LC_HANDLE_HANDLE (256 * g) c).put LC.LC_HANDLE_VALID 0 c).setLc c {}

/-- Pins whose target axis is destroyed (R211). -/
def Block.pinsStale (b : Block) (a : Nat) : Block :=
  let h := b.get AX.AX_HANDLE_HANDLE a + a
  b.each (List.range 24) (fun b n => if b.get CFU.CP_CFG_TARGET 0 n = h then b.put CFU.CP_FLAGS_TARGET_STALE 1 0 n else b)

/-- The destroy meridian, memory of the contexts apart. -/
def Block.destroy (b : Block) (a : Nat) : Block :=
  let legs := b.axLegs a
  let cs := b.axCtxs a
  let g := (b.get AX.AX_HANDLE_HANDLE a / 1024 + 1) % 64
  let b := (b.pinsStale a).sesCtxGone cs
  let b := if b.axFbEn a then (b.put FB.FB_STAT_ATTACHED 0 (b.axFb a)).put FB.FB_STAT_AXIS 0 (b.axFb a) else b
  let b := if b.get ⟨AX.AX_CFG3, 16, 2⟩ a = 0 then b.put RG.RG_STAT_ATTACHED 0 (b.get ⟨AX.AX_RINGS, 0, 16⟩ a % 64) else b
  let b := if b.on ⟨AX.AX_CFG3, 18, 1⟩ a then b.put RG.RG_STAT_ATTACHED 0 (b.get ⟨AX.AX_RINGS, 16, 16⟩ a % 64) else b
  let b := b.each legs (fun b leg =>
    let b := b.setOwner leg 0 0
    b.setLeg leg { b.leg leg with failPat := none, fcrPat := none })
  let b := b.each cs Block.releaseCtx
  let b := axResetRegs.foldl (fun b r => b.resetReg r a) (b.axUndefer a)
  let b := (b.put AX.AX_HANDLE_HANDLE (1024 * g) a).put AX.AX_HANDLE_VALID 0 a
  let b := (b.setAx a {}).setSample a {}
  let b := { b with pinSp := Tab.set none (Tab.set none b.pinSp (2 * a) none) (2 * a + 1) none }
  let b := b.setMap FCR.AX_SAFE_MAP_SLOT a false
  ((b.engineRefresh.planStart).padsRefresh).mbxPassed a

/-- The destroy meridian. -/
def State.axisDestroyMeridian (s : State) (a : Nat) : State :=
  let b := s.b
  if !b.awake || !decide (a < b.numAxes) || b.axState a != 5 || !b.tbRuns (b.axTb a) then s
  else
    let mem := (b.axCtxs a).foldl (fun m c => memClear m (0x490000 + 0x100 * c) (0x490100 + 0x100 * c)) s.mem
    { s with b := b.destroy a, mem := mem }

/-! ## Command pins (R209 to R211) -/

/-- The axis a pin delivers to. -/
def Block.cpAxis (b : Block) (n : Nat) : Option Nat :=
  let h := b.get CFU.CP_CFG_TARGET 0 n
  if b.get CFU.CP_CFG_MODE 0 n = 0 ∨ b.on CFU.CP_FLAGS_TARGET_STALE 0 n ∨ (b.handleCheck h).isSome then none else some (h % 32)

/-- A pin delivers a set-point. -/
def Block.cpDeliver (b : Block) (n y : Nat) : Block :=
  match b.cpAxis n with
  | some a =>
    { (b.put CFU.CP_STAT_Y y 0 n) with pinSp := Tab.set none b.pinSp (2 * a + b.get CFU.CP_CFG_QTY 0 n) (some y) }
  | none => b

/-- The set-point of a valid u (R210). -/
def Block.cpMap (b : Block) (n u : Nat) : Nat :=
  let d : Int := (u : Int) - b.get CFU.CP_IN_U_MID 0 n
  let db : Int := b.get CFU.CP_IN_DEADBAND 0 n
  let mid := sx 16 (b.get CFU.CP_OUT_Y_MID 0 n)
  if (d.natAbs : Int) ≤ db then ux 16 mid
  else
    let e := if 0 < d then d - db else d + db
    let y := divRne (mid * 65536 + sx 32 (b.get CFU.CP_SLOPE_SLOPE 0 n) * e) 65536
    ux 16 (clampI (sx 16 (b.get CFU.CP_LIM_Y_MIN 0 n)) (sx 16 (b.get CFU.CP_LIM_Y_MAX 0 n)) y)

/-- A measurement of a pin: u, and whether the signal is valid (R209). `high` and `period` in PCLK. A divisor FS of 0 leaves u
open. -/
def Block.cpMeasure (b : Block) (n high period : Nat) : Nat × Bool × Block :=
  match b.get CFU.CP_CFG_MODE 0 n with
  | 1 =>
    let u := 16 * b.get SNS.HK_RES_VALUE 0 n
    (u, decide (b.get CFU.CP_LOS_LOS_LO 0 n ≤ u) && decide (u ≤ b.get CFU.CP_LOS_LOS_HI 0 n), b)
  | 2 => (min 65535 (high * 65536 / period), decide (3125 ≤ period) && decide (period ≤ 1250000), b)
  | 3 =>
    let fs := (b.rd CFU.CP_LOS 0 n).toNat % 2 ^ 17
    let ok := decide (625 ≤ period) && decide (period ≤ 125000000)
    if fs = 0 then
      let (w, b) := b.draw
      (w.toNat % 65536, ok, b)
    else (min 65535 (62500000 * 65536 / (period * fs)), ok, b)
  | _ => (0, false, b)

/-- A pin takes a new measurement. -/
def cmdPinMeasure (n high period : Nat) (b : Block) : Block :=
  if !b.awake || b.mode == 0 || 24 ≤ n || b.get CFU.CP_CFG_MODE 0 n == 0 then b
  else
    let (u, ok, b) := b.cpMeasure n high period
    if !ok then { b with cpOk := setBit b.cpOk n false }
    else
      let b := b.put CFU.CP_STAT_U u 0 n
      if b.on CFU.CP_FLAGS_LOSS 0 n then b else b.cpDeliver n (b.cpMap n u)

/-- A pin's measurement stayed invalid for LOS_TIME. -/
def cmdLoss (n : Nat) (b : Block) : Block :=
  if !b.awake || b.mode == 0 || 24 ≤ n || b.get CFU.CP_CFG_MODE 0 n == 0 || b.on CFU.CP_FLAGS_LOSS 0 n then b
  else
    let b := (b.put CFU.CP_FLAGS_LOSS 1 0 n).bump CFU.CP_CNT_COUNT CFU.CP_CNT_OVF 0 n
    let b := if b.on CFU.CP_CFG_LATCH 0 n then b.put CFU.CP_FLAGS_LATCHED 1 0 n else b
    let b := { b.evt 0xE 2 with cpOk := setBit b.cpOk n false }
    let b := match b.cpAxis n with
      | some a => (b.evt (0x60 + a) 4).raiseWith ⟨0x1E, 0x60 + a + 0x1000 * n, (0x60 + a) * 4096, 7, 0⟩
      | none => b.raiseWith ⟨0x1E, 0xE + 0x1000 * n, 0xE000, 7, 0⟩
    if b.on CFU.CP_CFG_ACTION 0 n then b.cpDeliver n (b.get CFU.CP_OUT_Y_LOS 0 n) else b

/-- A pin's signal has been valid for RECOV. -/
def cmdPinRecover (n : Nat) (b : Block) : Block :=
  if !b.awake || b.mode == 0 || 24 ≤ n || !b.on CFU.CP_FLAGS_LOSS 0 n then b
  else if b.on CFU.CP_CFG_LATCH 0 n && b.on CFU.CP_FLAGS_LATCHED 0 n then { b with cpOk := setBit b.cpOk n true }
  else b.put CFU.CP_FLAGS_LOSS 0 0 n

/-- A write of `CP_CFG`. -/
def Block.cpCfg (b : Block) (n : Nat) (w : Word) : Block × Ack :=
  let h := CFU.CP_CFG_TARGET.of w
  let mode := CFU.CP_CFG_MODE.of w
  let taken := (List.range 24).any (fun k => k != n && b.get CFU.CP_CFG_MODE 0 k != 0 && b.get CFU.CP_CFG_TARGET 0 k == h &&
    b.get CFU.CP_CFG_QTY 0 k == CFU.CP_CFG_QTY.of w)
  if mode = 1 ∧ !b.mapBit SNS.HK_CTL0_EN n then (b, .refused 27)
  else
    match b.handleCheck h with
    | some c => (b, .refused c)
    | none =>
      if b.get ⟨AX.AX_CFG3, 16, 2⟩ (h % 32) ≠ 1 ∨ (mode ≠ 0 ∧ taken) then (b, .refused 26)
      else ((b.store CFU.CP_CFG w 0 n).put CFU.CP_FLAGS_TARGET_STALE 0 0 n, .ok)

/-- A write of `CP_FLAGS`: a latched loss that has recovered ends. -/
def Block.cpFlags (b : Block) (n : Nat) (w : Word) : Block :=
  let b := b.store CFU.CP_FLAGS w 0 n
  if CFU.CP_FLAGS_LATCHED.of w = 1 ∧ bit b.cpOk n then { (b.put CFU.CP_FLAGS_LOSS 0 0 n) with cpOk := setBit b.cpOk n false } else b

/-! ## Register writes of the CFU page (R213, R214, R253, R290) -/

def Block.cfuWrite (b : Block) (m : Master) (r : Reg) (j : Nat) (w : Word) : Block × Ack :=
  let new := r.merge false (b.rd r 0 j) w
  if r ∈ mbxParams ∨ r = CFU.MBX_RESULT ∨ r = CFU.MBX_HANDLE then b.mbxWrite m r j w
  else if r = CFU.CRT_OPT0 then (if (b.mbx 0).stage ≠ .idle then (b, .refused 1) else (b.store r w, .ok))
  else if r = CFU.CRT_OPT1 then (if (b.mbx 1).stage ≠ .idle then (b, .refused 1) else (b.store r w, .ok))
  else if r = CFU.REFORM_CNT ∨ r = CFU.CP_CNT then (if slice w 31 1 = 1 then b.wr r 0 0 j else b, .ok)
  else if r = CFU.CP_CFG then b.cpCfg j w
  else if r = CFU.CP_FLAGS then (b.cpFlags j w, .ok)
  else if r = CFU.CP_IN then (if 32767 < CFU.CP_IN_DEADBAND.of new then (b, .refused 28) else (b.store r w 0 j, .ok))
  else if r = CFU.CP_LIM then
    (if sx 16 (CFU.CP_LIM_Y_MAX.of new) < sx 16 (CFU.CP_LIM_Y_MIN.of new) then (b, .refused 28) else (b.store r w 0 j, .ok))
  else if r = CFU.CP_LOS then
    let fs := new.toNat % 2 ^ 17
    let bad := if b.get CFU.CP_CFG_MODE 0 j = 3 then fs = 0 || 100000 < fs else CFU.CP_LOS_LOS_HI.of new < CFU.CP_LOS_LOS_LO.of new
    (if bad then (b, .refused 28) else (b.store r w 0 j, .ok))
  else if r = CFU.CP_TIME then (if CFU.CP_TIME_LOS_TIME.of new = 0 then (b, .refused 28) else (b.store r w 0 j, .ok))
  else (b.store r w 0 j, .ok)

end Sys2Proof.Machine
end

