-- ==== Sys2Proof/Machine/Programs.lean ====
section
/-!
DEFINITION. The ROM programs (R221 to R224, R239 to R243, R254 to R287): what a run computes from what it reads at its start. A
quantity that is an operand of a later multiplication is a word, and a sum stays in its accumulator until then (R217, R218). Where the manual
names a law and leaves its form open, the form is the model's (DESIGN CHOICE, log entries 5, 94 and 95).
-/

namespace Sys2Proof.Machine

/-! ## Context memory (R224, R243) -/

def ctxBase (c : Nat) : Nat := 0x490000 + 0x100 * c

/-- Coefficient `k` of bank A. -/
def State.coef (s : State) (c k : Nat) : Nat := slice (memWord s.mem (ctxBase c + 0x40 + 4 * (k / 2))) (16 * (k % 2)) 16

/-- A coefficient in Q1.15. -/
def State.coefS (s : State) (c k : Nat) : Int := sx 16 (s.coef c k)

/-- State value `k` of a context: two words (R224). -/
def State.stateVal (s : State) (c k : Nat) : Int :=
  stateValue (memWord s.mem (ctxBase c + 8 * k)) (memWord s.mem (ctxBase c + 8 * k + 4))

/-! ## What the contexts of an axis hand on (R254, R255) -/

/-- The context a quantity goes to. -/
def Block.quantityCtx (b : Block) (a q : Nat) : Option Nat :=
  match q with
  | 0 => match b.spdCtx a with
    | some c => some c
    | none => b.ctxOf a [4]
  | 1 => match b.spdCtx a with
    | some c => some c
    | none => b.ctxOf a [1, 2, 3, 5, 6]
  | 2 => b.ctxOf a [0x21]
  | _ => none

/-- What the last completed run of a context of the axis gave. -/
def Block.lastOf (b : Block) (a : Nat) (ids : List Nat) : Option RunOut := (b.ctxOf a ids).map (fun p => (b.lc p).last)

/-- The value another context of the axis gives as this context's set-point: POS to SPD, SPD through BIQ4 and with HARM to the
current program; in STOPPING the speed target, or the frequency target of VF, is 0 (R255, R279). -/
def Block.cascade (b : Block) (c : Nat) : Option Int :=
  let a := b.get LC.LC_CFG_AXIS c
  let prog := b.get LC.LC_CFG_PROG c
  if prog = 0x20 then
    if b.drv a = 8 then some 0 else (b.lastOf a [0x21]).map (fun o => wide o.out)
  else if b.get LC.LC_CFG_ROLE c = 0 then
    match b.lastOf a [0x20] with
    | none => if b.drv a = 8 ∧ prog = 4 then some 0 else none
    | some v => some (wide (addQ (((b.lastOf a [0x23]).map RunOut.out).getD v.out) (((b.lastOf a [0x24]).map RunOut.out).getD 0)))
  else none

/-- r* of a context at this instant. -/
def Block.spTarget (b : Block) (c : Nat) : Int := (b.cascade c).getD (b.lc c).target

/-- W_TS of the axis's observer or VF program (R253). -/
def State.wTs (s : State) (a : Nat) : Nat :=
  match s.b.ctxOf a [0x10, 0x11, 4] with
  | some c => s.coef c 0
  | none => 0

/-- The bus voltage of the axis's sample, per unit without a gain (R253). -/
def Block.vBus (b : Block) (a : Nat) : Int := 2 * (b.sample a).vbus

/-- The bound of the current with the foldback of R276. -/
def Block.folded (b : Block) (a : Nat) (iMax : Int) : Int :=
  if b.on AX.AX_DRV_FOLD a then min iMax (sx 16 (b.axGet AX.AX_I2T_I_FOLD a)) else iMax

/-! ## The drive word (R255, R261 to R279) -/

/-- What CFU imposes on a current program: the angle, i_d*, i_q*, the short circuit, and cleared integrators. -/
structure DriveWord where
  theta : Option Nat := none
  iD : Option Int := none
  iQ : Option Int := none
  asc : Bool := false
  clear : Bool := false
deriving DecidableEq, Repr

/-- The drive word of an axis in its drive state; under the mask the integrators are cleared (R257). -/
def State.driveWord (s : State) (a : Nat) : DriveWord :=
  let b := s.b
  let x := b.ax a
  let iDc := sx 16 (b.axGet AX.AX_DC_I_DC a)
  let d : DriveWord := match b.drv a with
  | 2 =>
    if b.axComm a = 1 then { theta := some 0, iD := some iDc, iQ := some 0 }
    else
      let iPol := match b.ctxOf a [0x12] with
        | some h => s.coefS h 6
        | none => 0
      let tPol := match b.ctxOf a [0x12] with
        | some h => max 1 (s.coef h 7 % 256)
        | none => 1
      { theta := some x.thH, iQ := some 0, iD := some (if x.polarity then (if x.convRun < tPol then iPol else -iPol) else 0) }
  | 4 => { theta := some x.theta, iQ := some 0 }
  | 5 => { theta := some x.theta }
  | 6 => { asc := true, clear := true }
  | 7 => { theta := some (b.axGet AX.AX_DC_THETA_DC a), iD := some iDc, iQ := some 0 }
  | 8 => { iQ := if (b.spdCtx a).isNone then some 0 else none }
  | 0 | 1 | 9 => { clear := true }
  | _ => {}
  { d with clear := d.clear || b.on AX.AX_DRV_MASKED a }

/-- The electrical angle of a sensored axis at its hold: the latched mechanical angle from the aligned position, times the pole pairs (R264,
R287, R301). -/
def State.encAngle (s : State) (a : Nat) : Nat :=
  match s.b.ctxOf a [0x10] with
  | none => 0
  | some c =>
    let f := s.b.axFb a
    let th := s.b.get FB.FB_ANGLE_THETA_M f
    let cpr := s.b.cpr f
    let start := (s.b.ax a).encZero % cpr * 65536 / cpr
    ux 16 (((th : Int) - start) * (s.coef c 1 % 128 : Nat) + (s.b.ax a).encOfs)

/-- The angle that the observer side gives the current program (R255, R301). -/
def State.angle (s : State) (a : Nat) : Nat :=
  if s.b.axComm a = 1 then (s.b.ax a).seed.getD (s.encAngle a) else (s.b.ax a).theta

/-! ## Clarke and Park (R223, R256) -/

/-- 1/√3, √3/2 and 2/3 in Q1.15. -/
def invSqrt3 : Int := 18919
def halfSqrt3 : Int := 28378
def twoThirds : Int := 21845

/-- The live sets of a current context, from LC_CFG.SETS (R206, R221). -/
def Block.ctxSets (b : Block) (c : Nat) : List Nat := bitsOf (b.get LC.LC_CFG_SETS c) 3

/-- The legs that a current context drives, set by set. -/
def Block.ctxLegs (b : Block) (c : Nat) : List Nat :=
  let a := b.get LC.LC_CFG_AXIS c
  ((b.ctxSets c).map (b.setLegs a)).flatten

/-- A leg's latched current in Q1.15 of the converter's full scale, with I_GAIN. -/
def Block.legI (b : Block) (gain : Int) (leg : Nat) : Int := mulQ (4 * (b.leg leg).iLatch) gain

/-- Clarke transform of three phase currents, amplitude invariant. -/
def clarke (x y z : Int) : Int × Int :=
  (q15 ((((Acc.of 0).mac twoThirds x).mac (-10923) y).mac (-10922) z).v, q15 (((Acc.of 0).mac invSqrt3 y).mac (-invSqrt3) z).v)

/-- Park transform by sine and cosine. -/
def park (sc : Int × Int) (v : Int × Int) : Int × Int :=
  (q15 (((Acc.of 0).mac sc.2 v.1).mac sc.1 v.2).v, q15 (((Acc.of 0).mac sc.2 v.2).mac (-sc.1) v.1).v)

/-- Inverse Park transform. -/
def invPark (sc : Int × Int) (v : Int × Int) : Int × Int :=
  (q15 (((Acc.of 0).mac sc.2 v.1).mac (-sc.1) v.2).v, q15 (((Acc.of 0).mac sc.1 v.1).mac sc.2 v.2).v)

/-- α and β of set `j`. -/
def Block.setAB (b : Block) (a : Nat) (gain : Int) (j : Nat) : Int × Int :=
  match b.setLegs a j with
  | x :: y :: z :: _ => clarke (b.legI gain x) (b.legI gain y) (b.legI gain z)
  | _ => (0, 0)

/-- The angle of set `j`: THETA_SETj is coefficient 15 + j, THETA_SET0 is 0 (R256). -/
def State.setAngle (s : State) (c j theta : Nat) : Nat := ux 16 (theta + if j = 0 then 0 else s.coef c (15 + j))

/-- The angle of the program's rotation: θ + THETA_OFS + ADV × ω, where speed 1.0 advances W_TS/16 in one sample (R223, R253). -/
def State.rotAngle (s : State) (c theta : Nat) : Nat :=
  let a := s.b.get LC.LC_CFG_AXIS c
  ux 16 (theta + s.coef c 12 + divRne (s.coefS c 13 * sx 16 (s.b.get AX.AX_EST_W a) * s.wTs a) (2 ^ 33))

/-- d and q currents of each live set of a CURn context at an angle. -/
def State.setDq (s : State) (c theta : Nat) : List (Nat × Int × Int) :=
  let a := s.b.get LC.LC_CFG_AXIS c
  (s.b.ctxSets c).map (fun j => (j, park (cordicRotate (s.setAngle c j theta)) (s.b.setAB a (s.coefS c 10) j)))

/-- The mean of the sets' currents. -/
def meanDq (l : List (Nat × Int × Int)) : Int × Int :=
  let n := max 1 l.length
  (divRne (l.map (fun x => x.2.1)).sum n, divRne (l.map (fun x => x.2.2)).sum n)

/-- The measured i_d and i_q of an axis from the latched sample, by its CURn context (R241, R261). -/
def State.measuredDq (s : State) (a : Nat) : Int × Int :=
  match s.b.ctxOf a [1, 2, 3] with
  | none => (0, 0)
  | some c => meanDq (s.setDq c (s.rotAngle c ((s.driveWord a).theta.getD (s.angle a))))

/-! ## Modulation (R195, R223) -/

/-- The zero-sequence of three phase references, in units of 2⁻³¹. -/
def zeroSeq (mod : Nat) (x y z : Int) : Int :=
  let hi := max x (max y z)
  let lo := min x (min y z)
  match mod with
  | 0 => -(hi + lo) / 2
  | 1 => if -lo ≤ hi then 2 ^ 30 - hi else -(2 ^ 30) - lo
  | 2 => -(2 ^ 30) - lo
  | _ => 0

/-- A duty of 0.5 + v as the 25-bit ratio, limited to 0 to 1.0, and whether it was cut. -/
def dutyOf (v : Int) : Nat × Bool :=
  let d := limiter 0 (2 ^ 24) (divRne (2 ^ 30 + v) 128)
  (d.1.toNat, d.2)

/-- The three duties of a vector in units of the bus voltage. -/
def phaseDuties (mod : Nat) (v : Int × Int) : List (Nat × Bool) :=
  let x := wide v.1
  let y := (((Acc.of 0).mac (-16384) v.1).mac halfSqrt3 v.2).v
  let z := (((Acc.of 0).mac (-16384) v.1).mac (-halfSqrt3) v.2).v
  let o := zeroSeq mod x y z
  [dutyOf (x + o), dutyOf (y + o), dutyOf (z + o)]

/-- A compare pair of a duty. -/
def dutyPair (d : Nat) : CmpPair := ⟨BitVec.ofNat 32 d, 0⟩

/-! ## PI laws (R223, R240, R243) -/

/-- The unlimited output of a law: integrator, proportional term and feed-forward terms. -/
def lawOut (sh : Nat) (kp e i ff : Int) : Acc := ((Acc.of i).macSh sh kp e).add ff

/-- The integrator that makes the law give `man`, limited to the output bounds, and whether it was cut (R218, R240). -/
def trackI (sh : Nat) (kp e ff man lo hi : Int) : Int × Bool :=
  limiter (wide lo) (wide hi) (((Acc.of (wide man)).macSh sh (-kp) e).add (-ff)).v

/-- The integrator after a run: its gain on the error, and the anti-windup on what the limits took. -/
def nextI (i ki e kaw limited unlimited : Int) : Acc := ((Acc.of i).mac ki e).mac kaw (satS 16 (limited - unlimited))

/-- What one loop of the PI law gives before the limits: the integrator it starts from, its output, and whether a limiter cut the integrator. -/
structure PiOut where
  i : Int
  out : Acc
  cut : Bool
deriving DecidableEq, Repr

/-- One loop of the PI law in the mode of the run. -/
def piRun (man preset : Bool) (sh : Nat) (kp e i ff mv lo hi : Int) : PiOut :=
  let t := trackI sh kp e ff mv lo hi
  if man then ⟨t.1, Acc.of (wide mv), t.2⟩
  else
    let i := if preset then t.1 else i
    ⟨i, lawOut sh kp e i ff, preset && t.2⟩

/-! ## Ramps (R239) -/

/-- Where r stands after a run that measured `y`; all in units of 2⁻³¹. -/
def rampStep (en fresh : Bool) (rate : Nat) (target now y : Int) : Int :=
  if !en then target
  else if fresh then y
  else if ((target - now).natAbs : Int) ≤ rate then target
  else if now < target then now + rate else now - rate

/-- r* and r of a run, with the measured value in the scale of r. -/
def Block.rampOf (b : Block) (c : Nat) (y : Int) : RunOut :=
  let l := b.lc c
  let t := b.spTarget c
  { y := y, target := t, ramped := l.rampFresh,
    r := rampStep (b.on LC.LC_RAMP_EN c) l.rampFresh (b.get LC.LC_RAMP_RATE c) t l.now y }

/-! ## Injection (R318) -/

/-- What TCU adds at an injection point of a context's run. -/
def Block.injected (b : Block) (c point : Nat) : Int :=
  ((List.range 4).filterMap (fun s =>
    if b.on TCU.SES_CFG_INJ_EN 0 s && b.sesInj s == c && b.get TCU.SES_INJ_POINT 0 s == point then (b.ses s).given.map (·.u)
    else none)).foldl (· + ·) 0

/-! ## CUR3, CUR6 and CUR9 (R223, R256) -/

/-- The bus voltage of a run lies below VBUS_MIN (R223). -/
def State.busBelow (s : State) (c : Nat) : Bool :=
  let v := s.b.vBus (s.b.get LC.LC_CFG_AXIS c)
  let p := s.b.get LC.LC_CFG_PROG c
  if 1 ≤ p ∧ p ≤ 3 then decide (mulQ v (s.coefS c 11) < s.coefS c 14)
  else if p = 6 then decide (v < s.coefS c 7) else false

/-- The duty pattern of ASC on every leg a context drives (R277). -/
def Block.ascPairs (b : Block) (c : Nat) : List CmpPair :=
  let hi := b.axGet AX.AX_START_ASC_SIDE (b.get LC.LC_CFG_AXIS c) == 1
  List.replicate (b.ctxLegs c).length
    (if b.get LC.LC_CFG_PROG c = 5 then (if hi then ⟨0x1000000, 2⟩ else ⟨0, 1⟩) else ⟨if hi then 0x1000000 else 0, 0⟩)

/-- i_d* and the bounds of i_q* that a current program takes: FWK's after its first run, before that 0 and ±I_MAX (R255). -/
def Block.fwBounds (b : Block) (a : Nat) (iMax : Int) : Int × Int × Int :=
  match b.ctxOf a [0x22] with
  | some f => if (b.lc f).done then ((b.lc f).last.out, (b.lc f).last.lo, (b.lc f).last.hi) else (0, -iMax, iMax)
  | none => (0, -iMax, iMax)

/-- The voltage vector limited to VMAX × V_bus by the square root and the reciprocal, and whether it was cut. -/
def limitVector (v : Int × Int) (vLim : Int) : (Int × Int) × Bool :=
  let mag := sqrtUnit (2 * (v.1 * v.1 + v.2 * v.2))
  if mag ≤ wide vLim then (v, false)
  else
    let k := q15 (mulAcc vLim (recipUnit mag).1)
    ((mulQ v.1 k, mulQ v.2 k), true)

/-- The law of the x-y currents of one set: its current is driven to the mean of the sets (R256). -/
def State.xyLaw (s : State) (c j : Nat) (clear : Bool) (e : Int × Int) : (Int × Int) × (Int × Int) × Bool :=
  let sh := s.coef c 4 % 8
  let i (k : Nat) : Int := if clear then 0 else s.stateVal c k
  let d := lawOut sh (s.coefS c 18) e.1 (i (2 + 2 * j)) 0
  let q := lawOut sh (s.coefS c 18) e.2 (i (3 + 2 * j)) 0
  let nd := (Acc.of (i (2 + 2 * j))).mac (s.coefS c 19) e.1
  let nq := (Acc.of (i (3 + 2 * j))).mac (s.coefS c 19) e.2
  ((q15 d.v, q15 q.v), (nd.v, nq.v), d.ovf || q.ovf || nd.ovf || nq.ovf)

/-- A run of CUR3, CUR6 or CUR9. -/
def State.curRun (s : State) (c : Nat) : RunOut :=
  let b := s.b
  let a := b.get LC.LC_CFG_AXIS c
  let l := b.lc c
  let dw := s.driveWord a
  let clear := dw.clear || l.stopped
  let theta := dw.theta.getD (s.angle a)
  let rot := s.rotAngle c theta
  let vb := mulQ (b.vBus a) (s.coefS c 11)
  let w := sx 16 (b.get AX.AX_EST_W a)
  let sets := s.setDq c rot
  let m := meanDq sets
  let iMax := s.coefS c 15
  let fw := b.fwBounds a iMax
  let ro := b.rampOf c (wide m.2)
  let dRef := limiter (-iMax) iMax (addQ (dw.iD.getD fw.1) (b.injected c 1))
  let qRef := limiter fw.2.1 fw.2.2 (addQ (dw.iQ.getD (q15 ro.r)) (b.injected c 2))
  let eD := satS 16 (dRef.1 - m.1)
  let eQ := satS 16 (qRef.1 - m.2)
  let sh := s.coef c 4 % 8
  let hf := ((b.lastOf a [0x12]).map RunOut.out).getD 0
  let ffD := (((Acc.of 0).mac (-(mulQ w (s.coefS c 6))) m.2).add (wide hf))
  let ffQ := ((Acc.of 0).mac (mulQ w (s.coefS c 5)) m.1).mac w (s.coefS c 7)
  let vLim := mulQ (s.coefS c 8) vb
  let man := b.on LC.LC_STAT_MODE c
  let i0 (k : Nat) : Int := if clear then 0 else s.stateVal c k
  let pd := piRun man l.preset sh (s.coefS c 0) eD (i0 0) ffD.v (sx 16 (b.get LC.LC_MAN_OUT0 c)) (-vLim) vLim
  let pq := piRun man l.preset sh (s.coefS c 2) eQ (i0 1) ffQ.v (sx 16 (b.get LC.LC_MAN_OUT1 c)) (-vLim) vLim
  let u := (addQ (q15 pd.out.v) (b.injected c 3), addQ (q15 pq.out.v) (b.injected c 4))
  let v := limitVector u vLim
  let nd := if man then Acc.of pd.i else nextI pd.i (s.coefS c 1) eD (s.coefS c 9) v.1.1 u.1
  let nq := if man then Acc.of pq.i else nextI pq.i (s.coefS c 3) eQ (s.coefS c 9) v.1.2 u.2
  let many := decide (1 < sets.length)
  let inv := recipUnit (wide vb)
  let mod := b.get ⟨AX.AX_CFG, 8, 3⟩ a
  let per := sets.map (fun x =>
    let xy := if many then s.xyLaw c x.1 clear (satS 16 (m.1 - x.2.1), satS 16 (m.2 - x.2.2)) else ((0, 0), (0, 0), false)
    let ab := invPark (cordicRotate (s.setAngle c x.1 rot)) (addQ v.1.1 xy.1.1, addQ v.1.2 xy.1.2)
    (x.1, phaseDuties mod (q15 (mulAcc ab.1 inv.1), q15 (mulAcc ab.2 inv.1)), xy.2))
  let duties := (per.map (fun x => x.2.1)).flatten
  let low := s.busBelow c
  let n := (b.ctxLegs c).length
  let xyState := ([0, 1, 2].map (fun j => match per.find? (fun x => x.1 == j) with
    | some x => [x.2.2.1.1, x.2.2.1.2]
    | none => [s.stateVal c (2 + 2 * j), s.stateVal c (3 + 2 * j)])).flatten
  let kept := (List.range 8).map (s.stateVal c)
  { ro with
    sig := [m.1, m.2, dRef.1, qRef.1, v.1.1, v.1.2, vb]
    out := v.1.1, out2 := v.1.2
    pairs := if dw.asc then b.ascPairs c else if low then List.replicate n (dutyPair 0x800000) else duties.map (fun x => dutyPair x.1)
    state := if clear then List.replicate 8 0 else if low then kept else [nd.v, nq.v] ++ xyState
    limited := dRef.2 || qRef.2 || pd.cut || pq.cut || v.2 || inv.2 || duties.any Prod.snd
    accOvf := pd.out.ovf || pq.out.ovf || ffD.ovf || ffQ.ovf || nd.ovf || nq.ovf || per.any (fun x => x.2.2.2)
    busLow := low
    i2 := m.1 * m.1 + m.2 * m.2, iStall := m.2, w := w, theta := theta }

/-! ## VF (R284) -/

/-- The largest squared current of the sets of a context, in units of 2⁻³⁰. -/
def Block.peakI2 (b : Block) (c : Nat) (gain : Int) : Int :=
  let a := b.get LC.LC_CFG_AXIS c
  ((b.ctxSets c).map (fun j => let v := b.setAB a gain j; v.1 * v.1 + v.2 * v.2)).foldl max 0

/-- A run of VF. State values: f in units of 2⁻³¹, and the angle in units of 2⁻¹⁶ of its LSB. In DC the vector V0 stands at THETA_DC, at
frequency 0 (R278). -/
def State.vfRun (s : State) (c : Nat) : RunOut :=
  let b := s.b
  let a := b.get LC.LC_CFG_AXIS c
  let dw := s.driveWord a
  let clear := dw.clear || (b.lc c).stopped
  let f0 := if clear then 0 else s.stateVal c 0
  let i2 := b.peakI2 c (s.coefS c 7)
  let iMax := b.folded a (s.coefS c 5)
  let ro := b.rampOf c f0
  let rate := s.coef c 3 + 65536 * (s.coef c 4 % 2 ^ 15)
  let held := wide iMax < sqrtUnit (2 * i2)
  let man := b.on LC.LC_STAT_MODE c
  let dc := b.drv a = 7
  let f := if clear ∨ dc then 0 else if held then f0 else rampStep true false rate ro.r f0 0
  let th16 := if dc then 65536 * ((dw.theta.getD 0 : Nat) : Int) else (s.stateVal c 1 + divRne (f * s.coef c 0) (2 ^ 19)) % 2 ^ 32
  let theta := (th16 / 65536).toNat
  let amp := limiter (-32768) (s.coefS c 6) (addQ (s.coefS c 1) (mulQ (s.coefS c 2) (satS 16 (q15 f).natAbs)))
  let amp := if dc then (s.coefS c 1, false) else amp
  let vb := b.vBus a
  let inv := recipUnit (wide vb)
  let mv := (sx 16 (b.get LC.LC_MAN_OUT0 c), sx 16 (b.get LC.LC_MAN_OUT1 c))
  let dq := if man then (q15 (mulAcc mv.1 inv.1), q15 (mulAcc mv.2 inv.1)) else (amp.1, 0)
  let duties := phaseDuties (b.get ⟨AX.AX_CFG, 8, 3⟩ a) (invPark (cordicRotate theta) dq)
  let all := ((b.ctxSets c).map (fun _ => duties)).flatten
  { ro with
    out := if man then mv.1 else mulQ amp.1 vb, out2 := if man then mv.2 else 0
    pairs := if dw.asc then b.ascPairs c else all.map (fun x => dutyPair x.1)
    state := [f, th16]
    limited := amp.2 || (man && inv.2) || duties.any Prod.snd
    i2 := i2, w := q15 f, theta := theta }

/-! ## SIX (R283) -/

/-- BLOCK states of the three legs by sector: 0 FLOAT, 1 LOW, 2 HIGH (R134, R283). -/
def sixStates (sector : Nat) : List Nat :=
  match sector with
  | 0 => [2, 1, 0]
  | 1 => [2, 0, 1]
  | 2 => [0, 2, 1]
  | 3 => [1, 2, 0]
  | 4 => [1, 0, 2]
  | _ => [0, 1, 2]

/-- The sector of a Hall state through HALL_MAP. -/
def State.hallSector (s : State) (c : Nat) : Option Nat :=
  let h := (s.b.fb (s.b.axFb (s.b.get LC.LC_CFG_AXIS c))).latHall
  let map (k : Nat) : Nat := if k < 5 then s.coef c 0 / 8 ^ k % 8 else s.coef c 1 % 8
  (List.range 6).find? (fun k => map k == h)

/-- The states of the three legs for a sign of i_q*, and the current of the HIGH leg; without a sector, every leg FLOAT (R283). -/
def State.sixStep (s : State) (c : Nat) (neg : Bool) : List Nat × Int :=
  let b := s.b
  let states := match s.hallSector c with
    | some k => sixStates (if neg then (k + 3) % 6 else k)
    | none => [0, 0, 0]
  (states, match (b.ctxLegs c)[states.idxOf 2]? with
    | some leg => b.legI (s.coefS c 8) leg
    | none => 0)

/-- A run of SIX. The sign of i_q* in force chooses the sector, in MANUAL that of i_q* without the injection, which has no effect there (R318); the measured i_q that a ramp starts from is that of the last run's sector. -/
def State.sixRun (s : State) (c : Nat) : RunOut :=
  let b := s.b
  let a := b.get LC.LC_CFG_AXIS c
  let l := b.lc c
  let dw := s.driveWord a
  let clear := dw.clear || l.stopped
  let iMax := b.folded a (s.coefS c 5)
  let i0 := (s.sixStep c l.last.mark).2
  let ro := b.rampOf c (if l.last.mark then -(wide i0) else wide i0)
  let sp := limiter (-iMax) iMax (addQ (dw.iQ.getD (q15 ro.r)) (b.injected c 2))
  let man := b.on LC.LC_STAT_MODE c
  let neg := decide ((if man then (limiter (-iMax) iMax (dw.iQ.getD (q15 ro.r))).1 else sp.1) < 0)
  let (states, i) := s.sixStep c neg
  let e := satS 16 ((sp.1.natAbs : Int) - i)
  let p := piRun man l.preset (s.coef c 4 % 8) (s.coefS c 2) e (if clear then 0 else s.stateVal c 0) 0 (sx 16 (b.get LC.LC_MAN_OUT0 c)) 0 (s.coefS c 6)
  let u := q15 p.out.v
  let d := limiter 0 (s.coefS c 6) u
  let n := if man then Acc.of p.i else nextI p.i (s.coefS c 3) e (s.coefS c 7) d.1 u
  { ro with
    sig := [i, 0, sp.1, d.1, 0, 0, b.vBus a]
    out := d.1
    pairs := if dw.asc then b.ascPairs c else states.map (fun x => ⟨BitVec.ofInt 32 (512 * max 0 d.1), BitVec.ofNat 32 x⟩)
    state := [if clear then 0 else n.v]
    limited := sp.2 || p.cut || d.2, accOvf := p.out.ovf || n.ovf, mark := neg
    i2 := i * i, iStall := i, theta := s.angle a }

/-! ## DC2 (R285) -/

/-- The two duties of DC2. -/
def dcDuties (mod : Nat) (d : Int) : List Nat :=
  if mod = 5 then [(8388608 + d * 256).toNat, (8388608 - d * 256).toNat]
  else if 0 ≤ d then [(d * 512).toNat, 0] else [0, (-d * 512).toNat]

/-- A run of DC2. -/
def State.dcRun (s : State) (c : Nat) : RunOut :=
  let b := s.b
  let a := b.get LC.LC_CFG_AXIS c
  let l := b.lc c
  let dw := s.driveWord a
  let clear := dw.clear || l.stopped
  let iMax := b.folded a (s.coefS c 3)
  let i := match b.axLegs a with
    | leg :: _ => b.legI (s.coefS c 6) leg
    | [] => 0
  let ro := b.rampOf c (wide i)
  let sp := limiter (-iMax) iMax (addQ (dw.iQ.getD (q15 ro.r)) (b.injected c 2))
  let e := satS 16 (sp.1 - i)
  let man := b.on LC.LC_STAT_MODE c
  let dMax := s.coefS c 4
  let p := piRun man l.preset (s.coef c 2 % 8) (s.coefS c 0) e (if clear then 0 else s.stateVal c 0) 0 (sx 16 (b.get LC.LC_MAN_OUT0 c)) (-dMax) dMax
  let u := addQ (q15 p.out.v) (b.injected c 4)
  let d := limiter (-dMax) dMax u
  let n := if man then Acc.of p.i else nextI p.i (s.coefS c 1) e (s.coefS c 5) d.1 u
  let low := s.busBelow c
  { ro with
    sig := [i, 0, sp.1, d.1, 0, 0, b.vBus a]
    out := d.1
    pairs := if dw.asc then b.ascPairs c else if low then List.replicate (b.ctxLegs c).length (dutyPair 0x800000)
      else (dcDuties (b.get ⟨AX.AX_CFG, 8, 3⟩ a) d.1).map (fun x => dutyPair (min x 0x1000000))
    state := [if clear then 0 else if low then s.stateVal c 0 else n.v]
    limited := sp.2 || p.cut || d.2, accOvf := p.out.ovf || n.ovf, busLow := low
    i2 := i * i, iStall := i }

/-! ## SPD, POS, BIQ4, HARM and FWK (R239, R243, R273, R274, R296) -/

/-- A run of SPD or POS with its error, measured value and ramp. State values: the integrator, the derivative term, the last error. -/
def State.pidRun (s : State) (c : Nat) (e y ff : Int) (outPoint : Nat) (ro : RunOut) : RunOut :=
  let b := s.b
  let l := b.lc c
  let man := b.on LC.LC_STAT_MODE c
  let sh := s.coef c 3 % 8
  let dTerm := ((Acc.of 0).mac (s.coefS c 8) (q15 (s.stateVal c 1))).mac (s.coefS c 2) (satS 16 (e - s.stateVal c 2))
  let f := dTerm.mac (s.coefS c 7) ff
  let p := piRun man l.preset sh (s.coefS c 0) e (s.stateVal c 0) f.v (sx 16 (b.get LC.LC_MAN_OUT0 c)) (s.coefS c 5) (s.coefS c 4)
  let u := addQ (q15 p.out.v) (b.injected c outPoint)
  let o := limiter (s.coefS c 5) (s.coefS c 4) u
  let n := if man then Acc.of p.i else nextI p.i (s.coefS c 1) e (s.coefS c 6) o.1 u
  { ro with
    sig := [y, q15 ro.r, e, o.1]
    out := o.1, state := [n.v, dTerm.v, e], limited := p.cut || o.2, accOvf := p.out.ovf || f.ovf || n.ovf }

/-- A run of SPD. -/
def State.spdRun (s : State) (c : Nat) : RunOut :=
  let y := sx 16 (s.b.get AX.AX_EST_W (s.b.get LC.LC_CFG_AXIS c))
  let ro := s.b.rampOf c (wide y)
  s.pidRun c (satS 16 (addQ (q15 ro.r) (s.b.injected c 5) - y)) y (s.b.lc c).ff 6 ro

/-- A run of POS: the error modulo 2³², shifted by POS_SHIFT and saturated (R296). What is injected into r counts as a Q1.15 fraction, as `LC_SP`
shows r (R251, R318; DEDUCED, log entry 16). -/
def State.posRun (s : State) (c : Nat) : RunOut :=
  let f := s.b.axFb (s.b.get LC.LC_CFG_AXIS c)
  let px := (s.b.fb f).latPx
  let ro := s.b.rampOf c (sx 32 px)
  let e := satS 16 (sx 32 (ux 32 (ro.r + s.b.injected c 7 * 65536 - px)) / 2 ^ s.b.get FB.FB_SCALE_POS_SHIFT f)
  { s.pidRun c e (satS 16 (divRne (sx 32 px) 65536)) 0 0 ro with y := sx 32 px }

/-- One section of BIQ4: its output, its next two state values and whether a sum left the range. -/
def State.biquad (s : State) (c j : Nat) (x : Int) : Int × List Int × Bool :=
  let k (i : Nat) : Int := s.coefS c (6 * j + i)
  let y := (Acc.of (s.stateVal c (2 * j))).macSh 1 (k 0) x
  let out := q15 y.v
  let s1 := ((Acc.of (s.stateVal c (2 * j + 1))).macSh 1 (k 1) x).macSh 1 (k 3) out
  let s2 := ((Acc.of 0).macSh 1 (k 2) x).macSh 1 (k 4) out
  (out, [s1.v, s2.v], y.ovf || s1.ovf || s2.ovf)

/-- A run of BIQ4: four sections in series on the output of SPD, scaled by 2^OUT_SHIFT. -/
def State.biqRun (s : State) (c : Nat) : RunOut :=
  let b := s.b
  let x := ((b.lastOf (b.get LC.LC_CFG_AXIS c) [0x20]).map RunOut.out).getD 0
  let r := [0, 1, 2, 3].foldl (fun (acc : Int × List Int × Bool) j =>
    let o := s.biquad c j acc.1
    (o.1, acc.2.1 ++ o.2.1, acc.2.2 || o.2.2)) (x, [], false)
  let y := satS 16 (r.1 * 2 ^ (s.coef c 24 % 8))
  let out := if b.on LC.LC_STAT_MODE c then sx 16 (b.get LC.LC_MAN_OUT0 c) else y
  { b.rampOf c (wide x) with out := out, state := r.2.1, accOvf := r.2.2 }

/-- A run of HARM but for its output: the bounds of the two OUT_MAX, and LC_MAN in MANUAL (R240, R243). -/
def State.harmRun (s : State) (c : Nat) : RunOut :=
  let b := s.b
  let m := addQ (s.coefS c 3) (s.coefS c 7)
  { b.rampOf c 0 with lo := -m, hi := m, mark := b.on LC.LC_STAT_MODE c, out := sx 16 (b.get LC.LC_MAN_OUT0 c) }

/-- The factor of the braking bound (R274). -/
def regenFactor (v vMax vb : Int) : Int :=
  if vMax ≤ v then (if vb < vMax then 32767 else 0)
  else if vMax ≤ vb then 0
  else if vb ≤ v then 32767
  else clampI 0 32767 (q15 (mulAcc (vMax - vb) (recipUnit (wide (vMax - v))).1))

/-- A word multiplied by the factor of R274, where the largest word stands for 1. -/
def taper (x g : Int) : Int := if g = 32767 then x else mulQ x g

/-- A run of FWK (R273, R274). -/
def State.fwkRun (s : State) (c : Nat) : RunOut :=
  let b := s.b
  let a := b.get LC.LC_CFG_AXIS c
  let vb := b.vBus a
  let v := (b.lastOf a [1, 2, 3]).getD {}
  let vMax := match b.ctxOf a [1, 2, 3] with
    | some k => s.coefS k 8
    | none => 0
  let mag := q15 (sqrtUnit (2 * (v.out * v.out + v.out2 * v.out2)))
  let u := satS 16 (mulQ (s.coefS c 0) (mulQ vMax vb) - mag)
  let idMax := s.coefS c 3
  let man := b.on LC.LC_STAT_MODE c
  let p := piRun man (b.lc c).preset 0 (s.coefS c 1) u (s.stateVal c 0) 0 (sx 16 (b.get LC.LC_MAN_OUT0 c)) (-idMax) 0
  let id := limiter (-idMax) 0 (q15 p.out.v)
  let i := (Acc.of p.i).mac (s.coefS c 2) u
  let iFw := limiter (wide (-idMax)) 0 i.v
  let iLim := b.folded a (s.coefS c 4)
  let bound := q15 (sqrtUnit (2 * (iLim * iLim - id.1 * id.1)))
  let w := sx 16 (b.get AX.AX_EST_W a)
  let cut := taper bound (regenFactor (s.coefS c 5) (s.coefS c 6) vb)
  { b.rampOf c 0 with
    out := id.1
    lo := -(if 0 < w then cut else bound), hi := if w < 0 then cut else bound
    state := [if man then p.i else iFw.1]
    limited := id.2 || p.cut || (!man && iFw.2), accOvf := p.out.ovf || i.ovf
    mark := id.1 == -idMax && decide (u < 0) }

/-! ## PLAUS (R241, R242) -/

/-- The temperature that TSRC names in 0.25 °C, none where R242 puts THETA_MAX in its place. -/
def State.plausTemp (s : State) (c : Nat) : Option Int :=
  let b := s.b
  let src := s.coef c 13
  let t : Option Int :=
    if src < 16 then
      if b.hkScanned (24 + src) then some (s.coefS c 15 + s.coefS c 14 * b.get SNS.HK_RES_VALUE 0 (24 + src) / 256) else none
    else if src = 16 then
      if b.hkScanned 48 && !b.mapBit OTP.CAL_STAT_DEFAULTED 3 then some (sx 12 (b.get SNS.DIE_TEMP_TEMP)) else none
    else none
  t.bind (fun x => if -160 ≤ x ∧ x ≤ 800 then some x else none)

/-- A run of PLAUS. State values: the predicted currents of the next run. -/
def State.plausRun (s : State) (c : Nat) : RunOut :=
  let b := s.b
  let a := b.get LC.LC_CFG_AXIS c
  let k (n : Nat) : Int := s.coefS c n
  let i := s.measuredDq a
  let v := (b.lastOf a [1, 2, 3]).getD {}
  let w := sx 16 (b.get AX.AX_EST_W a)
  let dD := satS 16 (i.1 - q15 (s.stateVal c 0))
  let dQ := satS 16 (i.2 - q15 (s.stateVal c 1))
  let eps := q15 (sqrtUnit (2 * (dD * dD + dQ * dQ)))
  let ref : Int := sx 16 (s.coef c 4)
  let t := s.plausTemp c
  let dT (x : Int) : Int := (x - ref) * 64
  let rTh := satS 16 (k 2 + divRne (k 2 * divRne (k 3 * dT (t.getD ref)) 32768) 32768)
  let tMax : Int := sx 16 (s.coef c 11)
  let mag := q15 (sqrtUnit (2 * (i.1 * i.1 + i.2 * i.2)))
  let th := (((Acc.of (wide (k 8))).mac (k 9) (dT (t.getD tMax)).natAbs).mac (k 10) mag)
  let inD := ((Acc.of (wide v.out)).mac (-rTh) i.1).mac (mulQ w (k 6)) i.2
  let inQ := (((Acc.of (wide v.out2)).mac (-rTh) i.2).mac (-(mulQ w (k 5))) i.1).mac (-w) (k 7)
  let nD := (Acc.of (wide i.1)).mac (k 0) (q15 inD.v)
  let nQ := (Acc.of (wide i.2)).mac (k 1) (q15 inQ.v)
  { state := [nD.v, nQ.v], resid := eps, th := q15 th.v
    accOvf := th.ovf || inD.ovf || inQ.ovf || nD.ovf || nQ.ovf }

/-! ## OBS_HFI (R261 to R263) -/

/-- The weight of the blend, as numerator and denominator (R263). -/
def blendWeight (w blend band : Int) : Int × Int :=
  let d := if band ≤ 0 then 1 else band
  (clampI 0 d ((w.natAbs : Int) - blend), d)

/-- The blend weight of an axis at the last speed of OBS_BEMF. -/
def State.weight (s : State) (a : Nat) : Int × Int :=
  match s.b.ctxOf a [0x11] with
  | some c => blendWeight (s.b.ax a).wB (s.coefS c 10) (s.coefS c 11)
  | none => (0, 1)

/-- The amplitude of the injection as a fraction of the bus: V_HF in ALIGN, (1 − w) × V_HF in RUN, STOPPING, RELOCK and RIDE (R261, R263;
DESIGN CHOICE, log entry 94). -/
def State.hfAmp (s : State) (c : Nat) : Int :=
  let a := s.b.get LC.LC_CFG_AXIS c
  let wt := s.weight a
  match s.b.drv a with
  | 2 => s.coefS c 0
  | 3 | 4 | 5 | 8 => divRne ((wt.2 - wt.1) * s.coefS c 0) wt.2.toNat
  | _ => 0

/-- A run of OBS_HFI. State values: speed, angle in units of 2⁻¹⁶ of its LSB, i_q and i_d at the end of the last half-cycle, the angle error,
and twice the runs of the half-cycle plus its sign. While w = 1 it follows the delivered angle (R281). -/
def State.hfiRun (s : State) (c : Nat) : RunOut :=
  let b := s.b
  let a := b.get LC.LC_CFG_AXIS c
  let i := s.measuredDq a
  let wt := s.weight a
  let follow := (b.drv a == 3 || b.drv a == 8) && wt.1 == wt.2
  let cnt := (s.stateVal c 5).toNat
  let up := cnt % 2 == 0
  let ends := max 1 (s.coef c 1 % 16) ≤ cnt / 2 + 1
  let dq := satS 16 (i.2 - s.stateVal c 2)
  let err := if ends then satS 16 (Config.hfError (if up then dq else -dq)) else s.stateVal c 4
  let w := if follow then Acc.of (wide (b.ax a).wB) else (Acc.of (s.stateVal c 0)).mac (s.coefS c 3) err
  let th := if follow then 65536 * ((b.ax a).theta : Int)
    else (s.stateVal c 1 + divRne (w.v * s.coef c 9) (2 ^ 19) + 2 * s.coefS c 2 * err) % 2 ^ 32
  let nextUp := if ends then !up else up
  let v := mulQ (s.hfAmp c) (b.vBus a)
  { sig := [sx 16 (th / 65536).toNat, q15 w.v, err]
    out := if nextUp then v else -v
    w := q15 w.v, theta := (th / 65536).toNat
    resid := err, mark := ends, th := (i.1 - s.stateVal c 3).natAbs
    state := [w.v, th, if ends then i.2 else s.stateVal c 2, if ends then i.1 else s.stateVal c 3, err,
      2 * (if ends then 0 else (cnt / 2 + 1 : Nat)) + (if nextUp then 0 else 1)]
    accOvf := w.ovf }

/-! ## The run of a context -/

/-- What a run gives, from what the context reads at its start. The observers whose laws are not printed take their values when the run
completes. -/
def State.runOf (s : State) (c : Nat) : RunOut :=
  match s.b.get LC.LC_CFG_PROG c with
  | 1 | 2 | 3 => s.curRun c
  | 4 => s.vfRun c
  | 5 => s.sixRun c
  | 6 => s.dcRun c
  | 0x10 => { theta := s.encAngle (s.b.get LC.LC_CFG_AXIS c) }
  | 0x12 => s.hfiRun c
  | 0x18 => s.plausRun c
  | 0x20 => s.spdRun c
  | 0x21 => s.posRun c
  | 0x22 => s.fwkRun c
  | 0x23 => s.biqRun c
  | 0x24 => s.harmRun c
  | _ => {}

/-- What a context's run reads, in the order of the input latch (R224): currents, bus voltage, angle, speed, set-point targets, sample record. -/
def State.latched (s : State) (c : Nat) : List Int :=
  let b := s.b
  let a := b.get LC.LC_CFG_AXIS c
  let dw := s.driveWord a
  let forced := ofBits ((List.range 5).filter (fun i => [dw.theta.isSome, dw.iD.isSome, dw.iQ.isSome, dw.asc, dw.clear].getD i false))
  (b.axLegs a).map (fun leg => (b.leg leg).iLatch) ++
    [b.vBus a, ((dw.theta.getD (s.angle a) : Nat) : Int), sx 16 (b.get AX.AX_EST_W a), dw.iD.getD 0, dw.iQ.getD 0, forced, b.spTarget c, (b.rd SNS.AXS_REC 0 a).toNat]

end Sys2Proof.Machine
end

