-- ==== Sys2Proof/Machine/Loop.lean ====
section
/-!
DEFINITION. LEA: starts and completions of program runs, swaps, transfers, ramps, the plausibility check, what CFU evaluates after a
run, scrubs, engine fencing and the cover plans (R220 to R248, R254 to R285). A run reads at its start; what it gives waits in the context
until it completes (Programs.lean).
-/

namespace Sys2Proof.Machine

/-! ## Context memory (R224, R225, R243) -/

/-- The two banks exchanged (R227). -/
def swapBanks (m : List Host.Cell) (c : Nat) : List Host.Cell :=
  let a := memWords m (ctxBase c + 0x40) 16
  let z := memWords m (ctxBase c + 0x80) 16
  memPuts (memPuts m (ctxBase c + 0x40) z) (ctxBase c + 0x80) a

/-- The check of a write to a word of context memory: none, or its refusal (R224, R248). -/
def Block.ctxMemCheck (b : Block) (c off : Nat) : Option Nat :=
  if b.ctxSt c = 0 then some 8
  else if off < 0x40 then (if b.on LC.LC_STAT_MODE c || b.ctxSt c == 1 then none else some 7)
  else if off < 0x80 then some 3
  else if off < 0xC0 then (if b.on LC.LC_STAT_SWAP_PEND c then some 4 else none)
  else none

/-! ## Ramps (R239, R241) -/

/-- The ramp of a context starts at its next run. -/
def rampRestart (b : Block) (c : Nat) : Block :=
  if b.get LC.LC_CFG_ROLE c = 0 ∨ b.get LC.LC_CFG_ROLE c = 3 then b.setLc c { b.lc c with rampFresh := true } else b

/-- The plausibility check of an axis leaves its next comparison out (R241). -/
def Block.plausSkip (b : Block) (a : Nat) : Block :=
  match b.ctxOf a [0x18] with
  | some p => b.setLc p { b.lc p with plSkip := true }
  | none => b

/-- A run in progress is lost, and with it the start of a ramp or the comparison it left out. -/
def LcSt.lostRun (l : LcSt) : LcSt :=
  { l with busy := false, rampFresh := l.rampFresh || (l.busy && l.cur.ramped), plSkip := l.plSkip || (l.busy && l.cur.skip) }

/-- A run that starts uses the events before it up: a ramp that starts with it makes the plausibility check leave its next comparison out, and a
run of PLAUS takes that (R239, R241). -/
def Block.startsUsed (b : Block) (c : Nat) (o : RunOut) : Block :=
  let role := b.get LC.LC_CFG_ROLE c
  let l := b.lc c
  if role = 0 ∨ role = 3 then
    let b := b.setLc c { l with rampFresh := false }
    if o.ramped then b.plausSkip (b.get LC.LC_CFG_AXIS c) else b
  else b.setLc c { l with plSkip := l.plSkip && b.get LC.LC_CFG_PROG c != 0x18 }

/-- The ramp of a run that completes (R239). -/
def Block.rampDone (b : Block) (c : Nat) (o : RunOut) : Block :=
  let l := b.lc c
  let reached := (l.now ≠ o.target ∨ b.on LC.LC_STAT_RAMPING c) ∧ o.r = o.target
  let b := b.setLc c { l with now := o.r }
  let b := (b.put LC.LC_SP_TARGET (ux 16 (o.target / 65536)) c).put LC.LC_SP_NOW (ux 16 (satS 16 (divRne o.r 65536))) c
  let b := b.flag LC.LC_STAT_RAMPING (o.r != o.target) c
  if reached then b.evt (0x140 + c) 2 else b

/-! ## Set-points (R237, R254, R255) -/

/-- A value taken at the start of the current program in slot `slot` is routed. -/
def Block.route (b : Block) (a slot q : Nat) (v : Word) : Block :=
  let x : Int := if q = 2 then sx 32 v.toNat else sx 16 v.toNat * 65536
  let b := if q = 1 then b.setAx a { b.ax a with torque := sx 16 v.toNat } else b
  match b.quantityCtx a q with
  | none => b.bump AX.AX_SP_DROP_COUNT AX.AX_SP_DROP_OVF a
  | some c =>
    if q = 1 ∧ b.get LC.LC_CFG_PROG c = 0x20 then
      b.setLc c { b.lc c with ffNext := (b.lc c).ffNext ++ [(sx 16 v.toNat, 16 * (slot : Int))] }
    else b.setLc c { b.lc c with routed := (b.lc c).routed ++ [(x, 16 * (slot : Int))] }

/-- The take at a start of the current program: ring entries or command pins. -/
def Block.takeSetpoints (b : Block) (a slot : Nat) : Block :=
  match b.get ⟨AX.AX_CFG3, 16, 2⟩ a with
  | 0 =>
    let (vs, b) := b.ringTake (b.get ⟨AX.AX_RINGS, 0, 16⟩ a % 64)
    vs.foldl (fun b x => b.route a slot x.1 x.2) b
  | 1 =>
    b.each [0, 1] (fun b q =>
      match Tab.get none b.pinSp (2 * a + q) with
      | some y => ({ b with pinSp := Tab.set none b.pinSp (2 * a + q) none }).route a slot q (BitVec.ofNat 32 y)
      | none => b)
  | _ => b

/-- The routed values at least 64 LCLK old leave the list at a start, the latest as r*. -/
def takeRouted (at' : Int) (target : Int) : List (Int × Int) → Int × List (Int × Int)
  | [] => (target, [])
  | x :: t => if 64 ≤ at' - x.2 then takeRouted at' x.1 t else (target, x :: t)

/-- The target and the feed-forward that a start uses. -/
def Block.newTarget (b : Block) (c : Nat) : Block :=
  let l := b.lc c
  let at' : Int := 16 * (b.get LC.LC_SLOT_SLOT c : Nat)
  let x := takeRouted at' l.target l.routed
  let f := takeRouted at' l.ff l.ffNext
  b.setLc c { l with target := x.1, routed := x.2, ff := f.1, ffNext := f.2 }

/-! ## The start of a run (R222, R231, R237) -/

/-- A run of a context can start: from the local meridian of a new axis on (R200). -/
def Block.canStart (b : Block) (c : Nat) : Bool :=
  let k := b.get LC.LC_SLOT_TB c
  b.awake && decide (c < b.numCtx) && b.ctxSt c == 2 && !(b.lc c).ran && b.tbRuns k && !(b.tb k).starting &&
    b.ctxDue c (b.get LC.LC_CFG_PHASE c) && !b.fenced (0x1E0 + b.get LC.LC_SLOT_ENG c) && decide ((b.lc c).liveFrom ≤ b.now)

/-- A 64-bit count of starts, saturating (R91). R250 gives it no OVF flag, so none is held (DESIGN CHOICE, log entry 137). -/
def Block.engRun (b : Block) (e : Nat) : Block :=
  let n := min (2 ^ 64 - 1) ((b.rd LE.ENG_RUNS_LO e).toNat + (b.rd LE.ENG_RUNS_HI e).toNat * 2 ^ 32 + 1)
  (b.wr LE.ENG_RUNS_LO (BitVec.ofNat 32 n) e).wr LE.ENG_RUNS_HI (BitVec.ofNat 32 (n / 2 ^ 32)) e

/-- A context runs on two engines. -/
def Block.dualNow (b : Block) (c : Nat) : Bool := b.on LC.LC_CFG_DUAL c && !b.on LC.LC_STAT_DUAL_LOST c

/-- Counters and time-stamp of a start. -/
def Block.countStart (b : Block) (c : Nat) : Block :=
  let b := (b.bump LC.LC_RUNS_COUNT LC.LC_RUNS_OVF c).stamp LC.LC_TS_LO LC.LC_TS_HI c
  let b := b.engRun (b.get LC.LC_SLOT_ENG c)
  if b.dualNow c then b.engRun (b.get LC.LC_SLOT_ENG2 c) else b

/-- A pending transfer is taken (R240). -/
def Block.takeXfer (b : Block) (c : Nat) : Block :=
  let l := b.lc c
  match l.xfer with
  | none => b
  | some (man, preset) =>
    let b := b.setLc c { l with xfer := none, rampFresh := l.rampFresh || !man, preset := !man }
    let b := if man && preset then (b.put LC.LC_MAN_OUT0 (ux 16 l.last.out) c).put LC.LC_MAN_OUT1 (ux 16 l.last.out2) c else b
    ((b.flag LC.LC_STAT_MODE man c).put LC.LC_STAT_XFER_PEND 0 c).evt (0x140 + c) 1

/-- A pending swap is taken (R227, R228). -/
def State.takeSwap (s : State) (c : Nat) : State :=
  if s.b.on LC.LC_STAT_SWAP_PEND c then
    let b := ((s.b.put LC.LC_STAT_SWAP_PEND 0 c).wrapInc LC.LC_STAT_SWAP_SEQ c).evt (0x140 + c) 0
    { s with b := b, mem := swapBanks s.mem c }
  else s

/-- The sample record at the start of a current program: each result that is missing is reported for its leg (R16, R183, R204). -/
def Block.sampleTaken (b : Block) (a : Nat) : Block :=
  let x := b.sample a
  let legs := b.missingLegs a
  let b := (b.setSample a { x with placed := false, series := 0 }).flag SNS.AXS_REC_STALE (!legs.isEmpty) 0 a
  b.each legs (fun b leg => (b.evt 0x10 3).raise 0x19 (0x20 + leg))

/-- Words of the input latch; the manual gives their content and not their layout (DESIGN CHOICE, log entry 21). -/
def State.fillLatch (s : State) (c : Nat) : State :=
  { s with mem := memPuts s.mem (ctxBase c + 0xC0) ((List.range 8).map (Config.latchWord (s.latched c))) }

/-- What only a current program's start does. -/
def Block.currentStart (b : Block) (c : Nat) : Block :=
  let a := b.get LC.LC_CFG_AXIS c
  let b := ((b.axUndefer a).sampleTaken a).takeSetpoints a (b.get LC.LC_SLOT_SLOT c)
  if (b.ax a).seeded then b.restartRamps a rampRestart else b

/-- The first CATCH run that starts after the second step decides (R265). -/
def Block.catchStart (b : Block) (c : Nat) : Block :=
  let a := b.get LC.LC_CFG_AXIS c
  if b.get LC.LC_CFG_PROG c = 0x13 ∧ b.drv a = 1 then
    b.setAx a { b.ax a with catching := { (b.ax a).catching with armed := 2 ≤ (b.ax a).catching.steps } }
  else b

/-- What an observer's next run takes: OBS_ENC a new electrical zero, both sensored and injection observers the seed of a START from DC (R264,
R278). -/
def State.takeSeed (s : State) (c : Nat) : State :=
  let a := s.b.get LC.LC_CFG_AXIS c
  let x := s.b.ax a
  match s.b.get LC.LC_CFG_PROG c with
  | 0x10 =>
    let x := if x.zeroNext then { x with zeroNext := false, encZero := (s.b.rd AX.AX_ALIGN_POS a).toNat, encOfs := 0 } else x
    let s : State := { s with b := s.b.setAx a x }
    match x.seed with
    | some th => { s with b := s.b.setAx a { x with seed := none, encOfs := ux 16 (x.encOfs + (th : Int) - s.encAngle a) } }
    | none => s
  | 0x12 =>
    match x.seed with
    | some th =>
      { s with
        b := s.b.setAx a { x with seed := none }
        mem := memPuts s.mem (ctxBase c) (stateWords 0 ++ stateWords (65536 * (th : Int))) }
    | none => s
  | _ => s

/-- The angle that a current program's run takes, in `AX_EST` (R291). -/
def Block.showAngle (b : Block) (c theta : Nat) : Block :=
  if b.get LC.LC_CFG_ROLE c = 0 then b.put AX.AX_EST_THETA (theta % 65536) (b.get LC.LC_CFG_AXIS c) else b

/-- A start slot arrives: everything the run reads is read here, and what it will give is held in the context (R18, R222, R237). -/
def State.runStart (s : State) (c : Nat) : State :=
  if !s.b.canStart c then s
  else
    let l := s.b.lc c
    let role := s.b.get LC.LC_CFG_ROLE c
    if s.b.mode = 4 ∧ role ≠ 1 then { s with b := s.b.setLc c { l with ran := true } }
    else
      let prior := l.prior.getD (memWords s.mem (ctxBase c) 64)
      let b := s.b.setLc c { l with ran := true, busy := true, rampFresh := l.rampFresh || l.stopped, prior := some prior }
      let b := (b.countStart c).takeXfer c
      let s := State.takeSwap { s with b := b } c
      let b := if role = 0 then s.b.currentStart c else s.b
      let b := ((b.newTarget c).catchStart c).genDeliver c
      let s := State.fillLatch (State.takeSeed { s with b := b } c) c
      let o := s.runOf c
      let o := { o with skip := (s.b.lc c).plSkip }
      { s with b := ((s.b.setLc c { s.b.lc c with cur := o, stopped := false, tm := s.b.on LC.LC_TM_EN c }).startsUsed c o).showAngle c o.theta }

/-! ## The compare set of a current program (R222) -/

/-- The compare set written with its GO on the legs of the context's sets (R140, R206, R222). -/
def Block.writeSet (b : Block) (c : Nat) (ps : List CmpPair) : Block :=
  ((b.ctxLegs c).zip ps).foldl (fun b x =>
    ((b.wr LEG.LEG_CMP1 x.2.c1 x.1).wr LEG.LEG_CMP2 x.2.c2 x.1).seal x.1) b

/-! ## Estimates, UCG and what they decide (R263, R269, R277, R279) -/

/-- UCG of an axis (R269). -/
def Block.ucgOf (b : Block) (a : Nat) : Bool :=
  if !b.on AX.AX_DRV_W_VALID a then false
  else
    let w := if b.drv a = 4 ∨ b.drv a = 5 then (b.ax a).wHeld else sx 16 (b.get AX.AX_EST_W a)
    let l := 8 * b.axGet AX.AX_UCG_KE a * w.natAbs
    let r := b.axGet AX.AX_UCG_UCG_RATIO a * b.get SNS.VB_RES_VALUE 0 (b.axBus a)
    if b.axComm a = 5 then r ≤ l else r * r ≤ 3 * l * l

/-- |ω̂| lies below W_STILL. -/
def Block.still (b : Block) (a : Nat) : Bool :=
  b.on AX.AX_DRV_W_VALID a && decide ((sx 16 (b.get AX.AX_EST_W a)).natAbs < b.axGet AX.AX_STILL_W_STILL a)

/-- STOPPING ends (R279). -/
def Block.stopped (b : Block) (a : Nat) : Block :=
  if b.axGet AX.AX_TIME2_T_HOLD a = 0 then b.toIdle a
  else (b.setAx a { b.ax a with dcHold := true }).setDrv a 7

/-- ASC and STOPPING at standstill. -/
def Block.atStandstill (b : Block) (a : Nat) : Block :=
  if !b.still a then b
  else if b.drv a = 6 ∧ b.on AX.AX_DRV_ASC_AUTO a then
    if (b.ax a).ascFromCatch then
      (b.setAx a { b.ax a with ascFromCatch := false, convRun := 0, polTests := 0, polarity := false }).setDrv a 2
    else b.toIdle a
  else if b.drv a = 8 then b.stopped a
  else b

/-- A new speed estimate and delivered angle. -/
def Block.setEst (b : Block) (a : Nat) (w : Int) (theta : Nat) (valid : Bool) : Block :=
  ((b.put AX.AX_EST_W (ux 16 (satS 16 w)) a).setAx a { b.ax a with theta := theta % 65536 }).flag AX.AX_DRV_W_VALID valid a

/-- After a run of the axis's observer, or of VF. -/
def Block.afterEstimate (b : Block) (a : Nat) : Block := (b.flag AX.AX_DRV_UCG (b.ucgOf a) a).atStandstill a

/-- Speed and angle of the two observers blended. -/
def Block.blend (b : Block) (a : Nat) (wt : Int × Int) : Block :=
  let s := b.ax a
  let d := sx 16 ((s.thB + 65536 - s.thH % 65536) % 65536)
  let th := ux 16 (s.thH + divRne (wt.1 * d) wt.2.toNat)
  b.setEst a (if wt.1 = 0 then s.wH else s.wB) th true

/-- The extrapolated angle (R268). -/
def AxSt.thetaX (s : AxSt) (wTs : Nat) : Nat := ux 16 (s.thetaHeld + s.wHeld * wTs * s.xRuns / (32768 * 16))

/-! ## Loss and re-lock (R268 to R272) -/

/-- CFU requests a transfer. -/
def Block.requestXfer (b : Block) (c : Nat) (man preset : Bool) : Block :=
  (b.setLc c { b.lc c with xfer := some (man, preset) }).put LC.LC_STAT_XFER_PEND 1 c

/-- A loss is taken. -/
def Block.loss (b : Block) (a : Nat) : Block :=
  let st := b.drv a
  if !(st == 3 || st == 8) then b
  else
    let b := ((b.bump AX.AX_LOSS_CNT_COUNT AX.AX_LOSS_CNT_OVF a).evt (0x60 + a) 7).raise 0x24 (0x60 + a)
    let b := b.setAx a { b.ax a with lossStopping := st == 8, goodRun := 0, stalling := false }
    let b := b.put AX.AX_EST_W (ux 16 (satS 16 (b.ax a).wHeld)) a
    let b := b.flag AX.AX_DRV_UCG (b.ucgOf a) a
    let spd := (b.spdCtx a).toList
    if !b.on AX.AX_DRV_UCG a then
      let b := b.each spd (fun b c => (b.wr LC.LC_MAN 0 c).requestXfer c true false)
      (b.setAx a { b.ax a with moved := spd }).setDrv a 4
    else if b.axChop a then
      let cs := (b.curCtx a).toList ++ spd
      let b := b.each cs (fun b c => b.requestXfer c true true)
      ((b.setAx a { b.ax a with moved := cs }).bump AX.AX_RIDE_CNT_COUNT AX.AX_RIDE_CNT_OVF a).setDrv a 5
    else b.rideFail a

/-- The axis locks again. -/
def Block.relock (b : Block) (a : Nat) : Block :=
  let s := b.ax a
  let b := b.each s.moved (fun b c => b.requestXfer c false false)
  let b := b.setAx a { s with moved := [], lossRun := 0, goodRun := 0, lossStopping := false }
  (b.evt (0x60 + a) 8).setDrv a (if s.lossStopping then 8 else 3)

/-- The angle that the current program takes from now on. -/
def Block.offerAngle (b : Block) (a theta : Nat) : Block := b.setAx a { b.ax a with theta := theta % 65536 }

/-- One observer run judged: whether it is bad, and the runs that make a loss and a re-lock. A good run, the one that locks again too, gives the
speed and angle that a later loss holds. `wTs` is the observer's W_TS. -/
def Block.judgeRun (b : Block) (a : Nat) (bad : Bool) (lossN relockN wTs : Nat) (w : Int) (theta : Nat) : Block :=
  let s := b.ax a
  let st := b.drv a
  if st = 3 ∨ st = 8 then
    if !bad then b.setAx a { s with lossRun := 0, xRuns := 0, wHeld := w, thetaHeld := theta % 65536 }
    else
      let s := { s with lossRun := s.lossRun + 1, xRuns := s.xRuns + 1 }
      let b := b.setAx a s
      if lossN ≤ s.lossRun then (b.loss a).offerAngle a (s.thetaX wTs) else b
  else if st = 4 ∨ st = 5 then
    let s := { s with xRuns := s.xRuns + 1, goodRun := if bad then 0 else s.goodRun + 1 }
    let b := b.setAx a { s with theta := s.thetaX wTs }
    if relockN ≤ s.goodRun then
      ((b.setAx a { s with xRuns := 0, wHeld := w, thetaHeld := theta % 65536 }).relock a).setEst a w theta true
    else b
  else b.setAx a { s with lossRun := 0, goodRun := 0, xRuns := 0, wHeld := w, thetaHeld := theta % 65536 }

/-- OBS_ENC completes. While a loss is detected and handled, the held estimate stands in for the channel's (R268, R269). -/
def State.encDone (s : State) (c : Nat) (o : RunOut) : State :=
  let a := s.b.get LC.LC_CFG_AXIS c
  let f := s.b.axFb a
  let ok := (s.b.fb f).latValid &&
    (match s.b.ctxOf a [5] with
     | some six => (s.hallSector six).isSome
     | none => true)
  let judged := s.b.axComm a == 1 || s.b.axComm a == 3
  let st := s.b.drv a
  let held := judged && (st == 4 || st == 5 || (!ok && (st == 3 || st == 8)))
  let b := if held then s.b else s.b.setEst a o.w o.theta ok
  let b := if judged then b.judgeRun a (!ok) 1 (Config.relockN a) (s.coef c 0) o.w o.theta else b
  { s with b := b.afterEstimate a }

/-- OBS_BEMF completes. -/
def State.bemfDone (s : State) (c : Nat) (o : RunOut) : State :=
  let a := s.b.get LC.LC_CFG_AXIS c
  let wt := blendWeight o.w (s.coefS c 10) (s.coefS c 11)
  let b := s.b.setAx a { s.b.ax a with wB := o.w, thB := o.theta % 65536 }
  let lost := b.drv a = 4 ∨ b.drv a = 5
  let b := if lost then b else b.blend a wt
  let above := s.coefS c 7 < o.resid
  let bad := above && (lost || wt.1 == wt.2)
  let w := if lost then o.w else sx 16 (b.get AX.AX_EST_W a)
  let th := if lost then o.theta else (b.ax a).theta
  let b := b.judgeRun a bad (max 1 (s.coef c 8 % 256)) (max 1 (s.coef c 9 % 256)) (s.coef c 0) w th
  { s with b := b.afterEstimate a }

/-- The mean of a sum over a count. -/
def meanOf (x : Nat × Int) : Int := divRne x.2 (max 1 x.1)

/-- OBS_HFI completes: the blend but in a loss, and in ALIGN convergence and polarity (R261 to R263). -/
def State.hfiDone (s : State) (c : Nat) (o : RunOut) : State :=
  let a := s.b.get LC.LC_CFG_AXIS c
  let b := s.b.setAx a { s.b.ax a with wH := o.w, thH := o.theta % 65536 }
  let lost := b.axComm a != 2 || b.drv a == 4 || b.drv a == 5
  let b := if lost then b else (b.blend a (s.weight a)).afterEstimate a
  let x := b.ax a
  if lost || s.b.drv a != 2 then { s with b := b }
  else if !x.polarity then
    let n := if o.resid.natAbs ≤ s.coef c 4 then x.convRun + 1 else 0
    let conv := max 1 (s.coef c 5 % 256) ≤ n
    { s with b := b.setAx a { x with convRun := if conv then 0 else n, polarity := conv, ripple := (0, 0) } }
  else
    let t := max 1 (s.coef c 7 % 256)
    let n := x.convRun + 1
    let rip := if o.mark then (x.ripple.1 + 1, x.ripple.2 + o.th) else x.ripple
    if n < t then { s with b := b.setAx a { x with convRun := n, ripple := rip } }
    else if n = t then { s with b := b.setAx a { x with convRun := n, ripplePos := rip, ripple := (0, 0) } }
    else if n < 2 * t then { s with b := b.setAx a { x with convRun := n, ripple := rip } }
    else
      let d := meanOf x.ripplePos - meanOf rip
      let x : AxSt := { x with convRun := 0, ripple := (0, 0), ripplePos := (0, 0) }
      if s.coefS c 8 ≤ d ∨ d ≤ -(s.coefS c 8) then
        let flip := !decide (s.coefS c 8 ≤ d)
        let th := if flip then (x.thH + 32768) % 65536 else x.thH
        let b := (((b.setAx a { x with polarity := false, thH := th }).put AX.AX_DRV_ALIGNED 1 a).blend a (s.weight a)).afterEstimate a
        { s with
          b := (b.setDrv a 3).restartRamps a rampRestart
          mem := if flip then memPuts s.mem (ctxBase c + 8) (stateWords ((s.stateVal c 1 + 2 ^ 31) % 2 ^ 32)) else s.mem }
      else if 2 ≤ x.polTests then { s with b := (b.setAx a { x with polTests := 0, polarity := false }).startFail a 2 }
      else { s with b := b.setAx a { x with polTests := x.polTests + 1 } }

/-! ## Flying start (R265 to R267) -/

/-- The sector of an LO pattern of three legs, counted forward; bit i stands for the phase of leg i (R265). -/
def loSector (pat : Nat) : Option Nat :=
  match pat with
  | 5 => some 0
  | 1 => some 1
  | 3 => some 2
  | 2 => some 3
  | 6 => some 4
  | 4 => some 5
  | _ => none

/-- Whether a step between two patterns runs forward, and the boundary it crosses as an angle. -/
def loStep (last : Option Nat) (pat : Nat) : Bool × Nat :=
  match last.bind loSector, loSector pat with
  | some i, some j =>
    let fwd := decide ((j + 6 - i) % 6 < 3)
    (fwd, (if fwd then j else (j + 1) % 6) * 65536 / 6)
  | _, _ => (true, 0)

/-- The LO pattern of an axis now: its first three legs. -/
def Block.loPattern (b : Block) (a : Nat) : Nat :=
  let three := (b.axLegs a).take 3
  ofBits ((List.range 3).filter (fun i =>
    match three[i]? with
    | some l => b.mapBit SC.NODE_STAT_CMP 0 (l / 2) (l % 2)
    | none => false))

/-- A step of the pattern: the first two fix the estimate. -/
def CatchSt.stepTo (k : CatchSt) (pat : Nat) (now : Int) : CatchSt :=
  let x := loStep k.last pat
  match k.steps with
  | 0 => { k with last := some pat, steps := 1, t1 := now }
  | 1 => { k with last := some pat, steps := 2, t2 := now, forward := x.1, theta := x.2 }
  | n + 2 => { k with last := some pat, steps := n + 3 }

/-- The LO pattern of an axis in CATCH after a LO comparator of one of its legs changed; the CATCH program reads it, so an axis without one
counts no step. The legs are masked and no edge is timed, so `t` is the fine step of the present LCLK at which the comparator acted; the crossing
time takes off its delay (R163; DEDUCED, log entry 138). -/
def Block.catchStep (b : Block) (leg : Nat) (up : Bool) (t : Nat) : Block :=
  match b.axisOf leg with
  | none => b
  | some a =>
    if b.drv a ≠ 1 ∨ !((b.axLegs a).take 3).contains leg ∨ (b.ctxOf a [0x13]).isNone then b
    else b.setAx a { b.ax a with catching := (b.ax a).catching.stepTo (b.loPattern a) (64 * (b.now : Int) + (t % 64 : Nat) - Config.cmpDelay leg 0 up) }

/-- The speed of CATCH in Q1.15 of the speed base: a sixth of a turn between the two steps, where `ts` is the run interval in fine steps
(R253, R265). -/
def CatchSt.speed (k : CatchSt) (ts wTs : Nat) : Int :=
  let w := satS 16 (divRne (32768 * 16 * 65536 * ts) (6 * (max 1 (k.t2 - k.t1)).toNat * max 1 wTs))
  if k.forward then w else satS 16 (-w)

/-- The angle of CATCH at a time: the boundary plus CATCH_OFS, advanced (R265). -/
def CatchSt.angle (k : CatchSt) (ofs now : Nat) : Nat :=
  let adv := divRne (65536 * (64 * (now : Int) - k.t2)) (6 * (max 1 (k.t2 - k.t1)).toNat)
  ux 16 (k.theta + ofs + if k.forward then adv else -adv)

/-- CATCH decides (R266, R267). A result that leads to RUN seeds OBS_BEMF with the angle and the speed. -/
def Block.catchDecide (b : Block) (a : Nat) (w : Int) (theta : Nat) : Block :=
  let s := b.ax a
  let dt := (b.now - s.catching.start) / 25000
  let cmd : Int := match b.spdCtx a with
    | some c => b.spTarget c
    | none => s.torque
  let res : Nat := if w.natAbs < b.axGet AX.AX_STILL_W_STILL a then 1
    else if cmd = 0 ∨ (0 < cmd ∧ 0 < w) ∨ (cmd < 0 ∧ w < 0) then 2
    else if 2 * b.get SNS.VB_RES_VALUE 0 (b.axBus a) < b.axGet AX.AX_STILL_V_HEAD a then 3 else 4
  let b := ((b.put AX.AX_CATCH_RESULT res a).put AX.AX_CATCH_STEPS (min 15 s.catching.steps) a).put AX.AX_CATCH_T_DEC (min 255 dt) a
  let b := (b.put AX.AX_CATCH_W (ux 16 w) a).evt (0x60 + a) 6
  let b := b.setAx a { s with catching := {}, convRun := 0, polTests := 0, polarity := false }
  if res = 1 then (b.setDrv a 2).mask a false
  else if res = 4 then b.toAsc a true true
  else ((b.setAx a { b.ax a with seeded := true, wB := w, thB := theta }).setEst a w theta true).setDrv a 3

/-- CATCH completes. -/
def State.catchDone (s : State) (c : Nat) : State :=
  let b := s.b
  let a := b.get LC.LC_CFG_AXIS c
  let k := (b.ax a).catching
  let tb := b.axTb a
  let start := (b.rd LC.LC_TS_LO c).toNat + 2 ^ 32 * (b.rd LC.LC_TS_HI c).toNat
  if b.drv a = 1 ∧ k.armed then
    { s with b := b.catchDecide a (k.speed (halfLen (b.period tb) (b.tb tb).dbl) (s.coef c 0)) (k.angle (s.coef c 1) start) }
  else s

/-! ## Limits and stall after a current run (R276, R282) -/

/-- Units of the accumulator of R276 in one step of `AX_I2T_ACC`. -/
def i2tUnit : Nat := 16384000000000

/-- The I²t accumulator after a run. -/
def Block.i2tRun (b : Block) (a : Nat) (o : RunOut) : Block :=
  let k := b.axTb a
  let h : Int := halfLen (b.period k) (b.tb k).dbl
  let ic := sx 16 (b.axGet AX.AX_I2T_I_CONT a)
  let acc := (max 0 (((b.ax a).i2t : Int) + (o.i2 - ic * ic) * h)).toNat
  let acc := min acc ((2 ^ 32 - 1) * i2tUnit)
  let lim := (b.eff AX.AX_I2T_MAX a 0).toNat * i2tUnit
  let b := (b.setAx a { b.ax a with i2t := acc }).wr AX.AX_I2T_ACC (BitVec.ofNat 32 (acc / i2tUnit)) a
  if b.on AX.AX_DRV_FOLD a then (if 2 * acc ≤ lim then b.put AX.AX_DRV_FOLD 0 a else b)
  else if lim ≤ acc then ((b.put AX.AX_DRV_FOLD 1 a).evt (0x60 + a) 11).raise 0x29 (0x60 + a)
  else b

/-- The stall condition after a run; a VF axis has stall prevention instead (R282, R284). -/
def Block.stallRun (b : Block) (a : Nat) (o : RunOut) : Block :=
  let on := (b.drv a == 3 || b.drv a == 8) && b.axComm a != 4 && b.on AX.AX_DRV_W_VALID a && decide (b.axGet AX.AX_STALL_STALL_I a ≤ o.iStall.natAbs) &&
    decide ((sx 16 (b.get AX.AX_EST_W a)).natAbs ≤ b.axGet AX.AX_STALL_STALL_W a)
  b.setAx a { b.ax a with stalling := on }

/-- The run of a current program completes. -/
def Block.currentDone (b : Block) (c : Nat) (o : RunOut) : Block :=
  let a := b.get LC.LC_CFG_AXIS c
  let b := (b.writeSet c o.pairs).flag LC.LC_STAT_BUS_LOW o.busLow c
  let b := if b.get LC.LC_CFG_PROG c = 4 then (b.setEst a o.w o.theta true).afterEstimate a else b
  let b := (b.i2tRun a o).stallRun a o
  let b := if (b.ax a).seeded then (b.setAx a { b.ax a with seeded := false }).mask a false else b
  if b.drv a = 8 ∧ !b.on AX.AX_DRV_W_VALID a then b.toIdle a else b

/-! ## Plausibility and field weakening (R241, R273) -/

/-- PLAUS completes. -/
def State.plausDone (s : State) (c : Nat) (o : RunOut) : State :=
  let n := max 1 (s.coef c 12 % 256)
  let b := (s.b.put LC.LC_PL_RESID (ux 16 o.resid) c).put LC.LC_PL_TH (ux 16 o.th) c
  let l := b.lc c
  if o.skip then { s with b := b }
  else if o.th < o.resid then
    let b := b.setLc c { l with plOver := min n (l.plOver + 1), plUnder := 0 }
    if n ≤ l.plOver + 1 ∧ !b.on LC.LC_STAT_PL_EXCEED c then
      let b := (b.put LC.LC_STAT_PL_EXCEED 1 c).bump LC.LC_PL_CNT_COUNT LC.LC_PL_CNT_OVF c
      { s with b := (b.evt (0x140 + c) 3).raise 0x21 (0x140 + c) }
    else { s with b := b }
  else
    let b := b.setLc c { l with plOver := 0, plUnder := min n (l.plUnder + 1) }
    { s with b := if n ≤ l.plUnder + 1 then b.put LC.LC_STAT_PL_EXCEED 0 c else b }

/-! ## The completion of a run (R222, R237, R238, R343) -/

/-- The telemetry record of a run. -/
def State.telemetry (s : State) (c : Nat) : State :=
  let b := s.b
  let a := b.get LC.LC_CFG_AXIS c
  if !(b.lc c).tm || !b.on ⟨AX.AX_CFG3, 18, 1⟩ a then s
  else
    let st := (b.rd LC.LC_STAT c).toNat
    let w0 := c + 256 * b.get LC.LC_CFG_PROG c + 65536 * (st / 256 % 256) + 2 ^ 24 * slice (b.rd SNS.AXS_REC 0 a) 24 5
    let e := [BitVec.ofNat 32 w0, b.rd LC.LC_TS_LO c, b.rd LC.LC_TS_HI c] ++ memWords s.mem (ctxBase c + 0xF0) 4 ++
      [BitVec.ofNat 32 (st % 256)]
    { s with b := b.hwPush (b.get ⟨AX.AX_RINGS, 16, 16⟩ a % 64) e }

/-- A run whose two engines disagree writes nothing (R238). -/
def Block.dualMismatch (b : Block) (c : Nat) : Block :=
  let b := (b.bump LC.LC_DUAL_CNT_COUNT LC.LC_DUAL_CNT_OVF c).bump LEA.DUAL_CNT_COUNT LEA.DUAL_CNT_OVF
  (b.evt (0x140 + c) 4).raise 0x20 (0x140 + c)

/-- What a run gives once the values of a law that is not printed have arrived: OBS_ENC's filtered speed, OBS_BEMF's estimate and residual,
HARM's output within its bounds (DESIGN CHOICE, log entry 5). -/
def State.finish (s : State) (c : Nat) (r : RunResult) (o : RunOut) : RunOut :=
  let sig (th : Nat) : List Int := [sx 16 th, satS 16 r.w, satS 16 r.resid]
  match s.b.get LC.LC_CFG_PROG c with
  | 0x10 => { o with w := satS 16 r.w, sig := sig o.theta }
  | 0x11 => { o with w := satS 16 r.w, theta := r.theta % 65536, resid := satS 16 r.resid, sig := sig r.theta }
  | 0x24 =>
    if o.mark then o
    else
      let x := limiter o.lo o.hi (satS 16 r.out)
      { o with out := x.1, limited := x.2 }
  | _ => o

/-- The values that a run's output words show (R224). -/
def RunOut.values (o : RunOut) : List Int :=
  o.sig ++ [o.out, o.out2, o.target, o.r, o.w, o.theta, o.lo, o.hi, o.resid, o.th] ++ o.pairs.map (fun p => (p.c1.toNat : Int))

/-- The state words a run writes: its state values, or free words where the law is not printed (R224). -/
def State.newState (s : State) (c : Nat) (o : RunOut) : List Word :=
  match s.b.get LC.LC_CFG_PROG c with
  | 0x10 | 0x11 | 0x24 => (List.range 16).map (Config.stateWord (s.b.get LC.LC_CFG_PROG c) o.values)
  | _ => ((o.state.take 8).map stateWords).flatten

/-- The output words a run writes; the manual gives their content and not their layout (DESIGN CHOICE, log entry 21). -/
def State.newOutputs (s : State) (c : Nat) (o : RunOut) : List Word :=
  (List.range 8).map (Config.outputWord (s.b.get LC.LC_CFG_PROG c) o.values)

/-- What the run leaves in its context. -/
def State.writeBack (s : State) (c : Nat) (o : RunOut) : State :=
  let b := s.b
  let l := b.lc c
  let role := b.get LC.LC_CFG_ROLE c
  let b := b.setLc c { l with last := o, done := true, preset := l.preset && b.on LC.LC_STAT_MODE c }
  let b := b.flag LC.LC_STAT_LIMITED o.limited c
  let b := if o.accOvf then b.put LC.LC_STAT_ACC_OVF 1 c else b
  let b := if role = 0 ∨ role = 3 then b.rampDone c o else b
  { s with b := b, mem := memPuts (memPuts s.mem (ctxBase c) (s.newState c o)) (ctxBase c + 0xE0) (s.newOutputs c o) }

/-- A run completes. -/
def State.runDone (s : State) (c : Nat) (r : RunResult) : State :=
  let l := s.b.lc c
  if !s.b.running || !decide (c < s.b.numCtx) || s.b.ctxSt c != 2 || !l.busy then s
  else
    let b := s.b.setLc c { l with busy := false, prior := none }
    if b.dualNow c && !r.agree then { s with b := (b.setLc c l.lostRun).dualMismatch c }
    else
      let s : State := { s with b := b }
      let o := s.finish c r l.cur
      let s := s.writeBack c o
      let s := match b.get LC.LC_CFG_PROG c with
        | 0x10 => s.encDone c o
        | 0x11 => s.bemfDone c o
        | 0x12 => s.hfiDone c o
        | 0x13 => s.catchDone c
        | 0x18 => s.plausDone c o
        | 0x22 => { s with b := s.b.flag AX.AX_DRV_FW_SAT o.mark (s.b.get LC.LC_CFG_AXIS c) }
        | 0x20 | 0x21 | 0x23 | 0x24 | 0x25 => s
        | _ => { s with b := s.b.currentDone c o }
      (s.telemetry c).tcuAfterRun c

/-! ## `LC_CTL` (R226, R227, R239, R240, R246) -/

/-- The check of a write of `LC_CTL`. -/
def Block.lcCtlNo (b : Block) (c : Nat) (w : Word) : Option Nat :=
  let h := LC.LC_CTL_HANDLE.of w
  let swap := LC.LC_CTL_SWAP.of w = 1
  let xfer := LC.LC_CTL_XFER.of w = 1
  let role := b.get LC.LC_CFG_ROLE c
  let a := b.get LC.LC_CFG_AXIS c
  let held := (b.drv a = 4 ∨ b.drv a = 5) ∧ (b.curCtx a = some c ∨ b.spdCtx a = some c)
  if !swap ∧ !xfer ∧ LC.LC_CTL_RAMP_RESTART.of w = 0 then (if b.ctxSt c = 0 then some 8 else none)
  else if h % 256 ≠ c then some 2
  else if b.ctxSt c = 0 ∨ h / 256 ≠ b.get LC.LC_HANDLE_HANDLE c / 256 then some 1
  else if (swap ∨ xfer) ∧ b.ctxSt c = 4 then some 9
  else if swap ∧ b.on LC.LC_STAT_SWAP_PEND c then some 4
  else if xfer ∧ role ≠ 0 ∧ role ≠ 3 then some 6
  else if xfer ∧ (b.on LC.LC_STAT_XFER_PEND c ∨ held) then some 5
  else none

/-- A write of `LC_CTL`. -/
def Block.lcCtl (b : Block) (c : Nat) (w : Word) : Block × Ack :=
  match b.lcCtlNo c w with
  | some n => (b, .refused n)
  | none =>
    let b := if LC.LC_CTL_SWAP.of w = 1 then b.put LC.LC_STAT_SWAP_PEND 1 c else b
    let b := if LC.LC_CTL_XFER.of w = 1 then
        b.requestXfer c (LC.LC_CTL_TO_MANUAL.of w == 1) (LC.LC_CTL_MAN_PRESET.of w == 1)
      else b
    (if LC.LC_CTL_RAMP_RESTART.of w = 1 then rampRestart b c else b, .ok)

/-! ## Scrubs (R220, R225) -/

/-- The context-memory scrub reads a word. -/
def State.ctxScrub (s : State) (addr : Nat) (seen : Ecc) : State :=
  let c := (addr - 0x490000) / 0x100
  if !s.b.awake || addr < 0x490000 || addr % 4 != 0 || !decide (c < s.b.numCtx) || s.b.fenced 0xC then s
  else
    match seen with
    | .double =>
      { s with b := s.b.raiseWith ⟨0x22, 0x140 + c, addr, 6, 1⟩, mem := memPut s.mem addr 0 }
    | _ => s

/-- The program-store scrub reads a word. -/
def storeScrub (addr : Nat) (seen : Ecc) (b : Block) : Block :=
  let e := (addr - 0x4A0000) / 0x4000
  if !b.awake || addr < 0x4A0000 || addr % 4 != 0 || !decide (e < b.numEng) || b.fenced (0x1E0 + e) then b
  else
    match seen with
    | .clean => b
    | .single => b.bump LE.ENG_STORE_CORR_COUNT LE.ENG_STORE_CORR_OVF e
    | .double => b.raiseWith ⟨0x1F, 0x1E0 + e, addr, 6, 1⟩

/-! ## Fencing of engines and cover plans (R244 to R246) -/

/-- Contexts whose plan does not place them, with the others of their axis. -/
def Block.orphan (b : Block) (axis : Nat) : Block :=
  let b := b.each (b.axCtxs axis) (fun b c =>
    (b.put LC.LC_STAT_ST 4 c).setLc c { (b.lc c).lostRun with planWait := false })
  (b.evt 0xC 2).raise 0x23 (0x60 + axis)

/-- A context moves to its planned place; one that runs becomes MIGRATING. -/
def Block.migrate (b : Block) (c : Nat) (p : Placed) : Block :=
  let l := b.lc c
  let old := b.get LC.LC_CFG_PHASE c
  let b := ((b.put LC.LC_SLOT_SLOT p.slot c).put LC.LC_SLOT_ENG p.eng c).put LC.LC_CFG_PHASE p.phase c
  let b := b.bump LEA.MIG_CNT_COUNT LEA.MIG_CNT_OVF
  let b := if b.ctxSt c = 2 then b.put LC.LC_STAT_ST 3 c else b
  b.setLc c { l.lostRun with ran := l.ran && !l.busy, phase0 := if l.planWait then l.phase0 else old, planWait := false }

/-- The plan of a fenced engine is carried out. -/
def Block.carryPlan (b : Block) (plan : List (Nat × Option Placed)) : Block :=
  let axes := ((plan.filter (fun x => x.2.isNone)).map (fun x => b.get LC.LC_CFG_AXIS x.1)).eraseDups
  let b := plan.foldl (fun b x =>
    match x.2 with
    | some p => if axes.contains (b.get LC.LC_CFG_AXIS x.1) then b else b.migrate x.1 p
    | none => b) b
  b.each axes Block.orphan

/-- Dual-run contexts of a fenced engine run on alone (R238). -/
def Block.dualAlone (b : Block) (e : Nat) : Block :=
  b.each (b.ctxs.filter (fun c => b.ctxPlaced c && b.dualNow c)) (fun b c =>
    if b.get LC.LC_SLOT_ENG c = e then (b.put LC.LC_SLOT_ENG (b.get LC.LC_SLOT_ENG2 c) c).put LC.LC_STAT_DUAL_LOST 1 c
    else if b.get LC.LC_SLOT_ENG2 c = e then b.put LC.LC_STAT_DUAL_LOST 1 c else b)

/-- An engine is fenced; its page already shows it. Its contexts follow the plan that stands; where one is being computed, they wait for it
(R245). -/
def Block.engineFenced (b : Block) (e : Nat) : Block :=
  let wait := b.on LEA.LEA_STAT_PLAN_BUSY
  let alone := b.aloneOn e
  let b := ((b.put LE.ENG_STAT_FENCED 1 e).setMap LEA.LEA_STAT_FENCED e true).evt 0xC 0
  let b := b.dualAlone e
  let b := if wait then
      b.each alone (fun b c =>
        let l := b.lc c
        let b := if b.ctxSt c = 2 then b.put LC.LC_STAT_ST 3 c else b
        b.setLc c { l.lostRun with ran := l.ran && !l.busy, phase0 := b.get LC.LC_CFG_PHASE c, planWait := true })
    else b.carryPlan (Tab.get [] b.plans e)
  b.engineRefresh.planStart

/-- An engine returns from its fence. -/
def Block.engineBack (b : Block) (e : Nat) : Block :=
  ((b.put LE.ENG_STAT_FENCED 0 e).setMap LEA.LEA_STAT_FENCED e false).engineRefresh.planStart

/-- The cover plans complete. The contexts of a fenced engine that waited for theirs migrate, and a migration asks for plans anew (R244). -/
def coverPlanDone (b : Block) : Block :=
  if !b.awake || !b.on LEA.LEA_STAT_PLAN_BUSY then b
  else
    let waits := (List.range b.numEng).filter (fun e => b.fenced (0x1E0 + e) && !(b.aloneOn e).isEmpty)
    let b := (b.each waits (fun b e => b.carryPlan (b.coverPlan e))).engineRefresh
    let b := b.each (List.range b.numEng) (fun b e =>
      let plan := b.coverPlan e
      let b := { b with plans := Tab.set [] b.plans e plan }
      let bad := (plan.find? (fun x => x.2.isNone)).map Prod.fst
      let cov := b.on LE.ENG_STAT_BOUND e && !b.fenced (0x1E0 + e) && bad.isNone
      let lost := b.on LE.ENG_STAT_COVERED e && b.on LE.ENG_STAT_BOUND e && !cov
      let b := (b.flag LE.ENG_STAT_COVERED cov e).put LE.ENG_PLAN_UNPLACED (bad.getD 0xFF) e
      let b := b.setMap LEA.LEA_STAT_COVERED e cov
      if lost then b.evt 0xC 3 else b)
    b.flag LEA.LEA_STAT_PLAN_BUSY (!waits.isEmpty)

/-! ## Register writes of LEA's pages (R248 to R251) -/

def Block.leaWrite (b : Block) (r : Reg) (j : Nat) (w : Word) : Block × Ack :=
  if r = LEA.TB_CFG then (if 4095 < LEA.TB_CFG_LEAD.of w then (b, .refused 11) else (b.store r w 0 j, .ok))
  else if r = LEA.DUAL_CNT ∨ r = LEA.MIG_CNT then (if slice w 31 1 = 1 then b.wr r 0 else b, .ok)
  else (b.store r w 0 j, .ok)

def Block.leWrite (b : Block) (r : Reg) (e : Nat) (w : Word) : Block × Ack :=
  if r = LE.ENG_STORE_CORR then (if slice w 31 1 = 1 then b.wr r 0 e else b, .ok) else (b.store r w e, .ok)

def Block.lcWrite (b : Block) (r : Reg) (c : Nat) (w : Word) : Block × Ack :=
  if r = LC.LC_CTL then b.lcCtl c w
  else if b.ctxSt c = 0 then (b, .refused 8)
  else if r = LC.LC_RUNS ∨ r = LC.LC_MISS ∨ r = LC.LC_DUAL_CNT ∨ r = LC.LC_PL_CNT then
    (if slice w 31 1 = 1 then b.wr r 0 c else b, .ok)
  else (b.store r w c, .ok)

end Sys2Proof.Machine
end

