-- ==== Sys2Proof/Machine/Shl.lean ====
section
/-!
DEFINITION. Machine safety functions: groups, requests, latches, STO pins, SS1, safe speed and direction, contactors, the UCG map, Futra,
the processor channel, the parameter block and the swap window (R386 to R416). SHL runs whatever the rest of the die does, so
its commands act in reset too; only PORST_N and the supplies stop it (R387, R388).
-/

namespace Sys2Proof.Machine

/-- SHL runs. -/
def Block.shlRuns (b : Block) : Bool := b.crm.phase != .held

def Block.stg (b : Block) (g : Nat) : StgSt := Tab.get {} b.stgs g
def Block.setStg (b : Block) (g : Nat) (s : StgSt) : Block := { b with stgs := Tab.set {} b.stgs g s }

def groups : List Nat := List.range 8

/-- The state of a group: 0 STO, 1 READY, 2 PERMIT, 3 SS1 (R390). -/
def Block.grp (b : Block) (g : Nat) : Nat := slice (b.rd SHL.GRP_STATE) (2 * g) 2

def Block.setGrp (b : Block) (g st : Nat) : Block := b.put ⟨SHL.GRP_STATE, 2 * g, 2⟩ st

/-- The legs of a group (R389). -/
def Block.grpLegs (b : Block) (g : Nat) : List Nat :=
  bitsOf (b.rd SHL.STG_LEGS_LO 0 g).toNat 32 ++ (bitsOf (b.rd SHL.STG_LEGS_HI 0 g).toNat 32).map (· + 32)

/-- A source of R414 reported to FCR. -/
def Block.shlRaise (b : Block) (src : Nat) : Block := (b.raise src 0x13).evt 0x13 12

/-! ## Requests (R392, R394) -/

/-- A pin pair requests STO. -/
def Block.pairReq (b : Block) (p : Nat) : Bool := !bit b.shl.stoA p || !bit b.shl.stoB p

/-- Byte `k` of the last accepted pair, 4 STO to 7 SLS, at group `g`; zero until a pair is accepted. -/
def Block.futBit (b : Block) (g k : Nat) : Bool := bit (b.rd SHL.FUT_REQ).toNat (8 * (k - 4) + g)

/-- An STO request of a group. -/
def Block.stoReq (b : Block) (g : Nat) : Bool :=
  (List.range 4).any (fun p => b.mapBit SHL.STG_CFG_PAIRS p 0 g && b.pairReq p) ||
    (b.on SHL.STG_CFG_FUTRA 0 g && b.futBit g 4) || b.mapBit SHL.PCH_REQ_STO g

/-- An SS1 request of a group. -/
def Block.ss1Req (b : Block) (g : Nat) : Bool :=
  (b.on SHL.STG_CFG_FUTRA 0 g && b.futBit g 5) || b.mapBit SHL.PCH_REQ_SS1 g

/-- SLS is active; SDI is selected alike (R397, R398). -/
def Block.spdSel (b : Block) (g : Nat) : Bool := b.on SHL.STG_CFG_SLS_EN 0 g || (b.on SHL.STG_CFG_SLS_SEL 0 g && b.futBit g 7)

/-- SDI is active. -/
def Block.sdiActive (b : Block) (g : Nat) : Bool := b.spdSel g && b.get SHL.STG_CFG_SDI 0 g != 0

/-- SLS_LIM as it stands (R412). -/
def Block.slsLim (b : Block) (g : Nat) : Nat :=
  let l := b.get SHL.STG_SPD_SLS_LIM 0 g
  if b.on SHL.SHL_STAT_SWAP_WINDOW then l * b.get SHL.SWAP_CFG_SWAP_SLS / 256 else l

/-! ## Latches (R390, R414) -/

/-- A group enters STO: its event, the drop delay of its CDRs, and the latches that end at entry (R390, R400, R414). A group that stands in STO
since PORST_N has not entered it (DEDUCED, log entry 24). -/
def Block.enterSto (b : Block) (g : Nat) : Block :=
  let linked := groups.filter (fun n => b.on SHL.CDR_CFG_GRP_EN 0 n && b.get SHL.CDR_CFG_GROUP 0 n == g && b.get SHL.CDR_TIME_DELAY 0 n != 0)
  let b := (b.setGrp g 0).evt 0x13 g
  let s := b.stg g
  let b := b.setStg g { s with latch := setBit (setBit s.latch 2 false) 3 false, env := none }
  { b with shl := { b.shl with delay := linked.foldl (fun m n => setBit m n true) b.shl.delay } }

/-- A latch sets on a group, with STO reaction or SS1 reaction. One that sets in SS1 ends it (R390). -/
def Block.latchOn (b : Block) (bitNo : Nat) (ss1 : Bool) (g : Nat) : Block :=
  let s := b.stg g
  if bit s.latch bitNo || bit s.latchSs1 bitNo then b
  else
    let s := if ss1 then { s with latchSs1 := setBit s.latchSs1 bitNo true } else { s with latch := setBit s.latch bitNo true }
    let b := (b.setStg g s).setMap SHL.GRP_FAULT_FAULTED g true
    if b.grp g = 3 then b.enterSto g else b

/-- A latch sets on the groups that `p` names. -/
def Block.latchGroups (b : Block) (bitNo : Nat) (ss1 : Bool) (p : Nat → Bool) : Block :=
  b.each (groups.filter p) (fun b g => b.latchOn bitNo ss1 g)

/-- A latch clears on every group. -/
def Block.unlatch (b : Block) (bitNo : Nat) : Block :=
  b.each groups (fun b g =>
    let s := b.stg g
    if bit s.latch bitNo || bit s.latchSs1 bitNo then
      b.setStg g { s with latch := setBit s.latch bitNo false, latchSs1 := setBit s.latchSs1 bitNo false }
    else b)

/-! ## The group table (R390, R391, R395) -/

/-- The axes with a live leg in a group. -/
def Block.grpAxes (b : Block) (g : Nat) : List Nat :=
  let ls := b.grpLegs g
  b.liveAxes.filter (fun a => (b.liveLegs a).any ls.contains)

/-- A group enters SS1: STOP to its axes (R395). -/
def Block.enterSs1 (b : Block) (g : Nat) : Block :=
  let b := (b.setGrp g 3).setStg g { b.stg g with env := none }
  if b.running then b.each (b.grpAxes g) (fun b a => b.stopSignal a rampRestart) else b

/-- The SDI accumulator cleared, as its register shows (R398). -/
def Block.sdiClear (b : Block) (g : Nat) : Block :=
  (if g < 8 then b.put SHL.SPD_SDI_ACC 0 0 g else b).setStg g { b.stg g with sdi := 0 }

/-- The group enters PERMIT: override released, the SDI accumulator cleared (R390, R398). -/
def Block.enterPermit (b : Block) (g : Nat) : Block := (b.setGrp g 2).sdiClear g

/-- One transition of the table of R390 that the requests and latches now call for. A latch that clears at entry to STO and sets while the
group is in STO is clear at once (DEDUCED, log entry 120). -/
def Block.grpStep (b : Block) (g : Nat) : Block :=
  let s := b.stg g
  let sto := b.stoReq g
  let any := s.latch != 0 || s.latchSs1 != 0
  match b.grp g with
  | 0 =>
    let s := { s with latch := setBit (setBit s.latch 2 false) 3 false }
    let b := b.setStg g s
    if sto || b.ss1Req g || s.latch != 0 || s.latchSs1 != 0 then b
    else if b.on SHL.STG_CFG_RESTART 0 g && !b.mapBit SHL.GRP_FAULT_FAULTED g then b.enterPermit g
    else b.setGrp g 1
  | 1 => if sto || any then b.enterSto g else b
  | 2 => if sto || s.latch != 0 then b.enterSto g else if b.ss1Req g || s.latchSs1 != 0 then b.enterSs1 g else b
  | _ => if sto || s.latch != 0 then b.enterSto g else b

/-- SLS and SDI as active now (R397, R398). -/
def Block.spdRefresh (b : Block) (g : Nat) : Block :=
  let s := b.stg g
  let on := b.sdiActive g
  let b := (b.setMap SHL.GRP_FAULT_SLS_ACT g (b.spdSel g)).setStg g { s with sdiOn := on, slsRun := if b.spdSel g then s.slsRun else 0 }
  if on && !s.sdiOn then b.sdiClear g else b

/-! ## Contactors and brakes (R400, R401) -/

/-- A CDR is to be driven: never while the core is in reset (R44, R400). -/
def Block.cdrWanted (b : Block) (n : Nat) : Bool :=
  let g := b.get SHL.CDR_CFG_GROUP 0 n
  !b.coreReset && b.on SHL.CDR_CFG_EN 0 n && b.mapBit SHL.CDR_REQ_REQ n && !b.mapBit SHL.CDR_STAT_LATCHED n &&
    (!b.on SHL.CDR_CFG_GRP_EN 0 n || b.grp g == 2 || b.grp g == 3 || bit b.shl.delay n)

/-- The CDR outputs as they now are; a change starts TRANS_T (R401). -/
def Block.cdrRefresh (b : Block) : Block :=
  b.each groups (fun b n =>
    let w := b.cdrWanted n
    if w = b.mapBit SHL.CDR_STAT_DRIVEN n then b
    else { (b.setMap SHL.CDR_STAT_DRIVEN n w) with shl := { b.shl with trans := setBit b.shl.trans n true } })

/-- The feedback of a CDR differs from POL XOR its driven state (R401). -/
def Block.cfbBad (b : Block) (n : Nat) : Bool :=
  let want := b.on SHL.CDR_CFG_POL 0 n != b.mapBit SHL.CDR_STAT_DRIVEN n
  b.on SHL.CDR_CFG_EN 0 n && (bitsOf (b.get SHL.CDR_CFG_CFB 0 n) 16).any (fun i => b.mapBit SHL.CDR_STAT_CFB i != want)

/-- The group latches of SHL_CFB whose feedback matches end (R414). -/
def Block.cfbUnlatch (b : Block) : Block := b.each (groups.filter (fun n => !b.cfbBad n)) (fun b n => b.unlatch (24 + n))

/-! ## Overrides (R28, R39, R391, R402) -/

/-- The live UCG map (R402). -/
def Block.ucgBit (b : Block) (leg : Nat) : Bool :=
  match b.shl.pll with
  | some m => bit m leg
  | none => b.legOwner leg != 0 && b.on AX.AX_DRV_UCG (b.get LEG.LEG_STAT_AXIS leg)

/-- The UCG map as a number. -/
def Block.ucgMap (b : Block) : Nat := ofBits ((List.range b.numLegs).filter b.ucgBit)

/-- The pattern SHL commands on a leg: PLL loss before a group's, a group's before the hold of DORMANT (DEDUCED, log entry 25). -/
def Block.shlPattern (b : Block) (leg : Nat) : Option Nat :=
  let ucg := b.ucgBit leg
  if b.shl.pll.isSome then some (if ucg then 1 else 0)
  else
    match groups.find? (fun g => (b.grp g == 0 || b.grp g == 1) && (b.grpLegs g).contains leg) with
    | some g => some (if b.on SHL.STG_CFG_STO_ASC 0 g && ucg then 1 else 0)
    | none => if b.shl.hold then some 0 else none

/-- The overrides of SHL brought to the pads. -/
def Block.shlApply (b : Block) : Block :=
  let legs := List.range b.numLegs
  let pat := legs.map b.shlPattern
  let b := b.each legs (fun b leg => b.setLeg leg { b.leg leg with shl := pat.getD leg none })
  let m := ofBits (legs.filter (fun leg => (pat.getD leg none).isSome))
  ((b.put SHL.OVR_LO_LEG m).put SHL.OVR_HI_LEG (m / 2 ^ 32)).overridesChanged

/-! ## Confirmation and SAFE_N (R409, R411) -/

def Block.checkAgree (b : Block) : Bool := b.on SHL.SHL_STAT_CHECK_DONE && b.rd SHL.PCH_CHECK == b.rd SHL.SHL_CHECK
def Block.slotAgree (b : Block) : Bool :=
  b.on SHL.SLOT_VER_VALID && b.rd SHL.SLOT_CHECK == b.rd SHL.SHL_CHECK && b.get SHL.SLOT_VER_VERSION == b.get SHL.PVER_VERSION

/-- `CONFIRMED` (R411). -/
def Block.confirmedNow (b : Block) : Bool := b.locked 0x13 && b.checkAgree && b.slotAgree

/-- SAFE_N high (R409). -/
def Block.safeNow (b : Block) : Bool :=
  b.on SHL.SHL_STAT_CONFIRMED && groups.all (fun g => (b.grpLegs g).isEmpty || b.grp g == 2) && b.shl.pll.isNone &&
    !b.on SHL.SHL_STAT_SINGLE && b.get SHL.CDR_STAT_LATCHED == 0

/-- The status bits of SHL brought up to date. -/
def Block.shlStatus (b : Block) : Block :=
  let c := b.confirmedNow
  let b := if c = b.on SHL.SHL_STAT_CONFIRMED then b else (b.flag SHL.SHL_STAT_CONFIRMED c).evt 0x13 8
  let b := (b.flag SHL.SHL_STAT_CHECK_AGREE b.checkAgree).flag SHL.SHL_STAT_SLOT_AGREE b.slotAgree
  (b.flag SHL.SHL_STAT_PLL_OVR b.shl.pll.isSome).flag SHL.SHL_STAT_SAFE b.safeNow

/-- Everything that follows from levels: selections, groups, CDRs, overrides, status. A group passes STO, then READY, then PERMIT or
SS1, at most, so three rounds settle it; where the feedback of a CDR matches again and a latch ends with it, the groups take one more. -/
def Block.shlRefresh (b : Block) : Block :=
  let b := b.each groups Block.spdRefresh
  let b := b.each groups (fun b g => ((b.grpStep g).grpStep g).grpStep g)
  let b := (b.cdrRefresh.cfbUnlatch.each groups Block.grpStep).cdrRefresh
  b.shlApply.shlStatus

/-- A command of SHL: nothing while PORST_N or a supply holds it. -/
def Block.shlDo (b : Block) (f : Block → Block) : Block := if b.shlRuns then (f b).shlRefresh else b

/-! ## Pins (R394, R399 to R401) -/

def stoWireFiltered (p : Nat) (wireB level : Bool) (b : Block) : Block :=
  b.shlDo (fun b =>
    if 4 ≤ p then b
    else
      let s := b.shl
      let b := { b with shl := if wireB then { s with stoB := setBit s.stoB p level } else { s with stoA := setBit s.stoA p level } }
      if bit b.shl.stoA p = bit b.shl.stoB p then b.unlatch (16 + p) else b)

def stoDiscrepancy (p : Nat) (b : Block) : Block :=
  b.shlDo (fun b =>
    if 4 ≤ p ∨ bit b.shl.stoA p = bit b.shl.stoB p then b
    else (b.shlRaise 0x40).latchGroups (16 + p) false (fun g => b.mapBit SHL.STG_CFG_PAIRS p 0 g))

def cfbInputChange (i : Nat) (level : Bool) (b : Block) : Block :=
  b.shlDo (fun b => if 16 ≤ i then b else b.setMap SHL.CDR_STAT_CFB i level)

def cfbTransitionEnd (n : Nat) (b : Block) : Block :=
  b.shlDo (fun b => { b with shl := { b.shl with trans := setBit b.shl.trans n false } })

/-- The mismatch of a CDR has persisted for CONF_T (R401). -/
def shlCfb (n : Nat) (b : Block) : Block :=
  b.shlDo (fun b =>
    if 8 ≤ n || bit b.shl.trans n || !b.cfbBad n then b
    else
      let b := ((b.shlRaise 0x45).setMap SHL.CDR_STAT_LATCHED n true).evt 0x13 9
      if b.on SHL.CDR_CFG_GRP_EN 0 n then b.latchOn (24 + n) false (b.get SHL.CDR_CFG_GROUP 0 n) else b)

def cdrDropDelay (n : Nat) (b : Block) : Block :=
  b.shlDo (fun b => { b with shl := { b.shl with delay := setBit b.shl.delay n false } })

/-! ## Acknowledge (R393) -/

/-- The CDR latches whose feedback matches again end: those linked to group `g`, or for none the unlinked one `n`. -/
def Block.cdrAck (b : Block) (p : Nat → Bool) : Block :=
  b.each (groups.filter (fun n => p n && b.mapBit SHL.CDR_STAT_LATCHED n && !b.cfbBad n)) (fun b n => b.setMap SHL.CDR_STAT_LATCHED n false)

/-- An ACK for a group. -/
def Block.ackGroup (b : Block) (g : Nat) : Block :=
  let b := b.cdrAck (fun n => b.on SHL.CDR_CFG_GRP_EN 0 n && b.get SHL.CDR_CFG_GROUP 0 n == g)
  if b.grp g = 1 then (b.enterPermit g).setMap SHL.GRP_FAULT_FAULTED g false else b

/-! ## SS1 and safe speed (R395 to R399) -/

def ss1Timeout (g : Nat) (b : Block) : Block := b.shlDo (fun b => if 8 ≤ g ∨ b.grp g ≠ 3 then b else b.enterSto g)

/-- A number in a 16-bit field; the manual gives no value where it does not fit (DESIGN CHOICE, log entry 26). -/
def Block.fit16 (b : Block) (signed : Bool) (v : Int) : Nat × Block :=
  if (if signed then decide (satS 16 v = v) else decide (0 ≤ v ∧ v < 65536)) then (ux 16 v, b)
  else (let (w, b) := b.draw; (w.toNat % 65536, b))

/-- The window's judgement for SLS. -/
def Block.slsJudge (b : Block) (g : Nat) (c : Int) : Block :=
  let s := b.stg g
  let lim := b.slsLim g
  if !b.spdSel g || decide (c.natAbs ≤ lim) then
    let b := b.setStg g { s with slsRun := 0 }
    if c.natAbs ≤ lim then
      let s := b.stg g
      b.setStg g { s with latch := setBit s.latch 1 false, latchSs1 := setBit s.latchSs1 1 false }
    else b
  else
    let n := s.slsRun + 1
    let b := b.setStg g { s with slsRun := n }
    if max 1 (b.get SHL.SPD_CFG_SLS_N) ≤ n ∧ ¬ (bit s.latch 1 || bit s.latchSs1 1) then
      (b.shlRaise 0x41).latchOn 1 (b.on SHL.STG_CFG_SLS_REACT 0 g) g
    else b

/-- The window's judgement for SS1 under SS1_MODE 1. -/
def Block.ss1Judge (b : Block) (g : Nat) (c : Int) : Block :=
  if b.grp g ≠ 3 ∨ b.get SHL.STG_CFG_SS1_MODE 0 g ≠ 1 then b
  else
    let s := b.stg g
    let m : Int := c.natAbs
    let e : Int := match s.env with
      | none => m + b.get SHL.STG_SS1M_MARGIN 0 g
      | some e => max 0 (e - b.get SHL.STG_SS1_DECEL 0 g)
    let b := b.setStg g { s with env := some e }
    if e < m then (b.shlRaise 0x43).latchOn 3 false g
    else if c.natAbs ≤ b.get SHL.STG_SPD_STILL_LIM 0 g then b.enterSto g
    else b

/-- A speed window of a group ends. -/
def speedWindowEnd (g : Nat) (b : Block) : Block :=
  b.shlDo (fun b =>
    if 8 ≤ g || !b.on SHL.STG_CFG_SPD_EN 0 g then b
    else
      let s := b.stg g
      let c := s.count
      let b := b.setStg g { s with count := 0, last := c }
      let (v, b) := b.fit16 true c
      ((b.put SHL.SPD_COUNT v 0 g).slsJudge g c).ss1Judge g c)

def Block.taps (b : Block) (ch : Nat) : Taps := Tab.get {} b.shl.taps ch

/-- The count that a change of a channel's taps gives a group, true positive: 4 a line from A and B, 6 an electrical period from the Hall
sensors. A change that leaves the sequence has no direction and counts nothing (R396; DESIGN CHOICE, log entry 141). -/
def tapCount (hall : Bool) (old new : Taps) : Option Bool :=
  let d : Option Nat :=
    if hall then
      match hallIndex old.hall, hallIndex new.hall with
      | some i, some j => some ((j + 6 - i) % 6)
      | _, _ => none
    else some ((quadPhase new.a new.b + 4 - quadPhase old.a old.b) % 4)
  if d = some 1 then some true else if d = some (if hall then 5 else 3) then some false else none

/-- The groups that watch a channel. -/
def Block.watching (b : Block) (ch : Nat) : List Nat :=
  groups.filter (fun g => b.on SHL.STG_CFG_SPD_EN 0 g && b.get SHL.STG_CFG_SPD_CH 0 g == ch)

/-- One count of a group: the window's sum and the SDI accumulator (R396, R398). -/
def Block.shlEdge (b : Block) (g : Nat) (positive : Bool) : Block :=
  let s := b.stg g
  let s := { s with count := if positive then s.count + 1 else s.count - 1 }
  if !b.sdiActive g then b.setStg g s
  else
    let bad := positive == (b.get SHL.STG_CFG_SDI 0 g == 2)
    let acc := if bad then s.sdi + 1 else s.sdi - 1
    let tol := b.get SHL.STG_SDI_SDI_TOL 0 g
    let b := b.setStg g { s with sdi := acc }
    let (v, b) := b.fit16 false acc
    let b := b.put SHL.SPD_SDI_ACC v 0 g
    if tol < acc ∧ s.sdi ≤ tol then (b.shlRaise 0x42).latchOn 2 false g else b

/-- The filtered taps of a channel change. A channel in mode 4 or 5 gives nothing to count (R309, R396). -/
def shlCount (ch : Nat) (taps : Taps) (b : Block) : Block :=
  b.shlDo (fun b =>
    if 24 ≤ ch then b
    else
      let old := b.taps ch
      let b := { b with shl := { b.shl with taps := Tab.set {} b.shl.taps ch taps } }
      if 4 ≤ b.fbMode ch then b
      else
        b.each (b.watching ch) (fun b g =>
          match tapCount (b.on SHL.STG_CFG_SPD_SRC 0 g) old taps with
          | some positive => b.shlEdge g positive
          | none => b))

/-- The Hall taps of a channel read no state of the sequence (R399). -/
def Block.hallBad (b : Block) (ch : Nat) : Bool := (hallIndex (b.taps ch).hall).isNone

/-- A fault of a channel's taps has held for 16 NW, in every group that watches the channel; a Hall state counts in Hall mode only (R399). -/
def shlEnc (fault : TapFault) (b : Block) : Block :=
  b.shlDo (fun b =>
    let gs := match fault with
      | .wire ch => b.watching ch
      | .hall ch => (b.watching ch).filter (fun g => b.on SHL.STG_CFG_SPD_SRC 0 g && b.hallBad ch)
    b.each gs (fun b g => (b.shlRaise 0x44).latchOn 4 false g))

/-- A channel's taps have read a valid state for 16 NW: the latch clears in every group set to it (R414). -/
def shlTapsValid (ch : Nat) (b : Block) : Block :=
  b.shlDo (fun b =>
    b.each (groups.filter (fun g => b.get SHL.STG_CFG_SPD_CH 0 g == ch && !(b.on SHL.STG_CFG_SPD_SRC 0 g && b.hallBad ch))) (fun b g =>
      b.setStg g { b.stg g with latch := setBit (b.stg g).latch 4 false }))

/-! ## The swap window (R412) -/

/-- The window is granted: no SHL source active is read as no latch set and the processor channel not lost (DEDUCED, log entry 27). -/
def Block.windowAllowed (b : Block) : Bool :=
  b.on SHL.SWAP_CFG_ALLOW && b.on SHL.SHL_STAT_CONFIRMED && groups.all (fun g => b.grp g != 3 && (b.stg g).latch == 0 && (b.stg g).latchSs1 == 0) &&
    b.get SHL.CDR_STAT_LATCHED == 0 && !b.on SHL.SHL_STAT_SINGLE

def Block.openWindow (b : Block) : Block :=
  { ((b.put SHL.SHL_STAT_SWAP_WINDOW 1).evt 0x13 11) with shl := { b.shl with windowCheck := false } }

/-- The window closes; a swap that was switching is done (R412, R432). -/
def Block.closeWindow (b : Block) : Block :=
  let b := { (((b.put SHL.SHL_STAT_SWAP_WINDOW 0).evt 0x13 11).unlatch 12) with shl := { b.shl with windowCheck := false } }
  if b.get SEC.SWAP_STAT_STATE = 3 then ((b.put SEC.SWAP_STAT_STATE 4).wrapInc SEC.SWAP_STAT_SEQ).evt 3 2 else b

def swapWindowTimeout (b : Block) : Block :=
  b.shlDo (fun b =>
    if !b.on SHL.SHL_STAT_SWAP_WINDOW then b
    else
      let st := b.grp
      let b := (b.shlRaise 0x4C).latchGroups 12 false (fun g => st g == 2 || st g == 3)
      if b.get SEC.SWAP_STAT_STATE = 3 then (b.put SEC.SWAP_STAT_STATE 5).evt 3 2 else b)

/-! ## Self-check and FCR's integrity (R414) -/

def shlSelfcheck (b : Block) : Block := b.shlDo (fun b => (b.shlRaise 0x4D).latchGroups 13 false (fun _ => true))

/-- The wire of R369. -/
def Block.shlFcrIntegrity (b : Block) : Block :=
  let b := b.shlRaise 0x4E
  (if b.on SHL.SHL_CFG_FCR_STO then b.latchGroups 14 false (fun _ => true) else b).shlRefresh

/-! ## The processor channel (R407, R408, R410) -/

def Block.pchBeat (b : Block) (m : Master) (w : Word) : Block × Ack :=
  if m ≠ .spu then (b, .refused 2)
  else if SHL.PCH_BEAT_GO.of w = 0 then (b, .ok)
  else
    let seq := SHL.PCH_BEAT_SEQ.of w
    let b := (b.unlatch 10).put SHL.SHL_STAT_SINGLE 0
    let b := if b.shl.seqs.isEmpty || b.shl.seqs.contains seq then b.unlatch 11
      else (b.shlRaise 0x4B).latchGroups 11 false (fun _ => true)
    let b := if b.on SHL.SHL_STAT_SWAP_WINDOW && b.shl.windowCheck then b.closeWindow else b
    (b.shlRefresh, .ok)

/-- No beat has come for PCH_T. The check pauses in DORMANT and in the swap window (R388, R412). -/
def pchLost (b : Block) : Block :=
  b.shlDo (fun b =>
    if b.mode == 5 || b.on SHL.SHL_STAT_SWAP_WINDOW then b
    else
      let b := b.shlRaise 0x4A
      match b.get SHL.SHL_CFG_PCH_LOSS with
      | 0 => b.latchGroups 10 false (fun _ => true)
      | 1 => b.latchGroups 10 true (fun _ => true)
      | _ => b.put SHL.SHL_STAT_SINGLE 1)

/-- `PCH_REQ` and `CDR_REQ`: kept as they are in the swap window (R412). -/
def Block.spuShlReq (b : Block) (m : Master) (r : Reg) (w : Word) : Block × Ack :=
  if m ≠ .spu then (b, .refused 2)
  else if b.on SHL.SHL_STAT_SWAP_WINDOW then (b, .ok)
  else ((b.store r w).shlRefresh, .ok)

def Block.pchCheck (b : Block) (m : Master) (w : Word) : Block × Ack :=
  let win := b.on SHL.SHL_STAT_SWAP_WINDOW
  if m ≠ .spu then (b, .refused 2)
  else if b.on SHL.SHL_STAT_CONFIRMED && !win then (b, .refused 1)
  else
    let b := b.store SHL.PCH_CHECK w
    let b := if win && b.rd SHL.PCH_CHECK == b.rd SHL.SHL_CHECK then { b with shl := { b.shl with windowCheck := true } } else b
    (b.shlRefresh, .ok)

/-! ## The parameter block (R410) -/

/-- The registers of the block with how many there are and their stride. -/
def shlBlockRegs : List Reg :=
  [SHL.PVER, SHL.SHL_CFG, SHL.SPD_CFG, SHL.SWAP_CFG, SHL.FUT_CFG, SHL.FUT_TIME, SHL.FUT_CAN0, SHL.FUT_CAN1, SHL.FUT_LINK,
   SHL.STG_LEGS_LO, SHL.STG_LEGS_HI, SHL.STG_CFG, SHL.STG_SPD, SHL.STG_SDI, SHL.STG_SS1, SHL.STG_SS1M, SHL.CDR_CFG, SHL.CDR_TIME]

/-- The word of the block at an offset, reserved words zero. -/
def Block.blockWord (b : Block) (off : Nat) : Word :=
  match shlBlockRegs.find? (fun r => decide (r.off ≤ off) && (List.range r.cnt).any (fun j => r.off + j * r.stride == off)) with
  | some r => b.rd r 0 ((off - r.off) / max 1 r.stride)
  | none => 0

/-- The check value of the block. -/
def Block.blockCheck (b : Block) : Word :=
  crc32 (((List.range 96).map (fun i => bytesBE (b.blockWord (0x100 + 4 * i)))).flatten)

def shlCheckDone (b : Block) : Block :=
  b.shlDo (fun b =>
    if !b.shl.checking then b
    else
      let first := !b.on SHL.SHL_STAT_CHECK_DONE
      let b := (b.wr SHL.SHL_CHECK b.blockCheck).put SHL.SHL_STAT_CHECK_DONE 1
      let b := if first then b.put SHL.FUT_LAST_VALID 0 else b
      { b with shl := { b.shl with checking := false, seqs := if first then [] else b.shl.seqs, ack := if first then none else b.shl.ack } })

/-- The ranges of R416 and R395. -/
def shlRange (r : Reg) (w : Word) : Bool :=
  let within (f : Fld) (lo hi : Nat) : Bool := decide (lo ≤ f.of w) && decide (f.of w ≤ hi)
  if r = SHL.SHL_CFG then
    within SHL.SHL_CFG_STO_FILT 1 64 && within SHL.SHL_CFG_DISC_T 1 255 && within SHL.SHL_CFG_PCH_T 1 10 &&
      within SHL.SHL_CFG_PCH_LOSS 0 2 && within SHL.SHL_CFG_CONF_T 1 20
  else if r = SHL.SPD_CFG then within SHL.SPD_CFG_SPD_WIN 4000 1000000 && within SHL.SPD_CFG_SLS_N 1 15
  else if r = SHL.SWAP_CFG then within SHL.SWAP_CFG_SWAP_MAX 1 10
  else if r = SHL.FUT_CFG then within SHL.FUT_CFG_SEQ_GAP 1 7
  else if r = SHL.FUT_TIME then
    within SHL.FUT_TIME_WD_T 2 100 && within SHL.FUT_TIME_SKEW 1 99 && decide (SHL.FUT_TIME_SKEW.of w < SHL.FUT_TIME_WD_T.of w)
  else if r = SHL.STG_CFG then
    within SHL.STG_CFG_SDI 0 2 && (SHL.STG_CFG_SS1_MODE.of w == 0 || SHL.STG_CFG_SPD_EN.of w == 1)
  else if r = SHL.STG_SS1 then within SHL.STG_SS1_SS1_T 1 4095
  else true

/-- A leg mask that another group's overlaps, or that names a leg the variant does not enable (R389). -/
def Block.legsOverlap (b : Block) (r : Reg) (g : Nat) (w : Word) : Bool :=
  let first := if r = SHL.STG_LEGS_HI then 32 else 0
  (r = SHL.STG_LEGS_LO || r = SHL.STG_LEGS_HI) &&
    (groups.any (fun h => h != g && (b.rd r 0 h &&& w) != 0) || (bitsOf w.toNat 32).any (fun k => decide (b.numLegs ≤ first + k)))

/-- A write of a word of the parameter block. Where several refusals apply, the order of the codes is the model's (DESIGN CHOICE, log entry
117). -/
def Block.blockWrite (b : Block) (r : Reg) (j : Nat) (w : Word) : Block × Ack :=
  if b.mode ≠ 1 ∨ b.locked 0x13 then (b, .refused 1)
  else if !shlRange r w then (b, .refused 4)
  else if b.legsOverlap r j w then (b, .refused 5)
  else ((b.store r w 0 j).shlRefresh, .ok)

/-! ## Releases (R393, R402) -/

/-- A write of `SHL_ACK`. -/
def Block.shlAck (b : Block) (w : Word) : Block × Ack :=
  if SHL.SHL_ACK_KEY.of w ≠ 0x96 then (b, .refused 3)
  else
    let b := b.each (bitsOf (SHL.SHL_ACK_GRP.of w) 8) Block.ackGroup
    let b := b.cdrAck (fun n => bit (SHL.SHL_ACK_CDR.of w) n && !b.on SHL.CDR_CFG_GRP_EN 0 n)
    (b.shlRefresh, .ok)

/-- A group too fast for the release of the PLL-loss override. -/
def Block.tooFast (b : Block) (g : Nat) : Bool :=
  b.on SHL.STG_CFG_SPD_EN 0 g && !(b.grpLegs g).isEmpty && decide (b.get SHL.STG_SPD_STILL_LIM 0 g < (b.stg g).last.natAbs)

/-- A write of `PLL_REL`. Where several refusals apply, the order of the codes is the model's (DESIGN CHOICE, log entry 117). -/
def Block.pllRel (b : Block) (w : Word) : Block × Ack :=
  if SHL.PLL_REL_GO.of w = 0 then (b, .ok)
  else if SHL.PLL_REL_KEY.of w ≠ 0x96 then (b, .refused 3)
  else if (b.mode ≠ 1 ∧ b.mode ≠ 4) ∨ !b.on CRM.CLK_STAT_PLL_LOCK then (b, .refused 1)
  else if b.shl.pll.isNone then (b, .refused 7)
  else if groups.any b.tooFast then (b, .refused 6)
  else ({ b with shl := { b.shl with pll := none } }.shlRefresh, .ok)

/-- PLL_LOSS as SHL sees it: the map frozen, the override at every enabled leg (R28, R402). -/
def Block.shlPllLoss (b : Block) : Block :=
  ({ b with shl := { b.shl with pll := some (b.shl.pll.getD b.ucgMap) } }.evt 0x13 10).shlRefresh

/-! ## Futra (R403 to R406) -/

/-- The place of a network in the copy pair: 0, 1, none where it carries no copy (R1, R404). -/
def Block.futNet (b : Block) (net : FutraNet) : Option Nat :=
  let small := b.variant == 2 || b.shl.small
  match net with
  | .eth => if small then none else some 0
  | .can0 => if b.on SHL.FUT_CAN0_EN then some (if small then 0 else 1) else none
  | .can1 => if small && b.on SHL.FUT_CAN1_EN then some 1 else none

def pduByte (p : List Byte) (k : Nat) : Nat := (p.getD k 0).toNat
def pduSeq (p : List Byte) : Nat := 256 * pduByte p 2 + pduByte p 3

/-- The checks of R403. -/
def Block.pduOk (b : Block) (p : List Byte) : Bool :=
  p.length == 16 && pduByte p 0 / 16 == 1 && pduByte p 1 == b.get SHL.FUT_CFG_CONN_ID &&
    crc32c (b.rd SHL.SHL_CHECK) (p.take 12) == (wordsBE (p.drop 12)).getD 0 0

/-- The groups under Futra. -/
def Block.futGroup (b : Block) (g : Nat) : Bool := b.on SHL.STG_CFG_FUTRA 0 g

/-- A pair is accepted (R405). -/
def Block.futAccept (b : Block) (p : List Byte) : Block :=
  let old := b.shl.ack
  let ack := pduByte p 6
  let b := (b.unlatch 6).unlatch 7
  let b := (b.put SHL.FUT_LAST_SEQ (pduSeq p)).put SHL.FUT_LAST_VALID 1
  let b := b.wr SHL.FUT_REQ (wordOf (p.getD 4 0) (p.getD 5 0) (p.getD 6 0) (p.getD 7 0))
  let b := b.wr SHL.FUT_DATA ((wordsBE (p.drop 8)).getD 0 0)
  let b := (b.bump SHL.FUT_ACCEPT_COUNT SHL.FUT_ACCEPT_OVF).put SHL.SHL_STAT_FUTRA_LIVE 1
  let b := { b with shl := { b.shl with seqs := (pduSeq p :: b.shl.seqs).take 2, ack := some ack } }
  let b := b.shlRefresh
  match old with
  | none => b
  | some o => b.each (groups.filter (fun g => b.futGroup g && bit ack g && !bit o g)) Block.ackGroup

/-- Pending copies of a network. -/
def ShlSt.pend (s : ShlSt) (k : Nat) : List (List Byte) := if k = 0 then s.pend0 else s.pend1
def Block.setPend (b : Block) (k : Nat) (l : List (List Byte)) : Block :=
  { b with shl := if k = 0 then { b.shl with pend0 := l } else { b.shl with pend1 := l } }

/-- A valid copy on network `k` (R405). -/
def Block.futCopy (b : Block) (k : Nat) (p : List Byte) : Block :=
  let d := (pduSeq p + 65536 - b.shl.seqs.getD 0 0) % 65536
  if !b.shl.seqs.isEmpty && d == 0 then b
  else if !b.shl.seqs.isEmpty && decide (b.get SHL.FUT_CFG_SEQ_GAP < d) then
    (b.bump SHL.FUT_SEQ_COUNT SHL.FUT_SEQ_OVF).shlRaise 0x49
  else
    match (b.shl.pend (1 - k)).find? (fun q => pduSeq q == pduSeq p) with
    | some q =>
      let b := b.setPend (1 - k) ((b.shl.pend (1 - k)).erase q)
      if q = p then b.futAccept p else (b.shlRaise 0x47).latchGroups 7 false b.futGroup
    | none =>
      let l := b.shl.pend k
      let b := if l.length < 4 then b else b.bump SHL.FUT_SKEW_COUNT SHL.FUT_SKEW_OVF
      b.setPend k ((if l.length < 4 then l else l.drop 1) ++ [p])

/-- Futra is evaluated (R405). -/
def Block.futOn (b : Block) : Bool := b.on SHL.SHL_STAT_CHECK_DONE && b.on SHL.FUT_CFG_EN

/-- The PDU of an Ethernet frame: its FCS is right, its EtherType past at most one VLAN tag is ETYPE, and the first 16 bytes of its payload are
the PDU (R404). -/
def Block.ethPdu (b : Block) (f : EthFrame) : Option (List Byte) :=
  let type (o : Nat) : Nat := (f.bytes.getD o 0).toNat * 256 + (f.bytes.getD (o + 1) 0).toNat
  let o := if type 12 = 0x8100 then 16 else 12
  if f.fcs = crc32 f.bytes ∧ type o = b.get SHL.FUT_CFG_ETYPE then some ((f.bytes.drop (o + 2)).take 16) else none

/-- The PDU of a CAN frame: its CRC is right, and it is an FD frame of 16 bytes with the identifier and IDE of `FUT_CANn` (R404). -/
def canPdu (f : CanFrame) (id : Nat) (ide : Bool) : Option (List Byte) :=
  if f.fd && !f.remote && f.data.length == 16 && f.id.toNat == id && f.ide == ide && f.crc == canCrc f then some f.data else none

/-- The PDU that a sampled frame of a network carries. -/
def Block.snoop (b : Block) (net : FutraNet) (x : SnoopFrame) : Option (List Byte) :=
  match net, x with
  | .eth, .eth f => b.ethPdu f
  | .can0, .can f => canPdu f (b.get SHL.FUT_CAN0_ID) (b.on SHL.FUT_CAN0_IDE)
  | .can1, .can f => canPdu f (b.get SHL.FUT_CAN1_ID) (b.on SHL.FUT_CAN1_IDE)
  | _, _ => none

/-- A frame ends on a network of the copy pair; `sampled` where the snooper took its bits without a coding or stuffing error. -/
def futraCopy (net : FutraNet) (x : SnoopFrame) (sampled : Bool) (b : Block) : Block :=
  b.shlDo (fun b =>
    match b.futNet net with
    | none => b
    | some k =>
      if !b.futOn then b
      else
        match if sampled then b.snoop net x else none with
        | none => b.bump SHL.FUT_INVALID_COUNT SHL.FUT_INVALID_OVF
        | some p =>
          if !b.pduOk p then b.bump SHL.FUT_INVALID_COUNT SHL.FUT_INVALID_OVF
          else if pduByte p 0 % 16 ≠ 0 then b
          else b.futCopy k p)

def futraSkewTimeout (net : FutraNet) (b : Block) : Block :=
  b.shlDo (fun b =>
    match b.futNet net with
    | none => b
    | some k =>
      match b.shl.pend k with
      | [] => b
      | _ :: t => ((b.setPend k t).bump SHL.FUT_SKEW_COUNT SHL.FUT_SKEW_OVF).shlRaise 0x48)

/-- WD_T has passed since the last accepted pair; the watchdog pauses in DORMANT (R388, R406). -/
def futraTimeout (b : Block) : Block :=
  b.shlDo (fun b =>
    if b.mode == 5 then b
    else if !b.futOn then b.put SHL.SHL_STAT_FUTRA_LIVE 0
    else ((b.shlRaise 0x46).put SHL.SHL_STAT_FUTRA_LIVE 0).latchGroups 6 false b.futGroup)

/-! ## Register writes of the SHL page (R415, R416) -/

/-- No debug access writes the page of SHL while it is locked (R388). -/
def Block.shlBarred (b : Block) (m : Master) (p : Nat) : Bool := m == .debug && p == 0x13 && b.locked 0x13

def Block.shlWrite (b : Block) (m : Master) (r : Reg) (j : Nat) (w : Word) : Block × Ack :=
  if b.shlBarred m 0x13 then (b, .ok)
  else if r = SHL.PCH_CHECK then b.pchCheck m w
  else if r = SHL.PCH_BEAT then b.pchBeat m w
  else if r = SHL.PCH_REQ ∨ r = SHL.CDR_REQ then b.spuShlReq m r w
  else if r = SHL.SHL_ACK then b.shlAck w
  else if r = SHL.PLL_REL then b.pllRel w
  else if r = SHL.FUT_ACCEPT ∨ r = SHL.FUT_INVALID ∨ r = SHL.FUT_SKEW ∨ r = SHL.FUT_SEQ then
    (if slice w 31 1 = 1 then b.wr r 0 else b, .ok)
  else if 0x100 ≤ r.off then b.blockWrite r j w
  else (b.store r w 0 j, .ok)

end Sys2Proof.Machine
end

