-- ==== Sys2Proof/Machine/Crm.lean ====
section
/-!
DEFINITION. Clocks, reset, modes, DORMANT and the core-voltage loop (R22 to R48, R383, R429, R453).
-/

namespace Sys2Proof.Machine

/-- The present phase changed. -/
def Block.setPhase (b : Block) (p : Phase) : Block := { b with crm := { b.crm with phase := p } }

/-! ## Units that can be fenced (R377) -/

/-- The pages of the units the variant enables. -/
def Block.unitPages (b : Block) : List Nat :=
  [9, 5] ++ (if b.variant == 2 then [] else [6]) ++ [7, 8, 0xB, 0xD] ++ (List.range b.numConv).map (· + 0xB0) ++
    (List.range b.numEng).map (· + 0x1E0) ++ (List.range 24).map (· + 0x78)

def Block.fencedUnits (b : Block) : List Nat := b.unitPages.filter b.fenced

/-- A `DEGRADE` bit is set (R371). -/
def Block.degraded (b : Block) : Bool := b.rd FCR.DEGRADE_LO != 0 || b.rd FCR.DEGRADE_HI != 0 || b.rd FCR.DEGRADE_X != 0

/-- A fence or a `DEGRADE` bit stands (R38). -/
def Block.anyFence (b : Block) : Bool := !b.fencedUnits.isEmpty || b.degraded

/-! ## Boot status word (R76) -/

def Block.bootPut (b : Block) (lo w v : Nat) : Block := b.put ⟨OTP.BOOT_STATUS, lo, w⟩ v

/-- `FW_WAIT`. -/
def Block.fwWait (b : Block) : Bool := slice (b.rd OTP.BOOT_STATUS) 25 1 == 1

/-- The boot ROM is at work in BOOT and no verification runs. -/
def Block.bootRom (b : Block) : Bool := b.running && b.mode == 0 && b.sec.auth.isNone

/-- The boot ROM reads boot flash over XSP (R115, R423). -/
def Block.bootReads (b : Block) : Bool := b.bootRom && (!b.fwWait || b.sec.rereads)

/-- Start-up ends with a FAIL code (R75, R77). -/
def Block.startFailed (b : Block) (code unit : Nat) : Block := ((b.bootPut 4 8 code).bootPut 12 5 unit).setPhase .bootHold

/-! ## Core reset (R45, R388, R383, R429) -/

/-- The surviving record (R383). -/
def Block.survive (b : Block) (pll : Bool) : Block :=
  let keep (b : Block) (src : Word) (lo hi : Word) : Block :=
    let n := b.bump FCR.SURV_CNT_COUNT FCR.SURV_CNT_OVF
    ((n.wr FCR.SURV_SRC src).wr FCR.SURV_TS_LO lo).wr FCR.SURV_TS_HI hi
  if pll then
    keep b (BitVec.ofNat 32 (1 + 6 * 2 ^ 8 + 1 * 2 ^ 20 + 2 ^ 31)) (BitVec.ofNat 32 b.now) (BitVec.ofNat 32 (b.now / 2 ^ 32))
  else if b.on FCR.FIRST_SRC_VALID then
    let f := b.rd FCR.FIRST_SRC
    let w := FCR.FIRST_SRC_SOURCE.of f + FCR.FIRST_SRC_REACT.of f * 2 ^ 8 + FCR.FIRST_SRC_UNIT.of f * 2 ^ 20 + 2 ^ 31
    keep b (BitVec.ofNat 32 w) (b.rd FCR.FIRST_TS_LO) (b.rd FCR.FIRST_TS_HI)
  else b

/-- The registers outside the SHL page that a core reset keeps (R45). -/
def resetKept : List Reg := [CRM.PLL_LOSS_CNT, FCR.SURV_SRC, FCR.SURV_TS_LO, FCR.SURV_TS_HI, FCR.SURV_CNT]

/-- A register kept by a core reset: the SHL page whole, and those of `resetKept`. -/
def keptAddr (a : Nat) : Bool := a / 4096 == 0x13 || resetKept.any (fun r => r.addr 0 0 == a)

/-- A fuse word with bits set: those of `hi` read 1 at every level, those of `mid` at NORMAL and LOW, those of `low` at LOW (R72). -/
def Block.fuseSet (b : Block) (w : Nat) (hi mid low : BitVec 39) : Block :=
  let old := Tab.get ⟨0, 0, 0⟩ b.otp.fuses w
  let new : FuseRaw := ⟨old.normal ||| mid ||| hi, old.low ||| low ||| mid ||| hi, old.high ||| hi⟩
  { b with otp := { b.otp with fuses := Tab.set ⟨0, 0, 0⟩ b.otp.fuses w new } }

/-- An open subset of some bits of a fuse word. -/
def Block.someBits (b : Block) (of : BitVec 39) : BitVec 39 × Block :=
  let (lo, b) := b.draw
  let (hi, b) := b.draw
  (of &&& BitVec.ofNat 39 (lo.toNat + hi.toNat * 2 ^ 32), b)

/-- A fuse word whose pulses were cut: an open part of its bits is set, each at an open level (R69, DESIGN CHOICE, log entry 28). -/
def Block.partPulse (b : Block) (t : Nat × BitVec 39) : Block :=
  let (low, b) := b.someBits t.2
  let (mid, b) := b.someBits low
  let (hi, b) := b.someBits mid
  b.fuseSet t.1 hi mid low

/-- A command cut by a reset: its words are programmed in order, so an open number of the first are complete, the next is cut, the rest are
as they were (R60, R69, R70, DESIGN CHOICE, log entry 28). -/
def Block.abortPulse (b : Block) : Block :=
  match b.otp.run with
  | none => b
  | some r =>
    let (k, b) := b.draw
    let n := k.toNat % (r.targets.length + 1)
    let b := (r.targets.take n).foldl (fun b t => b.fuseSet t.1 t.2 t.2 t.2) b
    match r.targets.drop n with
    | [] => b
    | t :: _ => b.partPulse t

/-- The state of a leg that lives on through a core reset: its pins and SHL's override. -/
def LegSt.afterReset (l : LegSt) : LegSt :=
  { fltLow := l.fltLow, shl := l.shl, lastOvr := l.shl.map (fun p => (p, 1))
    padWait := if l.shl.isSome then l.padWait.map (fun _ => 0) else none }

def Block.legPins (b : Block) : Tab LegSt := (List.range 64).foldl (fun t leg => Tab.set {} t leg (b.leg leg).afterReset) []
def Block.fltPins (b : Block) : Tab LegSt := (List.range 64).foldl (fun t leg => Tab.set {} t leg { fltLow := (b.leg leg).fltLow }) []

/-- The feedback inputs that live on. -/
def FbSt.afterReset (f : FbSt) : FbSt := { a := f.a, b := f.b, hall := f.hall }
def Block.fbPins (b : Block) : Tab FbSt := (List.range 24).foldl (fun t f => Tab.set {} t f (b.fb f).afterReset) []

/-- What a core reset leaves: SHL, the surviving registers, the pins, the fuses (R45). `cause` is the bit of `RST_CAUSE`, none for
a reset that is none of its causes. -/
def Block.resetCore (b : Block) (cause : Option Nat) (debug : Bool) : Block :=
  let b := (b.survive (cause == some 1)).abortPulse
  let regs := b.regs.filter (fun c => keptAddr c.1)
  let lost := b.get CRM.CLK_STAT_PLL_LOST
  let nw := b.get CRM.CLK_STAT_NW_FAULT
  let lvl := b.get SEC.SEC_STAT_LEVEL
  let c := b.crm
  let crm : CrmSt := {
    phase := .arrayRead, porstLow := c.porstLow, vddOk := c.vddOk, vddaOk := c.vddaOk, vddio18Ok := c.vddio18Ok, vddio33Ok := c.vddio33Ok, vqpsOk := c.vqpsOk, refIn := c.refIn, relocking := cause == some 1, wakeLevel := c.wakeLevel }
  let n : Block :=
    { regs := regs, free := b.free, crm := crm
      legs := b.legPins
      fbs := b.fbPins
      stgs := b.stgs, shl := { b.shl with hold := false, small := b.variant == 2 || b.shl.small }, otp := { fuses := b.otp.fuses }
      sec := { ir := b.sec.ir, dm := if debug then b.sec.dm else [], byChal := debug && b.sec.byChal } }
  let why := match cause with
    | some c => BitVec.ofNat 32 (2 ^ c)
    | none => b.rd CRM.RST_CAUSE
  let n := (((n.put CRM.CLK_STAT_PLL_LOST lost).put CRM.CLK_STAT_NW_FAULT nw).flag CRM.CLK_STAT_REF_SRC c.refIn).wr CRM.RST_CAUSE why
  let n := if debug then n.put SEC.SEC_STAT_LEVEL lvl else n
  let n := (n.bootPut 24 1 lost).put HDR.PAGE_STAT_LOCKED 0 0x13
  (n.unlatch 14).shlRefresh

/-- The whole block at PORST_N: every register at its reset value, the pins and the fuses as they are (R44, R45). -/
def Block.resetAll (b : Block) : Block :=
  let b := b.abortPulse
  let c := b.crm
  { free := b.free, otp := { fuses := b.otp.fuses }
    crm := {
      phase := .held, porstLow := c.porstLow, vddOk := c.vddOk, vddaOk := c.vddaOk, vddio18Ok := c.vddio18Ok, vddio33Ok := c.vddio33Ok, vqpsOk := c.vqpsOk, refIn := c.refIn, wakeLevel := c.wakeLevel }
    legs := b.fltPins
    fbs := b.fbPins }

/-- The pins hold the block in reset (R43, R44). -/
def CrmSt.heldNow (c : CrmSt) : Bool := c.porstLow || !c.vddOk || !c.vddaOk || !c.vddio18Ok

def porstNAssert (b : Block) : Block := ({ b with crm := { b.crm with porstLow := true } }).resetAll

/-- Start-up begins: REFSEL shows as sampled, the groups take their first evaluation, the array read runs (R24, R75, R390). -/
def Block.leaveHeld (b : Block) : Block :=
  if b.crm.heldNow then b else ((b.flag CRM.CLK_STAT_REF_SRC b.crm.refIn).setPhase .arrayRead).shlRefresh

def porstNRelease (refsel : Bool) (b : Block) : Block :=
  if !b.crm.porstLow then b
  else
    ({ b with crm := { b.crm with porstLow := false, refIn := refsel } }).leaveHeld

/-- A rail leaves or enters its range; VDDIO33 has no monitor that resets (R43). -/
def supplyRailChange (rail : Rail) (ok : Bool) (b : Block) : Block :=
  let c := b.crm
  let c := match rail with
    | .vdd => { c with vddOk := ok }
    | .vdda => { c with vddaOk := ok }
    | .vddio18 => { c with vddio18Ok := ok }
    | .vddio33 => { c with vddio33Ok := ok }
  let b := { b with crm := c }
  if b.crm.heldNow then (if b.crm.phase = .held then b else b.resetAll)
  else if b.crm.phase = .held then b.leaveHeld
  else b

/-- VQPS enters or leaves its programming range (R65). -/
def vqpsChange (ok : Bool) (b : Block) : Block :=
  let b := { b with crm := { b.crm with vqpsOk := ok } }
  if b.otp.run.isSome && !ok then { b with otp := { b.otp with lost := true } } else b

/-! ## Modes (R37, R38, R453) -/

/-- HALT stops the runs of every context but those of role Observer (R237). -/
def Block.haltCtxs (b : Block) : Block :=
  b.each (b.ctxs.filter (fun c => b.ctxPlaced c && b.get LC.LC_CFG_ROLE c != 1)) (fun b c => b.setLc c { b.lc c with stopped := true })

/-- The mode changes. -/
def Block.setMode (b : Block) (m : Nat) : Block :=
  let b := (b.put CRM.MODE_PREV b.mode).put CRM.MODE_CUR m
  let b := if m = 4 then b else { b with fcr := { b.fcr with haltBy := if b.on FCR.HALT_CAUSE_PENDING then b.fcr.haltBy else [] } }
  let b := if m = 4 then b.haltCtxs else b
  b.overridesChanged.debugLower

/-- A fence or HALT escalation in BOOT: the boot status word stands but for FAIL, UNIT and FW_WAIT (R38, R76). -/
def Block.bootFault (b : Block) : Block :=
  let w := b.rd OTP.BOOT_STATUS
  (((b.resetCore none false).wr OTP.BOOT_STATUS w).bootPut 25 1 0).startFailed 0x0A 0

/-- The transition that fences, `DEGRADE` bits and a HALT escalation call for, unless a transition runs (R38, R453). -/
def Block.modeEvents (b : Block) : Block :=
  if !b.running then b
  else if b.mode = 0 then (if b.crm.haltReq || b.anyFence then b.bootFault else b)
  else if b.on CRM.MODE_BUSY then b
  else if b.crm.haltReq then
    let b := { b with crm := { b.crm with haltReq := false } }
    if b.mode = 4 ∨ b.mode = 5 then b.overridesChanged else b.setMode 4
  else if b.mode = 2 && b.anyFence then b.setMode 3
  else if b.mode = 3 && !b.anyFence then b.setMode 2
  else b

/-- A mailbox command or an axis command stands in the way of DORMANT (R39). -/
def Block.cfuBusy (b : Block) : Bool :=
  [0, 1].any (fun i => (b.mbx i).stage != .idle) || (List.range b.numAxes).any (fun a => b.on AX.AX_DRV_CMD_PEND a)

/-- The checks of R39 from the third on. -/
def Block.dormantCheck (b : Block) : Nat :=
  if b.mode = 4 && b.on FCR.HALT_CAUSE_PENDING then 4
  else if b.energised then 3
  else if b.get CRM.WAKE_CFG_EN = 0 then 6
  else if b.cfuBusy then 5
  else 0

/-- The outcome of a mode request and the mode it leads to (R38, R47). -/
def Block.modeDecide (b : Block) (t : Nat) : Nat × Nat :=
  let pend := b.on FCR.HALT_CAUSE_PENDING
  let run := if b.anyFence then 3 else 2
  if b.on CRM.MODE_BUSY then (5, 0)
  else
    match b.mode, t with
    | 1, 2 => (if b.on SHL.SHL_STAT_CONFIRMED then 0 else 2, run)
    | 1, 4 => (0, 4)
    | 1, 5 => (b.dormantCheck, 5)
    | 2, 1 => (if b.energised then 3 else 0, 1)
    | 2, 4 => (0, 4)
    | 3, 1 => (if b.energised then 3 else 0, 1)
    | 3, 4 => (0, 4)
    | 4, 2 => (if pend then 4 else if b.on SHL.SHL_STAT_CONFIRMED then 0 else 2, run)
    | 4, 1 => (if pend then 4 else 0, 1)
    | 4, 5 => (b.dormantCheck, 5)
    | _, _ => (1, 0)

/-! ## DORMANT and wake (R39 to R41) -/

/-- WAKEn's enabled condition holds as a level. -/
def Block.wakeCond (b : Block) (n : Nat) : Bool :=
  b.mapBit CRM.WAKE_CFG_EN n && (bit b.crm.wakeLevel n != b.mapBit CRM.WAKE_CFG_POL n)

/-- The level conditions that hold start to qualify (R40). -/
def Block.wakeLevels (b : Block) : Block :=
  let ls := (List.range 4).filter (fun n => b.wakeCond n && !b.mapBit CRM.WAKE_CFG_EDGE n)
  let keep := (bitsOf b.crm.wakeQual 4).filter (fun n => b.wakeCond n && b.mapBit CRM.WAKE_CFG_EDGE n)
  { b with crm := { b.crm with wakeQual := ofBits (ls ++ keep) } }

/-- A bank at the acceptance of DORMANT: twilight if kept, else off; a kept bank that is still
initialising at the acceptance goes on with that and takes no twilight, of which the manual says nothing (R39; DESIGN CHOICE, log entry 124). -/
def Block.bankSleep (b : Block) (n : Nat) : Block :=
  let kept := if n < 32 then b.mapBit CRM.KEEP0_BK n else if n < 40 then b.mapBit CRM.KEEP1_BK (n - 32) else b.mapBit CRM.KEEP1_DP (n - 40)
  if !kept then b.bankPower n 3 else if b.bankPwr n = 4 then b else b.bankPower n 1

/-- A running constellation stops, to be restarted at wake (R41). -/
def Block.tbSleep (b : Block) (k : Nat) : Block :=
  let t := b.tb k
  if !b.tbRuns k then b
  else
    let b := ((b.tbStops k).put EGA.TB_STAT_ARMED 0 0 k).setTb k { dbl := t.dbl, wasRunning := true }
    b

/-- The pages with an enabled event set (R87). -/
def Block.pendPages (b : Block) : List Nat :=
  ((b.regs.filter (fun c => c.1 % 4096 == 0xC)).map (fun c => c.1 / 4096)).filter (fun p =>
    b.pageExists p && (b.rd HDR.EVT_STAT p &&& b.rd HDR.EVT_EN p) != 0)

/-- The pages with a qualifying event on an interrupt line: 0 IRQ0_N, 1 IRQ1_N. -/
def Block.linePages (b : Block) (line : Nat) : List Nat :=
  b.pendPages.filter (fun p =>
    let l := b.rd HDR.EVT_LINE p
    (b.rd HDR.EVT_STAT p &&& b.rd HDR.EVT_EN p &&& (if line = 1 then l else ~~~l)) != 0)

/-- `HSP.DEV_STATUS` but for mode, BUSY and ENERGISED (R107). -/
def Block.lineStatus (b : Block) : Nat :=
  (if (b.linePages 0).isEmpty then 0 else 32) + (if (b.linePages 1).isEmpty then 0 else 64) + (if b.fencedUnits.isEmpty then 0 else 128)

/-- `HSP.DEV_STATUS`. -/
def Block.devStatus (b : Block) : Word :=
  BitVec.ofNat 32 (b.mode + 8 * b.get CRM.MODE_BUSY + (if b.energised then 16 else 0) + b.lineStatus)

/-- A debug session ends (R429). -/
def Block.debugEnd (b : Block) : Block :=
  if b.get SEC.SEC_STAT_LEVEL = 0 then b else ((b.put SEC.SEC_STAT_LEVEL 0).put SEC.SEC_STAT_HALTED 0).evt 3 0

/-- The acceptance of DORMANT (R39, R41, R429). -/
def Block.dormantEnter (b : Block) : Block :=
  let status := b.lineStatus + 5
  let was := b.mode
  let b := b.each (List.range 8) Block.tbSleep
  let b := b.each b.liveAxes (fun b a => if b.drv a = 1 then b.toIdle a else b)
  let b := b.each b.ctxs (fun b c => if b.ctxPlaced c then b.setLc c { b.lc c with stopped := true, ran := true, busy := false } else b)
  let b := b.each (List.range 24) (fun b f => b.setFb f { b.fb f with busy := false })
  let b := b.each (List.range 4) (fun b s => if b.sesActive s then b.sesAbort s 4 else b)
  let b := b.each (List.range b.numRings) (fun b n =>
    let b := b.setRing n { b.ring n with staged := [], sp := [] }
    if b.ringState n = 1 then (b.put RG.RG_RIDX_INDEX (b.widx n) n).put RG.RG_STAT_MARK 0 n else b)
  let b := { b with eth := { b.eth with tx := none, mdio := none, mdioHost := none }, can0 := { b.can0 with tx := none }, can1 := { b.can1 with tx := none },
                    xsp := {}, wakeWait := 0, convs := [], sec := { b.sec with byChal := false, response := none } }
  let b := b.each b.liveAxes (fun b a => b.setSample a { b.sample a with series := 0, used := 0, placed := false })
  let b := b.each (List.range 44) Block.bankSleep
  let b := b.debugEnd.put XSP.STAT_BUSY 0
  let b := (b.put XSP.STAT_SW_WAIT 0).put ETH.MDIO_CTL_BUSY 0
  let vid := b.get CRM.AVS_STAT_VID_NOW
  let pre := (bitsOf b.crm.wakeQual 4).filter (fun n => b.mapBit CRM.WAKE_CFG_EDGE n)
  let b := { b with crm := { b.crm with
    phase := .dormantEntry, wakeSeen := false, vidSaved := vid, dormantFrom := was, parked := true, avsSettling := false, avsHigh := 0,
    dormantStatus := BitVec.ofNat 32 status, wakePre := ofBits pre, pllBad := false, nwBad := false } }
  let b := (b.put CRM.AVS_STAT_VID_NOW (b.get CRM.AVS_CFG_VID_MIN)).put CRM.CLK_STAT_PLL_LOCK 0
  let b := ((b.put CRM.MODE_PREV was).put CRM.MODE_CUR 5).put CRM.MODE_BUSY 1
  ({ b with shl := { b.shl with hold := true } }).wakeLevels.shlRefresh

/-- The wake sequence begins (R40). -/
def Block.wakeStart (b : Block) : Block :=
  ({ b with crm := { b.crm with parked := false, phase := .wakeSettle } }).put CRM.AVS_STAT_VID_NOW b.crm.vidSaved

/-- The entry into DORMANT is complete; a wake latched meanwhile starts (R40). -/
def dormantEntryComplete (b : Block) : Block :=
  if b.crm.phase ≠ .dormantEntry then b
  else
    let b := (b.setPhase .dormant).put CRM.MODE_BUSY 0
    if b.crm.wakeSeen then b.wakeStart else b

/-- A WAKE pin changes level (R40). -/
def wakeInputChange (pin : Nat) (level : Bool) (b : Block) : Block :=
  if 4 ≤ pin ∨ bit b.crm.wakeLevel pin = level then b
  else
    let b := { b with crm := { b.crm with wakeLevel := setBit b.crm.wakeLevel pin level, wakePre := setBit b.crm.wakePre pin false } }
    if b.coreReset then b else { b with crm := { b.crm with wakeQual := setBit b.crm.wakeQual pin (b.wakeCond pin) } }

/-- An enabled condition has held for 8 nightwatch cycles: a wake in DORMANT, ignored in operation (R38, R40). One that qualifies while the wake
sequence runs sets neither `SRC` nor `IGNORED`, which the manual leaves open (DESIGN CHOICE, log entry 125). -/
def wakeQualified (pin : Nat) (b : Block) : Block :=
  if 4 ≤ pin || !bit b.crm.wakeQual pin then b
  else
    let pre := bit b.crm.wakePre pin
    let b := { b with crm := { b.crm with wakeQual := setBit b.crm.wakeQual pin false, wakePre := setBit b.crm.wakePre pin false } }
    match b.crm.phase with
    | .run => b.put CRM.WAKE_STAT_IGNORED 1
    | .dormantEntry | .dormant =>
      if pre then b.put CRM.WAKE_STAT_IGNORED 1
      else
        let b := b.orBits CRM.WAKE_STAT_SRC (2 ^ pin)
        if b.crm.phase = .dormant then b.wakeStart else { b with crm := { b.crm with wakeSeen := true } }
    | _ => b

/-- VID has settled: the PLL is enabled (R40). -/
def wakeSettleElapsed (b : Block) : Block := if b.crm.phase = .wakeSettle then b.setPhase .wakePll else b

/-- A bank is kept. -/
def Block.bankKept (b : Block) (n : Nat) : Bool :=
  if n < 32 then b.mapBit CRM.KEEP0_BK n else if n < 40 then b.mapBit CRM.KEEP1_BK (n - 32) else b.mapBit CRM.KEEP1_DP (n - 40)

/-- The references of constellation `k` end in one that restarts with SYNC = 0 (R41). -/
def Block.chainOk (b : Block) : Nat → Nat → Bool
  | 0, _ => false
  | n + 1, k =>
    (b.tb k).wasRunning && (let j := b.get EGA.TB_CFG_SYNC 0 k
      j == 0 || (decide (j ≤ 8) && b.chainOk n (j - 1)))

/-- A constellation restarts at wake (R41). -/
def Block.tbWake (b : Block) (k : Nat) : Block :=
  let t := b.tb k
  if !t.wasRunning then b
  else
    let b := b.put EGA.TB_STAT_RUN 1 0 k
    let sync := b.get EGA.TB_CFG_SYNC 0 k != 0
    let b := b.tbAwaits k (sync && b.chainOk 9 k) 80
    if sync && !b.chainOk 9 k then b.put EGA.TB_STAT_SYNC_LOST 1 0 k else b

/-- The banks to wake, the kept ones eight at a time in the order BK00 to BK39, then DP0 to DP3; banks not kept form no group. The rule
can also be read with groups of eight bank numbers (R40, DEDUCED, log entry 96). -/
def Block.keepGroups (b : Block) : List (List Nat) :=
  let kept := (List.range 44).filter (fun n => b.bankKept n && b.bankPwr n == 1)
  ((List.range 6).map (fun g => (kept.drop (8 * g)).take 8)).filter (fun l => !l.isEmpty)

/-- The dividers are released in a wake: banks that were off initialise, constellations restart (R40, R41). -/
def Block.wakeLocked (b : Block) : Block :=
  let b := { (b.setPhase .wakeBanks) with crm := { b.crm with phase := .wakeBanks, wakeGroups := b.keepGroups } }
  let off := (List.range 44).filter (fun n => b.bankPwr n == 3)
  let b := b.each off (fun b n => { b.bankPower n 4 with bankNew := setBit b.bankNew n false })
  let b := if off.isEmpty then b else b.put MEM.MEM_STAT_INIT_BUSY 1
  b.each (List.range 8) Block.tbWake

/-- One group of kept banks is awake and READY again; a bank put into twilight by its register stays there (R40, R354). -/
def bankGroupAwake (b : Block) : Block :=
  match b.crm.phase, b.crm.wakeGroups with
  | .wakeBanks, g :: rest =>
    let b := b.each g (fun b n => if b.on BK.BANK_PWR_TWI n then b else (b.bankPower n 0).evt (bankPage n) 2)
    { b with crm := { b.crm with wakeGroups := rest } }
  | _, _ => b

/-- The SPU resumes and the mode returns (R40, R41). -/
def wakeComplete (b : Block) : Block :=
  if b.crm.phase ≠ .wakeBanks ∨ b.crm.wakeGroups ≠ [] then b
  else
    let b := { (b.setPhase .run) with shl := { b.shl with hold := false } }
    let b := b.each (List.range 24) (fun b f =>
      if 1 ≤ b.fbMode f ∧ b.fbMode f ≤ 3 then (b.put FB.FB_STAT_SUSPECT 1 f).fbValid f else b)
    ((b.put CRM.MODE_PREV 5).put CRM.MODE_CUR b.crm.dormantFrom).shlRefresh

/-! ## The PLL (R26 to R28) -/

/-- PLL_LOSS: SHL's override, the surviving record, the count, then the core in reset (R28, R383). -/
def Block.pllLost (b : Block) : Block :=
  let b := (b.put CRM.CLK_STAT_PLL_LOST 1).bump CRM.PLL_LOSS_CNT_COUNT CRM.PLL_LOSS_CNT_OVF
  (b.shlPllLoss).resetCore (some 1) false

/-- A loss that is declared acts while the PLL runs the device; in DORMANT it is ignored (R38). -/
def pllLoss (b : Block) : Block :=
  match b.crm.phase with
  | .run | .wakeBanks | .locked => b.pllLost
  | _ => b

def pllLock (cycles : Nat) (b : Block) : Block :=
  let lock (b : Block) : Block := (b.put CRM.CLK_STAT_PLL_LOCK 1).put CRM.LOCK_TIME_LAST cycles
  if 4000 < cycles then b
  else
    match b.crm.phase with
    | .pllWait | .relock => ((lock b).bootPut 0 4 2).setPhase .locked
    | .wakePll => (lock b).wakeLocked
    | _ => b

/-- The lock limit passes: PLL_NO_LOCK at start-up, the next attempt or PLL_RELOCK_FAIL after a loss, a loss in a wake (R26, R28, R40). -/
def pllLockTimeout (b : Block) : Block :=
  match b.crm.phase with
  | .pllWait => b.startFailed 8 0
  | .relock =>
    let b := { b with crm := { b.crm with relocks := b.crm.relocks + 1 } }
    if 3 ≤ b.crm.relocks then b.startFailed 9 0 else b.setPhase .lossWait
  | .wakePll => b.pllLost
  | _ => b

def pllRelockAttempt (b : Block) : Block := if b.crm.phase = .lossWait then b.setPhase .relock else b

/-- A check window of 16 nightwatch cycles ends (R27). -/
def pllCheckWindow (count unlockedNw : Nat) (b : Block) : Block :=
  let bad := count < 12 || decide (20 < count)
  let b' := { b with crm := { b.crm with pllBad := bad } }
  match b.crm.phase with
  | .run | .wakeBanks | .locked => if (bad && b.crm.pllBad) || decide (2 < unlockedNw) then b'.pllLost else b'
  | _ => b

/-- A count of nightwatch cycles over 1024 LCLK ends (R30). -/
def nwCheckWindow (count : Nat) (b : Block) : Block :=
  if !b.running then b
  else
    let bad := count < 148 || decide (180 < count)
    let fault := bad && b.crm.nwBad
    let b := { (b.flag CRM.CLK_STAT_NW_OK (!bad)) with crm := { b.crm with nwBad := bad, nwFault := fault } }
    if fault then (b.put CRM.CLK_STAT_NW_FAULT 1).raise 0x04 1 else b

/-! ## Core voltage (R31 to R34) -/

/-- VID changes to a code. Every change starts the count of evaluations above SLACK_HI again, and evaluations during SETTLE count, of which the manual
says nothing (DESIGN CHOICE, log entry 127). -/
def Block.setVid (b : Block) (v : Nat) : Block :=
  let b := (b.put CRM.AVS_STAT_VID_NOW v).flag CRM.AVS_STAT_AT_MAX (v == b.get CRM.AVS_CFG_VID_MAX)
  { b with crm := { b.crm with avsSettling := true, avsHigh := 0 } }

/-- VID kept between its bounds: where the loop is active and a write of the bounds leaves VID outside them, it goes to the nearer bound at
the write (R32, DEDUCED, log entry 97). -/
def Block.boundVid (b : Block) : Block :=
  let vid := b.get CRM.AVS_STAT_VID_NOW
  let v := max (b.get CRM.AVS_CFG_VID_MIN) (min vid (b.get CRM.AVS_CFG_VID_MAX))
  if b.on CRM.AVS_CFG_EN && v != vid then b.setVid v else b

/-- One evaluation of the sixteen monitors. -/
def avsEvaluate (slacks : List Nat) (b : Block) : Block :=
  if !b.running || !b.on CRM.AVS_CFG_EN || slacks.isEmpty then b
  else
    let ms := slacks.take 16
    let least := ms.foldl min (ms.getD 0 0)
    let b := (b.put CRM.AVS_STAT_SLACK_MIN (min 255 least)).put CRM.AVS_STAT_MON_WORST (ms.idxOf least)
    let b := { b with crm := { b.crm with avsLow := decide (least < 4) } }
    let b := if least < 4 then b.raise 0x03 1 else b
    let vid := b.get CRM.AVS_STAT_VID_NOW
    let low := decide (least < b.get CRM.AVS_SLACK_SLACK_LO)
    let n := if b.get CRM.AVS_SLACK_SLACK_HI < least then b.crm.avsHigh + 1 else 0
    let b := { b with crm := { b.crm with avsHigh := n } }
    let b := if low && vid == b.get CRM.AVS_CFG_VID_MAX then b.raise 0x02 1 else b
    if b.crm.avsSettling then b
    else if low && decide (vid < b.get CRM.AVS_CFG_VID_MAX) then b.setVid (vid + 1)
    else if 64 ≤ n ∧ b.get CRM.AVS_CFG_VID_MIN < vid then b.setVid (vid - 1)
    else b

def avsSettleElapsed (b : Block) : Block := { b with crm := { b.crm with avsSettling := false } }

/-! ## Register writes of the CRM page (R37, R47, R48) -/

/-- A write of `MODE_REQ`. -/
def Block.modeReq (b : Block) (w : Word) : Block × Ack :=
  let b := b.store CRM.MODE_REQ w
  if CRM.MODE_REQ_GO.of w = 0 then (b, .ok)
  else
    let t := CRM.MODE_REQ_TARGET.of w
    let (code, next) := b.modeDecide t
    let b := ((b.put CRM.MODE_RESULT_CODE code).put CRM.MODE_RESULT_TARGET t).wrapInc CRM.MODE_RESULT_SEQ
    if code ≠ 0 then (b, .ok)
    else if next = 5 then (b.dormantEnter, .ok)
    else ((b.setMode next).put CRM.MODE_BUSY 1, .ok)

def modeTransitionDone (b : Block) : Block := if b.running && b.mode != 5 then (b.put CRM.MODE_BUSY 0).modeEvents else b

/-- A write of `RST_CTL`. A core reset that is turned away writes `MODE_RESULT.CODE` and leaves `TARGET` and `SEQ`, which the manual leaves open (DESIGN
CHOICE, log entry 38). -/
def Block.rstCtl (b : Block) (w : Word) : Block × Ack :=
  if CRM.RST_CTL_CORE_RST.of w = 0 then (b, .ok)
  else if CRM.RST_CTL_KEY.of w ≠ 0x5A ∨ (b.mode ≠ 1 ∧ b.mode ≠ 4) ∨ b.energised then (b.put CRM.MODE_RESULT_CODE 7, .refused 7)
  else (b.resetCore (some 2) false, .ok)

def Block.crmWrite (b : Block) (r : Reg) (w : Word) : Block × Ack :=
  if r = CRM.MODE_REQ then b.modeReq w
  else if r = CRM.RST_CTL then b.rstCtl w
  else if r = CRM.PLL_LOSS_CNT then (if slice w 31 1 = 1 then b.wr r 0 else b, .ok)
  else if r = CRM.AVS_CFG then
    let new := r.merge (b.locked 1) (b.rd r) w
    let lo := CRM.AVS_CFG_VID_MIN.of new
    let hi := CRM.AVS_CFG_VID_MAX.of new
    if hi < lo ∨ 16 < hi then (b, .refused 0xFF)
    else
      let b := (b.store r w).boundVid
      (b.flag CRM.AVS_STAT_AT_MAX (b.get CRM.AVS_STAT_VID_NOW == hi), .ok)
  else if r = CRM.WAKE_CFG then ((b.store r w).wakeLevels, .ok)
  else (b.store r w, .ok)

end Sys2Proof.Machine
end

