-- ==== Sys2Proof/Machine/Otp.lean ====
section
/-!
DEFINITION. Fuses, calibration slots, OTP commands and the start-up sequence (R49 to R79, R418 to R420).
-/

namespace Sys2Proof.Machine

/-! ## Fuse words (R50, R51, R72, R73) -/

/-- The seven check bits of a datum; the all-zero word is a codeword (R51). -/
def checkBits (d : Word) : BitVec 7 := if d = 0 then 0 else Config.fuseCheck d

/-- The 39-bit codeword of a datum, check bits on top. -/
def codeword (d : Word) : BitVec 39 := BitVec.ofNat 39 (d.toNat + (checkBits d).toNat * 2 ^ 32)

def rawData (r : BitVec 39) : Word := BitVec.ofNat 32 r.toNat
def rawCheck (r : BitVec 39) : Nat := r.toNat / 2 ^ 32

/-- A stored word read under its code: the datum and whether one bit was corrected; none where it cannot be corrected. -/
def fuseDecode (r : BitVec 39) : Option (Word × Bool) :=
  if codeword (rawData r) = r then some (rawData r, false)
  else
    let flip (i : Nat) : BitVec 39 := r ^^^ BitVec.ofNat 39 (2 ^ i)
    match (List.range 39).find? (fun i => codeword (rawData (flip i)) == flip i) with
    | some i => some (rawData (flip i), true)
    | none => none

/-- The value that at least two of the three reads share. -/
def fuseMajority (f : FuseRaw) : Option Word :=
  let v (r : BitVec 39) : Option Word := (fuseDecode r).map Prod.fst
  let l := v f.low
  let n := v f.normal
  let h := v f.high
  if n.isSome && (n == l || n == h) then n else if l.isSome && l == h then l else none

def fuseMarginal (f : FuseRaw) : Bool := !(f.low == f.normal && f.normal == f.high)

def Block.fuse (b : Block) (w : Nat) : FuseRaw := Tab.get ⟨0, 0, 0⟩ b.otp.fuses w

/-- The value of a word; one with no majority reads as zero (R74). -/
def Block.fuseVal (b : Block) (w : Nat) : Word := (fuseMajority (b.fuse w)).getD 0

/-- A word is programmed: a stored bit reads 1 at NORMAL, the level of every read in operation. R51 names no level (R72, DEDUCED, log entry
99). -/
def Block.burnt (b : Block) (w : Nat) : Bool := (b.fuse w).normal != 0

/-! ## Units (R49, R50, R52) -/

/-- Base, words under the digest, words per mask bit. -/
structure UnitRow where
  base : Nat
  len : Nat
  g : Nat
  digest : Nat
  flag : Nat
deriving DecidableEq, Repr

/-- The units that are finalised. -/
def unitRow (u : Nat) : Option UnitRow :=
  if u = 0 then some ⟨0x000, 32, 1, 0x3C0, 0x3E0⟩
  else if u = 1 then some ⟨0x020, 16, 1, 0x3C4, 0x3E1⟩
  else if u = 3 then some ⟨0x040, 49, 2, 0x3C8, 0x3E2⟩
  else if 4 ≤ u ∧ u ≤ 7 then some ⟨0x080 + 64 * (u - 4), 60, 2, 0x080 + 64 * (u - 4) + 60, 0x3E3 + (u - 4)⟩
  else if 24 ≤ u ∧ u ≤ 27 then some ⟨0x200 + 112 * (u - 24), 112, 4, 0x3CC + 4 * (u - 24), 0x3E7 + (u - 24)⟩
  else none

def sealedUnits : List Nat := [0, 1, 3, 4, 5, 6, 7, 24, 25, 26, 27]

def flagWord (u : Nat) (forced : Bool) : Word := BitVec.ofNat 32 (0xF5000000 + u * 0x10000 + (if forced then 1 else 0))

/-- A unit is finalised, and was forced. -/
def Block.finalised (b : Block) (u : Nat) : Bool :=
  match unitRow u with
  | some r => let v := b.fuseVal r.flag
    v == flagWord u false || v == flagWord u true
  | none => false
def Block.forced (b : Block) (u : Nat) : Bool :=
  match unitRow u with
  | some r => b.fuseVal r.flag == flagWord u true
  | none => false

/-- The unit of a word (R49); the revocation words and the reserved words belong to none. -/
def unitOf (w : Nat) : Option Nat :=
  if w < 0x20 then some 0
  else if w < 0x30 then some 1
  else if w < 0x40 then some 2
  else if w < 0x71 then some 3
  else if w < 0x80 then none
  else if w < 0x180 then some (4 + (w - 0x80) / 64)
  else if w < 0x200 then some (8 + (w - 0x180) / 8)
  else if w < 0x3C0 then some (24 + (w - 0x200) / 112)
  else if w < 0x400 then some 28
  else none

/-- The digest of a unit over its present values (R70). -/
def Block.unitDigest (b : Block) (u : Nat) : List Word :=
  match unitRow u with
  | some r =>
    (sha256 (BitVec.ofNat 8 u :: ((List.range r.len).map (fun i => bytesBE (b.fuseVal (r.base + i)))).flatten)).take 4
  | none => []

/-- The stored digest. -/
def Block.storedDigest (b : Block) (u : Nat) : List Word :=
  match unitRow u with
  | some r => (List.range 4).map (fun i => b.fuseVal (r.digest + i))
  | none => []

/-- Every granule that the mask requires is complete (R52). -/
def Block.complete (b : Block) (u : Nat) : Bool :=
  match unitRow u with
  | some r =>
    let mask := (b.fuseVal r.base).toNat
    (bitsOf mask 32).all (fun i => (List.range r.g).all (fun k => decide (r.len ≤ i * r.g + k) || b.burnt (r.base + i * r.g + k)))
  | none => true

/-- Mask bits that a header may have (R52). -/
def maskBits (u : Nat) : Nat :=
  match unitRow u with
  | some r => (r.len + r.g - 1) / r.g
  | none => 32

/-- A retire word is present (R59). -/
def Block.retired (b : Block) (s : Nat) : Bool :=
  decide (s < 3) && b.fuseVal (0x3DC + s) == BitVec.ofNat 32 (0x7E000000 + s)

/-- A calibration slot is valid (R59). -/
def Block.slotValid (b : Block) (s : Nat) : Bool :=
  b.finalised (4 + s) && !b.retired s && b.unitDigest (4 + s) == b.storedDigest (4 + s)

/-- The highest of four slots with a property. -/
def topSlot (p : Nat → Bool) : Option Nat := [3, 2, 1, 0].find? p

/-! ## Commissioning slots (R57) -/

/-- The check of a COMMISSION slot, the low 24 bits of word 7 against those of the CRC: none while it is open (R57). -/
def Block.commOk (b : Block) (c : Nat) : Option Bool :=
  let a := 0x180 + 8 * c
  if !b.burnt (a + 7) then none
  else
    let crc := crc32 (((List.range 5).map (fun i => bytesBE (b.fuseVal (a + i)))).flatten)
    some ((b.fuseVal (a + 7)).toNat % 2 ^ 24 == crc.toNat % 2 ^ 24)

/-- The latest valid slot. -/
def Block.commLatest (b : Block) : Option Nat := ((List.range 16).reverse).find? (fun c => b.commOk c == some true)

/-- The open slot. -/
def Block.commOpen (b : Block) : Option Nat := (List.range 16).find? (fun c => b.commOk c == none)

/-- The latest slot passed to SHL (R387, R411). -/
def Block.commToShl (b : Block) : Block :=
  match b.commLatest with
  | some c =>
    let a := 0x180 + 8 * c
    let chk := (b.fuseVal (a + 1)).toNat % 65536 + (b.fuseVal (a + 2)).toNat % 65536 * 65536
    let b := (b.wr SHL.SLOT_CHECK (BitVec.ofNat 32 chk)).put SHL.SLOT_VER_VERSION (b.fuseVal a).toNat
    ((b.put SHL.SLOT_VER_SLOT c).put SHL.SLOT_VER_VALID 1).shlRefresh
  | none => ((b.wr SHL.SLOT_CHECK 0).wr SHL.SLOT_VER 0).shlRefresh

/-! ## Lifecycle (R54) -/

def stepWord (k j : Nat) : Nat := 0x030 + 4 * (k - 1) + j
def stepPat (k j : Nat) : Word := BitVec.ofNat 32 (0x1C5E0000 + 16 * k + j)

/-- How many of a step's words read their pattern. -/
def Block.stepCount (b : Block) (k : Nat) : Nat := ((List.range 4).filter (fun j => b.fuseVal (stepWord k j) == stepPat k j)).length
def Block.stepHere (b : Block) (k : Nat) : Bool := decide (3 ≤ b.stepCount k)
/-- A step is partly programmed: absent with any of its words programmed. R54 speaks of one or two; three or four of which fewer than
three match count alike (DEDUCED, log entry 99). -/
def Block.stepPartial (b : Block) (k : Nat) : Bool := !b.stepHere k && (List.range 4).any (fun j => b.burnt (stepWord k j))

/-- The decoded state and whether it is valid. -/
def Block.lifecycle (b : Block) : Nat × Bool :=
  let p1 := b.stepHere 1
  let p2 := b.stepHere 2
  let p3 := b.stepHere 3
  (if !p1 then 0 else if !p2 then 1 else if !p3 then 2 else 3, !(p2 && !p1) && !(p3 && !p2))

/-- The lifecycle state as decoded at the start. -/
def Block.lc0 (b : Block) : Nat := b.get OTP.LIFECYCLE_STATE

/-- The lifecycle in force, also before start-up has decoded it into the register: what the fuses then hold (R54, R431). -/
def Block.lcHeld (b : Block) : Nat :=
  match b.crm.phase with
  | .held | .arrayRead => b.lifecycle.1
  | _ => b.lc0

/-! ## Keys (R56, R419, R420) -/

/-- A key is present: 0 and 1 firmware, 2 debug. -/
def Block.keyHere (b : Block) (k : Nat) : Bool := (List.range 16).all (fun n => b.burnt (0x041 + 16 * k + n))
def Block.keyRevoked (b : Block) (k : Nat) : Bool := b.fuseVal (0x071 + k) == BitVec.ofNat 32 (0x5E000000 + 0x10000 * k)

/-- A key's hash as one number. -/
def Block.keyHash (b : Block) (k : Nat) : Nat :=
  (List.range 16).foldl (fun x n => x * 65536 + (b.fuseVal (0x041 + 16 * k + n)).toNat % 65536) 0
def Block.svnMin (b : Block) : Nat :=
  ((List.range 12).filter (fun i => b.fuseVal (0x074 + i) == BitVec.ofNat 32 (0x5EC00000 + i))).length

/-- SEC evaluates the key words. -/
def Block.secKeys (b : Block) : Block :=
  let here := ofBits ((List.range 3).filter b.keyHere)
  let gone := ofBits ((List.range 3).filter b.keyRevoked)
  ((b.put SEC.AUTH_STAT_SVN_MIN b.svnMin).put SEC.AUTH_STAT_REVOKED gone).put SEC.AUTH_STAT_PRESENT here

/-- A firmware key is present and not revoked. -/
def Block.keyLeft (b : Block) (without : Nat) : Bool := [0, 1].any (fun k => k != without && b.keyHere k && !b.keyRevoked k)

/-! ## Status of the array (R79) -/

/-- The status of a unit: 0 UNSEALED, 1 COMPLETE, 2 SEALED_INCOMPLETE, 3 INVALID. -/
def Block.unitStat (b : Block) (u : Nat) : Nat :=
  if 8 ≤ u ∧ u < 24 then
    match b.commOk (u - 8) with
    | none => 0
    | some ok => if ok then 1 else 3
  else
    match unitRow u with
    | some r => if b.forced u then 2 else if b.finalised u then 1 else if b.burnt r.flag then 3 else 0
    | none => 0

/-- What the array's words show at any time: unit status, the calibration chain but for ACTIVE, the COMMISSION slots. -/
def Block.otpRefresh (b : Block) : Block :=
  let stat (lo n : Nat) : Nat := (List.range n).foldl (fun x i => x + b.unitStat (lo + i) * 4 ^ i) 0
  let slots (p : Nat → Bool) : Nat := ofBits ((List.range 4).filter p)
  let comm := ofBits ((List.range 16).filter (fun c => b.commOk c == some true))
  let b' := (b.wr OTP.UNIT_STAT0 (BitVec.ofNat 32 (stat 0 16))).wr OTP.UNIT_STAT1 (BitVec.ofNat 32 (stat 16 13))
  let b' := (b'.put OTP.CAL_STAT_VALID (slots b.slotValid)).put OTP.CAL_STAT_RETIRED (slots b.retired)
  let b' := (b'.put OTP.CAL_STAT_INCOMPLETE (slots (fun s => b.forced (4 + s)))).put OTP.CAL_STAT_NEXT
    ((topSlot (fun s => b.finalised (4 + s))).getD 0)
  let b' := (b'.put OTP.COMM_STAT_VALID comm).flag OTP.COMM_STAT_NONE b.commLatest.isNone
  b'.put OTP.COMM_STAT_LATEST (b.commLatest.getD 0)

/-- The MARGINAL count and lowest word, from the map. `BOOT_STATUS.MARGINAL` follows it, so that it ends with the last MARGINAL word; R76 does
not say so (DESIGN CHOICE, log entry 99). -/
def Block.margRefresh (b : Block) : Block :=
  let ws := ((List.range 32).map (fun n => (bitsOf (b.rd OTP.MARG_MAP 0 n).toNat 32).map (fun k => 32 * n + k))).flatten
  let b := (b.put OTP.MARG_CNT_COUNT ws.length).put OTP.MARG_CNT_FIRST (ws.getD 0 0)
  b.bootPut 19 1 (if ws.isEmpty then 0 else 1)

/-! ## Start-up (R73 to R75) -/

/-- The failure of steps 2 and 3, as a FAIL code. -/
def Block.lifecycleFault (b : Block) : Option Nat :=
  let (lc, ok) := b.lifecycle
  if !ok then some 4
  else if lc = 3 then some 0x0B
  else if 0 < lc && [0, 1].any (fun u => !b.finalised u) then some 6
  else none

/-- The three-margin read of the array is complete, and the lifecycle is decoded: steps 1 to 3. -/
def startupArrayReadDone (b : Block) : Block :=
  if b.crm.phase ≠ .arrayRead then b
  else
    let marg := b.otp.fuses.filter (fun c => fuseMarginal c.2)
    let corr := b.otp.fuses.filter (fun c => !(fuseMarginal c.2) && (match fuseDecode c.2.normal with
      | some (_, x) => x
      | none => false))
    let b := b.each (marg.map Prod.fst) (fun b w => b.setMap OTP.MARG_MAP_WORD (w % 32) true 0 (w / 32))
    let b := b.margRefresh.put OTP.CORR_CNT_COUNT corr.length
    let (lc, _) := b.lifecycle
    let b := (b.put OTP.LIFECYCLE_STATE lc).flag OTP.LIFECYCLE_PARTIAL ((List.range 3).any (fun k => b.stepPartial (k + 1)))
    let b := ((b.put SEC.SEC_STAT_LC lc).bootPut 17 2 lc).bootPut 0 4 1
    let b := b.otpRefresh.bootPut 21 1 (if sealedUnits.any b.forced then 1 else 0)
    match b.lifecycleFault with
    | some code => b.startFailed code 0
    | none => b.setPhase .digests

/-- The flag word of a unit is programmed with no flag. It is a failure past BLANK only: its unit is not finalised (R75, DEDUCED, log entry
100). -/
def Block.badFlagAt (b : Block) (u : Nat) : Bool :=
  match unitRow u with
  | some r => decide (0 < b.lifecycle.1) && b.burnt r.flag && !b.finalised u
  | none => false

/-- The first failure of steps 4 to 6: FAIL code and unit. -/
def Block.startFault (b : Block) : Option (Nat × Nat) :=
  let lc := b.lifecycle.1
  let words (u : Nat) : List Nat := match unitRow u with
    | some r => (List.range (if r.digest = r.base + 60 then 64 else r.len)).map (r.base + ·)
    | none => []
  let checked := sealedUnits.filter (fun u => b.finalised u && !(decide (4 ≤ u) && decide (u ≤ 6) && b.retired (u - 4)))
  let badFlag := sealedUnits.find? b.badFlagAt
  let unread := checked.find? (fun u => (words u).any (fun w => (fuseMajority (b.fuse w)).isNone))
  let badSum := checked.find? (fun u => b.unitDigest u != b.storedDigest u)
  let v := (b.fuseVal 0x021).toNat % 256
  (badFlag.map (fun u => (3, u))).or <| (unread.map (fun u => (1, u))).or <| (badSum.map (fun u => (2, u))).or <|
    if b.finalised 1 && !([0x64, 0x48, 0x32].contains v) then some (5, 0)
    else if 0 < lc && (topSlot b.slotValid).isNone then some (7, 0)
    else none

/-- Digests and decodes are complete: start-up goes on to the PLL or ends (steps 4 to 8). Grade and package show what word 0x022 holds, also
where FEATURES is not finalised, of which R55 settles the variant only (DEDUCED, log entry 99). -/
def startupDigestsDone (b : Block) : Block :=
  if b.crm.phase ≠ .digests then b
  else
    match b.startFault with
    | some (code, unit) => b.startFailed code unit
    | none =>
      let defaulted := !b.finalised 1
      let w1 := (b.fuseVal 0x021).toNat
      let w2 := (b.fuseVal 0x022).toNat
      let b := (b.put OTP.FEAT_VARIANT (if defaulted then 0x64 else w1)).flag OTP.FEAT_DEFAULTED defaulted
      let b := (b.put OTP.FEAT_GRADE (w2 / 256)).put OTP.FEAT_PACKAGE w2
      let act := topSlot b.slotValid
      let b := ((b.put OTP.CAL_STAT_ACTIVE (act.getD 0)).flag OTP.CAL_STAT_NONE act.isNone).bootPut 22 2 (act.getD 0)
      let b := b.otpRefresh
      if b.crm.relocking then b.setPhase .lossWait else b.setPhase .pllWait

/-! ## Calibration (R58, R61, R62) -/

/-- A position of a calibration slot: word, record type, instance. -/
def calPositions : List (Nat × Nat × Nat) :=
  (List.range 32).map (fun i => (1 + i, 1, i)) ++ (List.range 8).map (fun i => (33 + i, 2, i)) ++
    [(41, 3, 0), (42, 3, 1), (43, 4, 0)] ++ (List.range 8).map (fun i => (44 + i, 5, i)) ++ [(52, 6, 0), (53, 6, 1)]

/-- The variant enables the instance of a record. -/
def Block.calEnabled (b : Block) (t i : Nat) : Bool :=
  if t = 1 then decide (i < b.numConv) else if t = 5 then decide (8 * i < b.numLegs) else if t = 6 then decide (32 * i < b.numLegs) else true

/-- A record's two values in the registers of its owner. -/
def Block.calLoad (b : Block) (t i a c : Nat) : Block :=
  match t with
  | 1 => (b.put SC.SC_CAL_OFFSET a i).put SC.SC_CAL_GAIN c i
  | 2 => (b.put SNS.VB_CAL_OFFSET a 0 i).put SNS.VB_CAL_GAIN c 0 i
  | 3 => if i = 0 then (b.put SNS.HK_CAL0_OFFSET a).put SNS.HK_CAL0_GAIN c else (b.put SNS.HK_CAL1_OFFSET a).put SNS.HK_CAL1_GAIN c
  | 4 => (b.put SNS.DIE_CAL_OFFSET a).put SNS.DIE_CAL_SLOPE c
  | 5 => (b.put SNS.NCAL_OFFSET a 0 i).put SNS.NCAL_HYST c 0 i
  | _ => if i = 0 then (b.put EGA.DLL_CODE0_COARSE a).put EGA.DLL_CODE0_FINE c
    else (b.put EGA.DLL_CODE1_COARSE a).put EGA.DLL_CODE1_FINE c

/-- Every record of the active slot, or its default: zero, for the taps the middle code (DEDUCED, log entry 29). -/
def Block.calibrate (b : Block) : Block :=
  let base := 0x080 + 64 * b.get OTP.CAL_STAT_ACTIVE
  let none' := b.on OTP.CAL_STAT_NONE
  let b := calPositions.foldl (fun b p =>
    let (w, t, i) := p
    let v := (b.fuseVal (base + w)).toNat
    if !b.calEnabled t i then b
    else if !none' && v / 2 ^ 26 == t && v / 2 ^ 20 % 64 == i then b.calLoad t i (v / 2 ^ 10 % 2 ^ 10) (v % 2 ^ 10)
    else
      let d := if t = 6 then 32 else 0
      let b := if t = 2 then b.setBus i { b.bus i with noCal := true } else b
      (b.calLoad t i d d).setMap OTP.CAL_STAT_DEFAULTED (t - 1) true) b
  b.bootPut 20 1 (if b.get OTP.CAL_STAT_DEFAULTED = 0 then 0 else 1)

/-- The core is released into BOOT (R9, R62, R75, R78, R108, R329, R420). A program store that fails the digest check is fenced through
LEA_ENGINE_FAULT; which ones fail is free, as their words are (R220, R247, DESIGN CHOICE, log entry 102). The boot ROM starts, and enables the
port that it reads boot flash on (R115, R125). -/
def State.coreRelease (s : State) : State :=
  if s.b.crm.phase ≠ .locked then s
  else
    let (stores, b) := s.b.draw
    let b : Block := { (b.setPhase .run) with ts := 0 }
    let b := ((b.put DIR.DEVICE_ID_VARIANT (b.get OTP.FEAT_VARIANT)).bootPut 0 4 3)
    let b := b.each (List.range 4) (fun b i => b.wr DIR.UID (b.fuseVal (1 + i)) 0 i)
    let b := (b.calibrate.secKeys.commToShl).bootPut 0 4 4
    let b : Block := if b.get OTP.MARG_CNT_COUNT = 0 then b else b.raise 0x05 2
    let b := if b.get OTP.CAL_STAT_DEFAULTED = 0 then b else b.raise 0x06 2
    let b := if (List.range 16).any (fun c => b.commOk c == some false) then b.raise 0x07 2 else b
    let b := b.each ((bitsOf stores.toNat 8).filter (· < b.numEng)) (fun b e => b.raise 0x1F (0x1E0 + e))
    { s with b := (b.put XSP.CTL_EN 1).put MEM.MEM_STAT_INIT_BUSY 1, mem := memClear (memClear s.mem 0x1000000 0x1050000) 0x490000 0x49A000 }

/-! ## Commands (R64 to R71, R418) -/

/-- The lifecycle lets the words of a unit, or the revocation words for none, be programmed (R66). -/
def lcAllows (lc : Nat) (u : Option Nat) : Bool :=
  match u with
  | none => lc == 1 || lc == 2
  | some u => if u ≤ 1 ∨ u = 4 then lc == 0 else if u = 3 then lc ≤ 1 else lc == 1 || lc == 2

/-- ADVANCE may run (R418). -/
def Block.advanceOk (b : Block) : Bool :=
  let t := b.lc0 + 1
  b.on SEC.LC_ARM_ARMED && b.get SEC.LC_ARM_TARGET == t &&
    (match t with
     | 1 => b.finalised 0 && b.finalised 1 && b.slotValid 0
     | 2 => b.finalised 3 && b.keyLeft 2
     | 3 => b.get SEC.SEC_STAT_LEVEL == 2 && b.sec.byChal
     | _ => false)

/-- The calibration slot whose words may be programmed (R60). -/
def Block.calOpen (b : Block) : Nat :=
  match topSlot (fun s => b.finalised (4 + s)) with
  | some s => s + 1
  | none => 0

/-- The word of a firmware key's revocation. -/
def revokePattern (k : Nat) : Word := BitVec.ofNat 32 (0x5E000000 + 0x10000 * k)

/-- The checks 5 and 6. A PROGRAM that revokes the last usable firmware key of a SEALED device is denied (R420). -/
def Block.otpTarget (b : Block) (op w u : Nat) (data : Word) : Nat :=
  let lc := b.lc0
  let mw := unitOf w
  if op = 2 then
    let bad := mw == some 2 || mw == some 28 ||
      (match mw with
       | some k => (decide (4 ≤ k) && decide (k ≤ 7) && decide (54 ≤ (w - 0x80) % 64)) ||
           (decide (8 ≤ k) && decide (k ≤ 23) && (w % 8 == 5 || w % 8 == 6))
       | none => false)
    if bad then 5
    else if !lcAllows lc mw then 6
    else if lc = 2 && (w == 0x071 || w == 0x072) && data == revokePattern (w - 0x071) && !b.keyLeft (w - 0x071) then 6
    else 0
  else if op = 4 then (if (unitRow u).isNone then 5 else if !lcAllows lc (some u) then 6 else 0)
  else if op = 5 then (if b.advanceOk then 0 else 6)
  else if op = 3 then (if 2 < lc then 6 else 0)
  else 0

/-- The checks from 9 on. -/
def Block.otpWordCheck (b : Block) (op w u : Nat) (data : Word) (force : Nat) : Nat :=
  if op = 2 then
    let mw := unitOf w
    let final := match mw with
      | some k => b.finalised k
      | none => false
    let order := match mw with
      | some k =>
        if 4 ≤ k ∧ k ≤ 7 then k - 4 != b.calOpen
        else if 8 ≤ k ∧ k ≤ 23 then b.commOpen != some (k - 8)
        else false
      | none => false
    let head := match mw with
      | some k => match unitRow k with
        | some r => w == r.base && (data.toNat % 2 == 0 || decide (2 ^ maskBits k ≤ data.toNat))
        | none => false
      | none => false
    if b.burnt w then 9 else if data = 0 then 10 else if final then 11 else if order then 12 else if head then 13 else 0
  else if op = 3 then (if !b.burnt w then 15 else if (fuseMajority (b.fuse w)).isNone then 16 else 0)
  else if op = 4 then
    match unitRow u with
    | some r =>
      if !b.burnt r.base then 18
      else if !b.complete u ∧ force ≠ 0x5F then 19
      else if b.finalised u then 20
      else if (List.range 4).any (fun i => b.burnt (r.digest + i) && b.fuseVal (r.digest + i) != (b.unitDigest u).getD i 0) then 21
      else 0
    | none => 5
  else 0

/-- Every check of a command in the order of R65. -/
def Block.otpCheck (b : Block) (op w u : Nat) (data : Word) (key force : Nat) : Nat :=
  let pulses := 2 ≤ op && decide (op ≤ 5)
  if b.on OTP.STATUS_BUSY then 1
  else if (op = 1 && !(decide (1 ≤ b.mode) && decide (b.mode ≤ 4))) || (pulses && (b.mode != 1 || b.energised)) then 2
  else if pulses && key != 0xC3 then 3
  else if op = 0 ∨ 5 < op then 4
  else
    match b.otpTarget op w u data with
    | 0 => if pulses && !b.crm.vqpsOk then 7 else b.otpWordCheck op w u data force
    | c => c

/-- The words a command pulses, with the bits to set. -/
def Block.otpTargets (b : Block) (op w u : Nat) (data : Word) (force : Nat) : List (Nat × BitVec 39) :=
  if op = 2 then [(w, codeword data)]
  else if op = 3 then [(w, codeword (b.fuseVal w))]
  else if op = 4 then
    match unitRow u with
    | some r =>
      let d := b.unitDigest u
      let dig := ((List.range 4).filter (fun i => !(b.burnt (r.digest + i)))).map (fun i => (r.digest + i, codeword (d.getD i 0)))
      let retire := if 5 ≤ u ∧ u ≤ 7 then [(0x3DC + (u - 5), codeword (BitVec.ofNat 32 (0x7E000000 + (u - 5))))] else []
      dig ++ [(r.flag, codeword (flagWord u (force == 0x5F && !b.complete u)))] ++ retire
    | none => []
  else if op = 5 then
    let k := b.lc0 + 1
    ((List.range 4).filter (fun j => b.fuseVal (stepWord k j) != stepPat k j)).map (fun j => (stepWord k j, codeword (stepPat k j)))
  else []

/-- The outcome of a command in `OTP.STATUS`. -/
def Block.otpAnswer (b : Block) (op code : Nat) : Block :=
  ((b.put OTP.STATUS_RESULT code).put OTP.STATUS_OP op).wrapInc OTP.STATUS_SEQ

/-- A write of `OTP.CMD`. Its outcome stands in `OTP.STATUS`, also where it is refused; a refused command leaves `LC_ARM.ARMED`, which R418
clears at the next command of any kind (R65, DEDUCED, log entry 101). -/
def Block.otpCmd (b : Block) (w : Word) : Block :=
  if OTP.CMD_GO.of w = 0 then b.store OTP.CMD w
  else
    let op := OTP.CMD_OP.of w
    let force := OTP.CMD_FORCE.of w
    let word := b.get OTP.ADDR_WORD
    let unit := b.get OTP.ADDR_UNIT
    let data := b.rd OTP.WDATA
    let code := b.otpCheck op word unit data (OTP.CMD_KEY.of w) force
    let targets := b.otpTargets op word unit data force
    if code ≠ 0 then b.otpAnswer op code
    else
      let run : OtpRun := ⟨op, word, b.get OTP.ADDR_MARGIN, unit, data, force, targets⟩
      { (((b.store OTP.CMD w).put SEC.LC_ARM_ARMED 0).put OTP.STATUS_BUSY 1) with otp := { b.otp with run := some run, lost := false } }

/-- One word after its pulses, from the reads of the environment; a word without reads is taken as fully set. A bit that reads 1 at a level
reads 1 at every level that demands less current (R72). -/
def Block.burn (b : Block) (t : Nat × BitVec 39) (r : FuseRaw) : Block :=
  let old := b.fuse t.1
  let hi := old.high ||| (r.high &&& t.2)
  let mid := old.normal ||| (r.normal &&& t.2) ||| hi
  let n : FuseRaw := ⟨mid, old.low ||| (r.low &&& t.2) ||| mid, hi⟩
  { b with otp := { b.otp with fuses := Tab.set ⟨0, 0, 0⟩ b.otp.fuses t.1 n } }

/-- The words of a command in order, up to the first that does not verify at HIGH; whether all did. -/
def Block.burnAll (b : Block) : List (Nat × BitVec 39) → List FuseRaw → Block × Bool
  | [], _ => (b, true)
  | t :: ts, rs =>
    let b := b.burn t (rs.headD ⟨t.2, t.2, t.2⟩)
    if (b.fuse t.1).high &&& t.2 = t.2 then b.burnAll ts rs.tail else (b, false)

/-- READ: the word at the margin that stood at its GO (R64, R79). RDATA of a word that cannot be corrected is open (DESIGN CHOICE, log entry 6). -/
def Block.otpReadDone (b : Block) (w m : Nat) : Block :=
  let f := b.fuse w
  let raw := if m = 1 then f.low else if m = 2 then f.high else f.normal
  let b := b.put OTP.RCHECK_CHECK (rawCheck raw)
  match fuseDecode raw with
  | some (d, x) => ((b.wr OTP.RDATA d).flag OTP.RCHECK_CORRECTED x).put OTP.RCHECK_UNCORRECTABLE 0
  | none => (let (d, b) := b.draw; ((b.wr OTP.RDATA d).put OTP.RCHECK_CORRECTED 0).put OTP.RCHECK_UNCORRECTABLE 1)

/-- The running command completes. A word that does not verify has had every retry; RESTRIKE, for which R68 names no retry, shows what the
environment gives (R67, R79). RETRY is taken as it stands at the completion (DESIGN CHOICE, log entry 131). -/
def otpCommandDone (reads : List FuseRaw) (retries : Nat) (b : Block) : Block :=
  match b.otp.run with
  | none => b
  | some r =>
    if !b.running then b
    else
      let b := { (b.put OTP.STATUS_BUSY 0) with otp := { b.otp with run := none } }
      if r.op = 1 then (b.otpReadDone r.word r.margin).otpAnswer 1 0
      else
        let (b, ok) := b.burnAll r.targets reads
        let most := b.get OTP.PROG_CFG_RETRY
        let pulses := if r.op = 2 && !ok && !b.otp.lost then most else min retries most
        let b := if r.op ≤ 3 then b.put OTP.STATUS_PULSES pulses else b
        let f := b.fuse r.word
        let same := !(fuseMarginal f) && r.targets.all (fun t => f.normal == t.2)
        let code := if b.otp.lost then 8 else if r.op = 3 then (if same then 0 else 17) else if ok then 0 else 14
        let b := if r.op = 3 ∧ code = 0 then (b.setMap OTP.MARG_MAP_WORD (r.word % 32) false 0 (r.word / 32)).margRefresh else b
        let b := b.otpRefresh
        let b := if r.op = 2 then b.secKeys.commToShl else b
        b.otpAnswer r.op code

/-- A write of `LC_ARM` (R418, R435). -/
def Block.lcArm (b : Block) (w : Word) : Block × Ack :=
  if SEC.LC_ARM_KEY.of w ≠ 0x7E then (b, .refused 1)
  else if SEC.LC_ARM_TARGET.of w ≠ b.lc0 + 1 then (b, .refused 4)
  else
    let b := b.store SEC.LC_ARM w
    (if SEC.LC_ARM_ARM.of w = 1 then b.put SEC.LC_ARM_ARMED 1 else b, .ok)

def Block.otpWrite (b : Block) (r : Reg) (w : Word) : Block × Ack :=
  if r = OTP.CMD then (b.otpCmd w, .ok) else (b.store r w, .ok)

end Sys2Proof.Machine
end

