-- ==== Sys2Proof/Machine/Live.lean ====
section
/-!
DEFINITION. The register map: which register stands at an address (R80 to R83), and what a read of it returns, where that is not
the stored word but follows from other state.
-/

namespace Sys2Proof.Machine

/-! ## From addresses to registers -/

/-- The registers of a page body, and the page's unit counted from the first page of its kind (R81). -/
def pageBody (p : Nat) : List Reg × Nat :=
  if p = 0 then (DIR.all, 0) else if p = 1 then (CRM.all, 0) else if p = 2 then (OTP.all, 0) else if p = 3 then (SEC.all, 0)
  else if p = 4 then (HSP.all, 0) else if p = 5 then (XSP.all, 0) else if p = 6 then (ETH.all, 0) else if p = 7 then (CAN.all, 0)
  else if p = 8 then (CAN.all, 1) else if p = 9 then ([], 0) else if p = 0xA then (MEM.all, 0) else if p = 0xB then (QRE.all, 0)
  else if p = 0xC then (LEA.all, 0) else if p = 0xD then (TCU.all, 0) else if p = 0xE then (CFU.all, 0)
  else if p = 0xF then (EGA.all, 0) else if p = 0x10 then (SNS.all, 0) else if p = 0x11 then (FBI.all, 0)
  else if p = 0x12 then (FCR.all, 0) else if p = 0x13 then (SHL.all, 0)
  else if 0x20 ≤ p ∧ p < 0x60 then (LEG.all, p - 0x20)
  else if 0x60 ≤ p ∧ p < 0x78 then (AX.all, p - 0x60)
  else if 0x78 ≤ p ∧ p < 0x90 then (FB.all, p - 0x78)
  else if 0x90 ≤ p ∧ p < 0xB0 then (PC.all, p - 0x90)
  else if 0xB0 ≤ p ∧ p < 0xD0 then (SC.all, p - 0xB0)
  else if 0xD0 ≤ p ∧ p < 0x110 then (RG.all, p - 0xD0)
  else if 0x110 ≤ p ∧ p < 0x13C then (BK.all, p - 0x110)
  else if 0x140 ≤ p ∧ p < 0x1E0 then (LC.all, p - 0x140)
  else if 0x1E0 ≤ p ∧ p < 0x1E8 then (LE.all, p - 0x1E0)
  else ([], 0)

/-- A register, its unit and its element. -/
structure Place where
  reg : Reg
  i : Nat
  j : Nat
deriving DecidableEq, Repr

/-- The element of a register at an offset of its page. -/
def elemOf (r : Reg) (off : Nat) : Option Nat :=
  if r.cnt = 1 then (if off = r.off then some 0 else none)
  else if r.off ≤ off ∧ (off - r.off) % r.stride = 0 ∧ (off - r.off) / r.stride < r.cnt then some ((off - r.off) / r.stride)
  else none

/-- The first register of a list that stands at an offset. -/
def findReg : List Reg → Nat → Nat → Option Place
  | [], _, _ => none
  | r :: t, i, off =>
    match elemOf r off with
    | some j => some ⟨r, i, j⟩
    | none => findReg t i off

/-- The register at a word-aligned address; none where R82 applies. Sources without an assigned number have neither `SRC_CFG` nor
`SRC_CNT` (R368). -/
def Block.placeAt (b : Block) (a : Nat) : Option Place :=
  let p := a / 4096
  let off := a % 4096
  if 0x200000 ≤ a || !b.pageExists p then none
  else if off < 0x40 then findReg HDR.all p off
  else
    match findReg (pageBody p).1 (pageBody p).2 off with
    | some x => if (x.reg = FCR.SRC_CFG ∨ x.reg = FCR.SRC_CNT) ∧ (srcRow x.j).isNone then none else some x
    | none => none

/-! ## Page identity (R83) -/

/-- BLOCK and KIND of `PAGE_ID`. -/
def pageKind (p : Nat) : Nat × Nat :=
  if p < 6 then (p, 0)
  else if p = 6 then (6, 0)
  else if p = 7 ∨ p = 8 then (6, 10)
  else if p < 0x14 then (p - 2, 0)
  else if p < 0x60 then (0x0D, 1)
  else if p < 0x78 then (0x0C, 2)
  else if p < 0x90 then (0x0F, 3)
  else if p < 0xB0 then (0x0F, 4)
  else if p < 0xD0 then (0x0E, 5)
  else if p < 0x110 then (0x09, 6)
  else if p < 0x13C then (0x08, 7)
  else if p < 0x1E0 then (0x0A, 8)
  else (0x0A, 9)

def pageId (p : Nat) : Word :=
  BitVec.ofNat 32 (1 + (pageBody p).2 * 2 ^ 8 + (pageKind p).2 * 2 ^ 20 + (pageKind p).1 * 2 ^ 24)

/-- `PAGE_STAT.SEIZED`: of a bank in QUARANTINE, and of the unit such a bank was seized from (R83, R378). -/
def Block.seized (b : Block) (p : Nat) : Bool :=
  (List.range 44).any (fun n => b.bankOwner n == 4 && (p == bankPage n || (p != 0 && Tab.get 0 b.fcr.seizedFrom n == p)))

/-! ## Maps -/

/-- A word of a map: bit `k` is `f (32 · n + k)`. -/
def mapWord (f : Nat → Bool) (n : Nat) : Word := BitVec.ofNat 32 (ofBits ((List.range 32).filter (fun k => f (32 * n + k))))

/-- A map of slots. -/
def Block.slotMap (b : Block) (f : Nat → Bool) : Word := mapWord (fun n => decide (n < b.numAxes) && f n) 0

/-- The lowest page pending on a line: its number, or NONE. -/
def Block.firstPend (b : Block) (line : Nat) : Nat :=
  match b.linePages line with
  | [] => 2 ^ 15
  | p :: t => t.foldl min p

/-- A source is active (R370): the condition its chapter names persists at the unit, at the bus or at the pin (`Raised.unit`). -/
def Block.srcActive (b : Block) (src unit : Nat) : Bool :=
  if src = 0x03 then b.crm.avsLow
  else if src = 0x04 then b.crm.nwFault
  else if src = 0x0D then !b.on ETH.ETH_STAT_LINK
  else if src = 0x0E ∨ src = 0x0F then b.get CAN.CAN_STAT_STATE (src - 0x0E) == 2
  else if src = 0x13 then (b.leg (unit - 0x20)).fltLow
  else if src = 0x17 then b.mapBit SNS.SNS_STAT_BUS_OV (unit / 0x1000)
  else if src = 0x18 then b.mapBit SNS.SNS_STAT_BUS_UV (unit / 0x1000)
  else if src = 0x1E then b.on CFU.CP_FLAGS_LOSS 0 (unit / 0x1000)
  else if src = 0x2A then
    b.on FB.FB_STAT_WIRE_A (unit - 0x78) || b.on FB.FB_STAT_WIRE_B (unit - 0x78) || b.on FB.FB_STAT_WIRE_Z (unit - 0x78)
  else src == 0x33

/-- `HALT_CAUSE.ACTIVE`: a source that signalled HALT since HALT was entered is active (R381, R385). -/
def Block.haltActive (b : Block) : Bool := b.fcr.haltBy.any (fun x => b.srcActive x.1 x.2)

/-! ## What a read returns -/

/-- The live word of the registers whose value is not stored, by page kind; the stored word of every other. -/
def Block.liveHead (b : Block) (r : Reg) (p : Nat) : Word :=
  if r = HDR.PAGE_ID then pageId p
  else if r = HDR.PAGE_STAT then HDR.PAGE_STAT_SEIZED.into (b.rd r p) (if b.seized p then 1 else 0)
  else b.rd r p

def Block.liveDir (b : Block) (r : Reg) (j : Nat) : Word :=
  if r = DIR.PRESENT then mapWord b.pageExists j
  else if r = DIR.PEND then mapWord (fun p => b.pendPages.contains p) j
  else if r = DIR.FIRST_PEND then BitVec.ofNat 32 (b.firstPend 0 + 65536 * b.firstPend 1)
  else b.rd r 0 j

def Block.liveGlobal (b : Block) (r : Reg) (i j : Nat) : Word :=
  let w := b.rd r i j
  if r = CRM.MODE then CRM.MODE_ENERGISED.into w (if b.energised then 1 else 0)
  else if r = CRM.TS_LO then BitVec.ofNat 32 b.now
  else if r = CRM.TS_HI then BitVec.ofNat 32 (b.now / 2 ^ 32)
  else if r = OTP.STATUS then OTP.STATUS_VQPS_OK.into w (if b.crm.vqpsOk then 1 else 0)
  else if r = HSP.DEV_STATUS then b.devStatus
  else if r = XSP.STAT then XSP.STAT_BUSY.into w (if b.bootReads then 1 else XSP.STAT_BUSY.of w)
  else if r = LEA.CTX_FREE_CNT then BitVec.ofNat 32 (b.ctxs.filter (fun c => b.ctxSt c == 0)).length
  else if r = TCU.TCU_STAT then
    BitVec.ofNat 32 (ofBits ((List.range 4).filter b.sesActive) + 16 * ofBits ((List.range 4).filter (fun s => b.sesU s != 0)))
  else if r = SHL.UCG_LO then BitVec.ofNat 32 b.ucgMap
  else if r = SHL.UCG_HI then BitVec.ofNat 32 (b.ucgMap / 2 ^ 32)
  else w

def Block.liveMem (b : Block) (r : Reg) : Word :=
  let banks (f : Nat → Bool) (n : Nat) : Word := mapWord (fun k => decide (k < 44) && f k) n
  let rings (f : Nat → Bool) (n : Nat) : Word := mapWord (fun k => decide (k < b.numRings) && f k) n
  let twi (k : Nat) : Bool := b.bankPwr k == 1 || b.bankPwr k == 2
  if r = MEM.READY_LO then banks b.bankReady 0
  else if r = MEM.READY_HI then banks b.bankReady 1
  else if r = MEM.TWI_LO then banks twi 0
  else if r = MEM.TWI_HI then banks twi 1
  else if r = MEM.QUAR_LO then banks (fun k => b.bankOwner k == 4) 0
  else if r = MEM.QUAR_HI then banks (fun k => b.bankOwner k == 4) 1
  else if r = QRE.LIVE_LO then rings (fun k => b.ringState k == 1) 0
  else if r = QRE.LIVE_HI then rings (fun k => b.ringState k == 1) 1
  else if r = QRE.FROZEN_LO then rings (fun k => b.ringState k == 2) 0
  else if r = QRE.FROZEN_HI then rings (fun k => b.ringState k == 2) 1
  else b.rd r

def Block.liveMaps (b : Block) (r : Reg) (j : Nat) : Word :=
  let legs (f : Nat → Bool) (n : Nat) : Word := mapWord (fun k => decide (k < b.numLegs) && f k) n
  if r = CFU.SLOT_USED then b.slotMap (fun a => b.axState a != 0)
  else if r = CFU.SLOT_FAILED then b.slotMap (fun a => b.axState a == 4)
  else if r = CFU.CP_LOSS_MAP then mapWord (fun n => decide (n < 24) && b.on CFU.CP_FLAGS_LOSS 0 n) 0
  else if r = CFU.DRV_MAP then b.slotMap (fun a => b.drv a != 0 && b.drv a != 9)
  else if r = CFU.UCG_MAP then b.slotMap (fun a => b.on AX.AX_DRV_UCG a)
  else if r = CFU.HELD_MAP then b.slotMap (fun a => b.drv a == 9)
  else if r = EGA.OWN0 then legs (fun l => b.legOwner l != 0) 0
  else if r = EGA.OWN1 then legs (fun l => b.legOwner l != 0) 1
  else if r = EGA.OVR0 then legs (fun l => (b.pad l).2 != 0) 0
  else if r = EGA.OVR1 then legs (fun l => (b.pad l).2 != 0) 1
  else if r = EGA.CHOPPING0 then legs (fun l => b.on LEG.LEG_STAT_CHOPPING l) 0
  else if r = EGA.CHOPPING1 then legs (fun l => b.on LEG.LEG_STAT_CHOPPING l) 1
  else if r = SNS.AXS_LATEST_M then BitVec.ofNat 32 (b.latest j false)
  else if r = SNS.AXS_LATEST_A then BitVec.ofNat 32 (b.latest j true)
  else if r = FBI.ATTACH_MAP then mapWord (fun f => decide (f < 24) && b.on FB.FB_STAT_ATTACHED f) 0
  else if r = FBI.PCO_STAT then mapWord (fun n => decide (n < 8) && b.pcoLevel n) 0
  else b.rd r 0 j

def Block.liveFcr (b : Block) (r : Reg) (j : Nat) : Word :=
  if r = FCR.FCR_STAT then
    BitVec.ofNat 32 (b.fencedUnits.length + (if b.crm.haltReq then 2 ^ 8 else 0) + (if b.degraded then 2 ^ 9 else 0))
  else if r = FCR.HALT_CAUSE then FCR.HALT_CAUSE_ACTIVE.into (b.rd r) (if b.haltActive then 1 else 0)
  else b.rd r 0 j

def Block.liveUnit (b : Block) (r : Reg) (i j : Nat) : Word :=
  let w := b.rd r i j
  if r = LEG.LEG_STAT then
    let (pad, src) := b.pad i
    LEG.LEG_STAT_FLT_LOW.into (LEG.LEG_STAT_OVR_SRC.into (LEG.LEG_STAT_PAD.into w pad) src) (if (b.leg i).fltLow then 1 else 0)
  else if r = AX.AX_HANDLE then w ||| BitVec.ofNat 32 i
  else if r = LC.LC_HANDLE then w ||| BitVec.ofNat 32 i
  else if r = RG.RG_HANDLE then w ||| BitVec.ofNat 32 i
  else if r = RG.RG_FILL then BitVec.ofNat 32 (b.occ i % 2 ^ 13 + (if b.ringState i = 0 then 0 else b.credit i) % 2 ^ 13 * 2 ^ 16)
  else if r = RG.RG_STAT then RG.RG_STAT_FULL.into w (if b.ringState i ≠ 0 ∧ b.credit i = 0 then 1 else 0)
  else if r = FB.FB_ANGLE then FB.FB_ANGLE_HALL.into w (if b.fbMode i == 2 || b.fbMode i == 3 then (b.fb i).hall else 0)
  else if r = BK.BANK_STAT then
    let x := BK.BANK_STAT_STRIPE.into w (if i < 40 then i / 8 else 7)
    BK.BANK_STAT_SESSIONS.into (BK.BANK_STAT_RINGS.into x (b.bankRings i).length) (b.bankSessions i).length
  else w

/-- The word that a read of a register returns on a page that is not fenced. -/
def Block.live (b : Block) (r : Reg) (i j : Nat) : Word :=
  if r.off < 0x40 then b.liveHead r i
  else
    let p := r.page
    if p = 0 then b.liveDir r j
    else if p = 0xA ∨ p = 0xB then b.liveMem r
    else if p = 0xE ∨ p = 0xF ∨ p = 0x10 ∨ p = 0x11 then b.liveMaps r j
    else if p = 0x12 then b.liveFcr r j
    else if 0x14 ≤ p then b.liveUnit r i j
    else b.liveGlobal r i j

/-- The word that a read returns: the snapshot behind a fence, else the live word (R85). -/
def Block.readReg (b : Block) (x : Place) : Word :=
  if 0x40 ≤ x.reg.off ∧ b.fenced (x.reg.page + x.i) then Tab.get 0 b.snap (x.reg.addr x.i x.j) else b.live x.reg x.i x.j

/-- Every register of a page body, with its present word, by byte address. -/
def Block.pageImage (b : Block) (p : Nat) : List (Nat × Word) :=
  let (rs, i) := pageBody p
  (rs.map (fun r => (List.range r.cnt).map (fun j => (r.addr i j, b.live r i j)))).flatten

end Sys2Proof.Machine
end

