-- ==== Sys2Proof/Machine/Fcr.lean ====
section
/-!
DEFINITION. Fault collection: reactions, the first-error record, escalation, fences and their return, HALT, and the FCR page (R368
to R385, R453).
-/

namespace Sys2Proof.Machine

/-! ## HALT escalation (R372, R381) -/

/-- A source signals HALT escalation to CRM. -/
def Block.haltSignal (b : Block) (src unit : Nat) : Block :=
  let b := if b.fcr.haltBy.contains (src, unit) then b else { b with fcr := { b.fcr with haltBy := b.fcr.haltBy ++ [(src, unit)] } }
  let b := if b.on FCR.HALT_CAUSE_PENDING then b
    else ((b.put FCR.HALT_CAUSE_SOURCE src).put FCR.HALT_CAUSE_UNIT unit).put FCR.HALT_CAUSE_PENDING 1
  ({ b with crm := { b.crm with haltReq := true } }.evt 0x12 2).overridesChanged

/-! ## Fences (R377 to R379) -/

/-- The bit of a unit in its fence map. -/
def unitBit (p : Nat) : Option Fld :=
  if p = 9 then some ⟨FCR.FENCE_MAP_MISC, 0, 1⟩
  else if p = 5 then some ⟨FCR.FENCE_MAP_MISC, 1, 1⟩
  else if p = 6 then some ⟨FCR.FENCE_MAP_MISC, 2, 1⟩
  else if p = 7 then some ⟨FCR.FENCE_MAP_MISC, 3, 1⟩
  else if p = 8 then some ⟨FCR.FENCE_MAP_MISC, 4, 1⟩
  else if p = 0xB then some ⟨FCR.FENCE_MAP_MISC, 5, 1⟩
  else if p = 0xD then some ⟨FCR.FENCE_MAP_MISC, 6, 1⟩
  else if 0x1E0 ≤ p ∧ p < 0x1E8 then some ⟨FCR.FENCE_MAP_MISC, 8 + (p - 0x1E0), 1⟩
  else if 0xB0 ≤ p ∧ p < 0xD0 then some ⟨FCR.FENCE_MAP_SC, p - 0xB0, 1⟩
  else if 0x78 ≤ p ∧ p < 0x90 then some ⟨FCR.FENCE_MAP_FB, p - 0x78, 1⟩
  else none

def Block.unitFlag (b : Block) (p : Nat) (v : Bool) : Block :=
  match unitBit p with
  | some f => b.flag f v
  | none => b

/-- A bank is seized from the unit at page `p`, 0 for the host (R378). -/
def Block.seizeFrom (b : Block) (p n : Nat) : Block :=
  let b := (b.sesBankLost n).seize n
  { b with fcr := { b.fcr with seizedFrom := Tab.set 0 b.fcr.seizedFrom n p } }

/-- Every bank of an owner is seized. -/
def Block.seizeAll (b : Block) (p owner : Nat) : Block :=
  b.each ((List.range 44).filter (fun n => b.bankOwner n == owner)) (fun b n => b.seizeFrom p n)

/-- A queued command of mailbox 1 is discarded (R377). -/
def Block.dropQueued (b : Block) : Block :=
  if (b.mbx 1).stage = .queued then ((b.setMbx 1 {}).put CFU.MBX_RESULT_QUEUED 0 0 1).put CFU.MBX_RESULT_BUSY 0 0 1 else b

/-- What the fence means for each unit; its page already shows it (R377). -/
def Block.fenceEffect (b : Block) (p src : Nat) : Block :=
  if p = 9 then ({ b.spuReset.dropQueued with spuPush := [], spuPop := none }).freezeFenced src
  else if p = 5 then { (b.put XSP.STAT_BUSY 0).put XSP.STAT_SW_WAIT 0 with xsp := {} }
  else if p = 6 then ({ b with eth := { dead := b.eth.dead } }).freezeFenced src
  else if p = 7 ∨ p = 8 then (b.setCan (p - 7) { b.can (p - 7) with tx := none, recovering := false }).freezeFenced src
  else if p = 0xB then (b.freezeFenced src).seizeAll 0xB 2
  else if p = 0xD then (b.each (List.range 4) (fun b s => b.sesAbort s 3)).seizeAll 0xD 3
  else if 0x1E0 ≤ p then b.engineFenced (p - 0x1E0)
  else if 0xB0 ≤ p then
    let k := p - 0xB0
    (b.setConv k []).legsFault [2 * k, 2 * k + 1] 2
  else if 0x78 ≤ p then b.fbValid (p - 0x78)
  else b

/-- The outcome of a request to fence or return a unit. -/
def Block.fenceAnswer (b : Block) (code unit : Nat) : Block :=
  ((b.put FCR.FENCE_RES_CODE code).put FCR.FENCE_RES_UNIT unit).wrapInc FCR.FENCE_RES_SEQ

/-- A source fences the unit at page `p`: its pages are frozen as they stand, its ports cut, what it held taken back. A unit that
is already fenced stays so; a return that runs ends with RETURN_FAILED (R377, R380). -/
def Block.fenceUnit (b : Block) (p src unit : Nat) : Block :=
  if !b.unitPages.contains p then b
  else if b.fenced p then
    if b.fcr.unfence = some p then
      let b := { b with fcr := { b.fcr with unfence := none, fencedBy := b.fcr.fencedBy ++ [(p, src, unit)] } }
      ((b.put FCR.FENCE_RES_BUSY 0).fenceAnswer 9 p).evt 0x12 3
    else b
  else
    let image := b.pageImage p
    let b := { b with
      snap := image.foldl (fun (t : Tab Word) (x : Nat × Word) => Tab.set 0 t x.1 x.2) b.snap
      fcr := { b.fcr with fencedBy := b.fcr.fencedBy ++ [(p, src, unit)] } }
    let b := (b.put HDR.PAGE_STAT_FENCED 1 p).put HDR.PAGE_STAT_FENCE_SRC src p
    let b := ((b.unitFlag p true).evt 0x12 1).fenceEffect p src
    let most := b.get FCR.ESC_CFG_FENCE_MAX
    if most ≠ 0 ∧ b.fencedUnits.length = most then b.haltSignal src unit else b

/-- The core is released; an engine whose store failed its check is fenced before any context can be placed on it (R220). -/
def State.coreReleased (s : State) : State :=
  let t := s.coreRelease
  if s.b.crm.phase ≠ .locked then t
  else t.onBlock (fun b => b.each ((b.wires.filter (fun r => r.src == 0x1F)).map Raised.unit) (fun b p => b.fenceUnit p 0x1F p))

/-- The FENCE reaction of MEM_UNCORRECTABLE acts on the owner of the bank (R379). -/
def Block.fenceOwner (b : Block) (src unit : Nat) : Block :=
  if unit < 0x110 ∨ 0x13C ≤ unit then b
  else
    match b.bankOwner (unit - 0x110) with
    | 0 => b.fenceUnit 9 src unit
    | 1 => b.seizeFrom 0 (unit - 0x110)
    | 2 => b.fenceUnit 0xB src unit
    | 3 => b.fenceUnit 0xD src unit
    | _ => b

/-! ## AXIS_SAFE (R371, R372, R204) -/

/-- The cause of the set fault that a source is under R204, where its reaction is AXIS_SAFE. -/
def setFaultCause (src : Nat) : Option Nat :=
  if src = 0x12 ∨ src = 0x13 ∨ src = 0x16 then some 1
  else if src = 0x19 ∨ src = 0x1A then some 2
  else if src = 0x15 then some 3
  else none

/-- The axes a source names: by a leg, an axis, a feedback channel, a context, or a bus. -/
def Block.axesOf (b : Block) (src unit : Nat) : List Nat :=
  let p := unit % 0x1000
  if src = 0x17 ∨ src = 0x18 then b.liveAxes.filter (fun a => b.axBus a == unit / 0x1000)
  else if 0x20 ≤ p ∧ p < 0x60 then (b.axisOf (p - 0x20)).toList
  else if 0x60 ≤ p ∧ p < 0x78 then [p - 0x60]
  else if 0x78 ≤ p ∧ p < 0x90 then (if b.on FB.FB_STAT_ATTACHED (p - 0x78) then [b.get FB.FB_STAT_AXIS (p - 0x78)] else [])
  else if 0x140 ≤ p ∧ p < 0x1E0 ∧ b.ctxSt (p - 0x140) ≠ 0 then [b.get LC.LC_CFG_AXIS (p - 0x140)]
  else []

/-- An axis is placed under AXIS_SAFE. -/
def Block.axisSafe (b : Block) (a : Nat) : Block :=
  if b.axState a < 2 then b
  else
    let b := b.each (b.liveLegs a) (fun b leg => b.setLeg leg { b.leg leg with fcrPat := some (b.get LEG.LEG_CFG_SAFE_PAT leg) })
    b.setMap FCR.AX_SAFE_MAP_SLOT a true

def Block.reactSafe (b : Block) (src unit : Nat) : Block :=
  match setFaultCause src with
  | some c =>
    let p := unit % 0x1000
    if 0x20 ≤ p ∧ p < 0x60 then b.legsFault [p - 0x20] c
    else b.each (b.axesOf src unit) (fun b a => b.setFault a (b.axLegs a) c)
  | none => (b.each (b.axesOf src unit) Block.axisSafe).overridesChanged

/-! ## Reactions and the record (R371 to R376) -/

/-- The reaction of a source beyond the record. LEG_DRIVER_FAULT is a set fault whatever its reaction is (R204). -/
def Block.react (b : Block) (r : Raised) (code : Nat) : Block :=
  let p := r.unit % 0x1000
  let b := if r.src = 0x13 ∧ code ≠ 1 then b.reactSafe r.src r.unit else b
  match code with
  | 1 => b.reactSafe r.src r.unit
  | 2 => if r.src = 0x31 then b.fenceOwner r.src p else b.fenceUnit p r.src r.unit
  | 3 => b.put ⟨if r.src < 32 then FCR.DEGRADE_LO else if r.src < 64 then FCR.DEGRADE_HI else FCR.DEGRADE_X, r.src % 32, 1⟩ 1
  | 4 => b.haltSignal r.src r.unit
  | 5 => if 0xD0 ≤ p ∧ p < 0x110 then b.freeze (p - 0xD0) r.src else b
  | 6 => if r.src = 0x36 then b.fenceUnit p r.src r.unit else b
  | _ => b

/-- Occurrence counted for escalation; whether it receives `ESC_REACT` (R375). -/
def Block.escalate (b : Block) (src : Nat) : Bool × Block :=
  let n := b.get FCR.SRC_CFG_ESC_N 0 src
  let (k, done) := Tab.get (0, false) b.fcr.esc src
  let e := if n = 0 then (k, done) else (k + 1, done || decide (n ≤ k + 1))
  (e.2, { b with fcr := { b.fcr with esc := Tab.set (0, false) b.fcr.esc src e } })

/-- The first-error record (R373, R374). -/
def Block.firstRecord (b : Block) (r : Raised) (code : Nat) : Block :=
  let w (multi : Nat) : Word := BitVec.ofNat 32 (r.src % 2 ^ 8 + code % 8 * 2 ^ 8 + multi * 2 ^ 11 + r.master % 8 * 2 ^ 12 +
    r.access % 4 * 2 ^ 16 + r.unit % 2 ^ 9 * 2 ^ 20 + 2 ^ 31)
  if !b.on FCR.FIRST_SRC_VALID then
    (((b.wr FCR.FIRST_SRC (w 0)).wr FCR.FIRST_ADDR (BitVec.ofNat 32 (r.addr % 2 ^ 24))).stamp FCR.FIRST_TS_LO FCR.FIRST_TS_HI).evt 0x12 0
  else if b.rd FCR.FIRST_TS_LO = BitVec.ofNat 32 b.now ∧ b.rd FCR.FIRST_TS_HI = BitVec.ofNat 32 (b.now / 2 ^ 32) then
    if r.src < b.get FCR.FIRST_SRC_SOURCE then (b.wr FCR.FIRST_SRC (w 1)).wr FCR.FIRST_ADDR (BitVec.ofNat 32 (r.addr % 2 ^ 24))
    else if r.src = b.get FCR.FIRST_SRC_SOURCE then b
    else b.put FCR.FIRST_SRC_MULTI 1
  else b

/-- A handle names a live EVENT ring with FCR as its producer (R374). -/
def Block.eventRing (b : Block) (h : Nat) : Bool :=
  let n := h % 64
  b.ringCheck h == 0 && b.ringState n == 1 && b.ringType n == 2 && b.get RG.RG_ENDS_PROD n == 6

/-- The entry of an occurrence (R343, R374). -/
def Block.eventEntry (b : Block) (r : Raised) (code : Nat) : List Word :=
  [BitVec.ofNat 32 (r.src % 2 ^ 8 + r.unit % 2 ^ 9 * 2 ^ 8), BitVec.ofNat 32 b.now, BitVec.ofNat 32 (b.now / 2 ^ 32),
   BitVec.ofNat 32 (r.addr % 2 ^ 24 + r.master % 8 * 2 ^ 24 + r.access % 4 * 2 ^ 27 + code % 8 * 2 ^ 29)]

def Block.eventPush (b : Block) (r : Raised) (code : Nat) : Block :=
  let h := b.get FCR.FCR_CTL_EVT_RING
  if b.on FCR.FCR_CTL_EVT_EN && b.eventRing h then b.hwPush (h % 64) (b.eventEntry r code) else b

/-- One occurrence of a source: counted, recorded, its reaction requested. -/
def Block.occurrence (b : Block) (r : Raised) : Block :=
  let b := (b.bump FCR.SRC_CNT_COUNT FCR.SRC_CNT_OVF 0 r.src).bump FCR.ERR_TOTAL_COUNT FCR.ERR_TOTAL_OVF
  let (esc, b) := b.escalate r.src
  let code := if esc then b.get FCR.SRC_CFG_ESC_REACT 0 r.src else b.get FCR.SRC_CFG_REACT 0 r.src
  let b := if esc then b.evt 0x12 5 else b
  let b := if r.src = 0x34 then b.evt 0x12 4 else b
  let b := ((b.firstRecord r code).eventPush r code).sesFcr r.src
  let b := if r.src = 0x38 then b.shlFcrIntegrity else b
  (b.react r code).modeEvents

/-- FCR receives a source: the one at the head of a wire, or one of a unit that is not fenced (R372, R373, R377). -/
def fcrSourceRaised (r : Raised) (b : Block) : Block :=
  let known := b.wires.contains r
  let b := { b with wires := b.wires.erase r }
  if !b.running || b.mode == 5 || (srcRow r.src).isNone || (!known && b.deaf r) then b else b.occurrence r

/-! ## Sources of the SPU and of software (R369) -/

def spuLockstep (b : Block) : Block := b.raise 0x33 9

/-- The watchdog's period has passed; while the SPU is halted it does not run (R430). -/
def spuWatchdog (b : Block) : Block :=
  if b.on FCR.SPU_WDOG_EN && !b.on SEC.SEC_STAT_HALTED then b.raise 0x34 9 else b

def escWindowExpire (src : Nat) (b : Block) : Block :=
  let e := Tab.get (0, false) b.fcr.esc src
  { b with fcr := { b.fcr with esc := Tab.set (0, false) b.fcr.esc src (0, e.2) } }

/-! ## Return of a unit (R380) -/

/-- Registers of a returned page: configuration as it stood at the fence, status and counters at reset. -/
def Block.restorePage (b : Block) (p : Nat) : Block :=
  let (rs, i) := pageBody p
  rs.foldl (fun b r =>
    b.each (List.range r.cnt) (fun b j =>
      let cfg := BitVec.ofNat 32 (r.rw ||| r.rwl)
      b.wr r ((Tab.get 0 b.snap (r.addr i j) &&& cfg) ||| (r.resetW i j &&& ~~~cfg)) i j)) b

/-- What each unit does after its return. A filter whose ring was destroyed behind the fence comes back disabled (R122; DEDUCED, log entry 152). -/
def Block.returnEffect (b : Block) (p : Nat) : Block :=
  if p = 5 then { b with xsp := {} }
  else if p = 6 then
    let b := b.each ((List.range 8).filter (bit b.eth.dead)) (fun b j => b.put ETH.ETH_FLT_EN 0 0 j)
    { b with eth := { dead := b.eth.dead } }
  else if p = 7 ∨ p = 8 then
    let c := p - 7
    (b.each ((List.range 16).filter (bit (b.can c).dead)) (fun b j => b.put CAN.CAN_FLT_ID_EN 0 c j)).setCan c { dead := (b.can c).dead }
  else if p = 0xD then b.each (List.range 4) (fun b s => b.setSes s {})
  else if 0x1E0 ≤ p then b.engineBack (p - 0x1E0)
  else if 0x78 ≤ p ∧ p < 0x90 then
    let f := p - 0x78
    (((b.setFb f (b.fb f).afterReset).put FB.FB_STAT_SUSPECT 1 f).fbPx f).fbValid f
  else b

/-- A unit leaves its fence. Of the status behind it, a channel stays attached as it is, and an aborted session stays ABORTED with its cause. -/
def Block.unitBack (b : Block) (p : Nat) : Block :=
  let att := (b.on FB.FB_STAT_ATTACHED (p - 0x78), b.get FB.FB_STAT_AXIS (p - 0x78))
  let was := b
  let b := b.restorePage p
  let b := if p ≠ 0xD then b else b.each ((List.range 4).filter (fun s => was.sesState s == 4)) (fun b s =>
    (b.put TCU.SES_STAT_STATE 4 0 s).put TCU.SES_STAT_CAUSE (was.get TCU.SES_STAT_CAUSE 0 s) 0 s)
  let b := if 0x78 ≤ p ∧ p < 0x90 then (b.flag FB.FB_STAT_ATTACHED att.1 (p - 0x78)).put FB.FB_STAT_AXIS att.2 (p - 0x78) else b
  let b := { b with
    snap := b.snap.filter (fun c => c.1 / 4096 != p)
    fcr := { b.fcr with fencedBy := b.fcr.fencedBy.filter (fun x => x.1 != p) } }
  let b := (b.put HDR.PAGE_STAT_FENCED 0 p).put HDR.PAGE_STAT_FENCE_SRC 0 p
  ((b.unitFlag p false).returnEffect p).modeEvents

/-- The return check of a unit passes: a converter by its two self-test results, XSP, a MAC, a CAN controller and the TCU by a reset of their
internal state, which cannot fail, every other unit by what was found sound. -/
def returnPasses (p : Nat) (res : ReturnCheck) : Bool :=
  if 0xB0 ≤ p ∧ p < 0xD0 then selftestOk res.devZero res.devHalf
  else if (5 ≤ p ∧ p ≤ 8) ∨ p = 0xD then true
  else res.sound

/-- The return check of a unit ends. -/
def unfenceCheckDone (res : ReturnCheck) (b : Block) : Block :=
  match b.fcr.unfence with
  | none => b
  | some p =>
    if !b.running then b
    else
      let pass := returnPasses p res
      let b := { b with fcr := { b.fcr with unfence := none } }
      let b := ((b.put FCR.FENCE_RES_BUSY 0).fenceAnswer (if pass then 0 else 9) p).evt 0x12 3
      if pass then b.unitBack p else b

/-- The code of a write of `FENCE_REQ`. -/
def Block.fenceReqCode (b : Block) (w : Word) : Nat :=
  if FCR.FENCE_REQ_KEY.of w ≠ 0x3C then 5
  else if b.on FCR.FENCE_RES_BUSY then 15
  else if !b.unitPages.contains (FCR.FENCE_REQ_UNIT.of w) then 4
  else if b.mode = 0 then 6
  else 0

/-- A write of `FENCE_REQ`; its outcome stands in `FENCE_RES` (R384). -/
def Block.fenceReq (b : Block) (m : Master) (w : Word) : Block × Ack :=
  let u := FCR.FENCE_REQ_UNIT.of w
  if FCR.FENCE_REQ_GO.of w = 0 then (b, .ok)
  else
    let code := b.fenceReqCode w
    let b := b.fenceAnswer code u
    (if code = 0 then { b with wires := b.wires ++ [⟨0x36, u, FCR.FENCE_REQ.addr 0 0, Master.code m, 2⟩] } else b, .ok)

/-- The code of a write of `UNFENCE`. Where several refusals apply, the order of the codes is the model's (DESIGN CHOICE, log entry 117). -/
def Block.unfenceCode (b : Block) (w : Word) : Nat :=
  let u := FCR.UNFENCE_UNIT.of w
  if FCR.UNFENCE_KEY.of w ≠ 0x3C then 5
  else if b.on FCR.FENCE_RES_BUSY then 15
  else if !b.unitPages.contains u then 4
  else if b.mode ≠ 1 ∧ b.mode ≠ 3 ∧ b.mode ≠ 4 then 6
  else if u = 9 ∨ !b.fenced u then 7
  else if b.fcr.fencedBy.any (fun x => x.1 == u && b.srcActive x.2.1 x.2.2) then 8
  else 0

def Block.unfenceReq (b : Block) (w : Word) : Block × Ack :=
  let u := FCR.UNFENCE_UNIT.of w
  if FCR.UNFENCE_GO.of w = 0 then (b, .ok)
  else
    match b.unfenceCode w with
    | 0 => ({ (b.put FCR.FENCE_RES_BUSY 1) with fcr := { b.fcr with unfence := some u } }, .ok)
    | code => (b.fenceAnswer code u, .ok)

/-! ## Register writes of the FCR page (R375, R381, R382, R384, R385) -/

/-- A write of `HALT_CLR` (R381). Where it is accepted while BUSY stands it clears PENDING and withdraws no HALT escalation that waits for BUSY
(R453, DESIGN CHOICE, log entry 110). -/
def Block.haltClr (b : Block) (w : Word) : Block × Ack :=
  if FCR.HALT_CLR_CLR.of w = 0 then (b, .ok)
  else if FCR.HALT_CLR_KEY.of w ≠ 0x3C then (b, .refused 5)
  else if !b.on FCR.HALT_CAUSE_PENDING then (b, .refused 10)
  else if b.haltActive then (b, .refused 8)
  else (b.put FCR.HALT_CAUSE_PENDING 0, .ok)

def Block.axRel (b : Block) (w : Word) : Block × Ack :=
  let h := FCR.AXREL_HANDLE.of w
  if FCR.AXREL_GO.of w = 0 then (b, .ok)
  else
    match b.handleCheck h with
    | some c => (b, .refused (if c = 18 then 12 else 13))
    | none =>
      let a := h % 32
      if !b.mapBit FCR.AX_SAFE_MAP_SLOT a then (b, .refused 11)
      else
        let b := b.each (b.axLegs a) (fun b leg => b.setLeg leg { b.leg leg with fcrPat := none })
        ((b.setMap FCR.AX_SAFE_MAP_SLOT a false).overridesChanged, .ok)

def Block.swRaiseWrite (b : Block) (m : Master) (w : Word) : Block × Ack :=
  if FCR.SW_RAISE_GO.of w = 0 then (b, .ok)
  else (b.raiseWith ⟨0x37, 0x12, FCR.SW_RAISE_DETAIL.of w, Master.code m, 2⟩, .ok)

def Block.wdogWrite (b : Block) (m : Master) (w : Word) : Block × Ack :=
  if FCR.SPU_WDOG_KICK.of w = 1 ∧ m ≠ .spu then (b, .refused 14) else (b.store FCR.SPU_WDOG w, .ok)

/-- The rank of a reaction for escalation. -/
def reactRank (code : Nat) : Nat :=
  match code with
  | 0 => 0
  | 3 => 1
  | 4 => 3
  | _ => 2

/-- The check of `SRC_CFG` as it would stand; `ESC_REACT` is checked where it or `ESC_N` is set (R371, R375). -/
def srcCfgCheck (w : Word) : Nat :=
  let allowed := FCR.SRC_CFG_ALLOWED.of w
  let react := FCR.SRC_CFG_REACT.of w
  let esc := FCR.SRC_CFG_ESC_REACT.of w
  let used := FCR.SRC_CFG_ESC_N.of w != 0 || esc != 0
  if !bit allowed react || (used && !bit allowed esc) then 1
  else if used && decide (reactRank esc ≤ reactRank react) then 2
  else 0

def Block.srcCfgWrite (b : Block) (n : Nat) (w : Word) : Block × Ack :=
  let new := FCR.SRC_CFG.merge (b.locked 0x12) (b.rd FCR.SRC_CFG 0 n) w
  match srcCfgCheck new with
  | 0 => (b.wr FCR.SRC_CFG new 0 n, .ok)
  | c => (b, .refused c)

def Block.fcrCtlWrite (b : Block) (w : Word) : Block × Ack :=
  if FCR.FCR_CTL_EVT_EN.of w = 1 ∧ !b.eventRing (FCR.FCR_CTL_EVT_RING.of w) then (b, .refused 3) else (b.store FCR.FCR_CTL w, .ok)

def Block.srcClr (b : Block) (n : Nat) (w : Word) : Block :=
  if FCR.SRC_CNT_CLR.of w = 1 then
    { (b.wr FCR.SRC_CNT 0 0 n) with fcr := { b.fcr with esc := Tab.set (0, false) b.fcr.esc n (0, false) } }
  else b

def Block.fcrWrite (b : Block) (m : Master) (r : Reg) (j : Nat) (w : Word) : Block × Ack :=
  if r = FCR.FCR_CTL then b.fcrCtlWrite w
  else if r = FCR.FIRST_CLR then (if FCR.FIRST_CLR_CLR.of w = 1 then b.put FCR.FIRST_SRC_VALID 0 else b, .ok)
  else if r = FCR.ERR_TOTAL then (if FCR.ERR_TOTAL_CLR.of w = 1 then b.wr r 0 else b, .ok)
  else if r = FCR.HALT_CLR then b.haltClr w
  else if r = FCR.FENCE_REQ then b.fenceReq m w
  else if r = FCR.UNFENCE then b.unfenceReq w
  else if r = FCR.DEGRADE_LO ∨ r = FCR.DEGRADE_HI ∨ r = FCR.DEGRADE_X then ((b.store r w).modeEvents, .ok)
  else if r = FCR.AXREL then b.axRel w
  else if r = FCR.SW_RAISE then b.swRaiseWrite m w
  else if r = FCR.SURV_CNT then
    (if FCR.SURV_CNT_CLR.of w = 1 then (((b.wr r 0).wr FCR.SURV_SRC 0).wr FCR.SURV_TS_LO 0).wr FCR.SURV_TS_HI 0 else b, .ok)
  else if r = FCR.SPU_WDOG then b.wdogWrite m w
  else if r = FCR.SRC_CFG then b.srcCfgWrite j w
  else if r = FCR.SRC_CNT then (b.srcClr j w, .ok)
  else (b.store r w 0 j, .ok)

end Sys2Proof.Machine
end

