-- ==== Sys2Proof/Machine/Sec.lean ====
section
/-!
DEFINITION. Security: supervisor images and their verification, firmware swap, debug levels, the test access port's instruction
(R417 to R436).
-/

namespace Sys2Proof.Machine

/-! ## Images (R421, R422) -/

/-- Aligned words from `a` on as SEC reads them: corrected, rebuilt or lost as in every read of a bank; a bank that is not READY reads zero (R330,
R332, R341). -/
def State.secWords (s : State) (a : Nat) : Nat → List Word × State
  | 0 => ([], s)
  | n + 1 =>
    let (w, t) := match bankOf a with
      | some k => if s.b.bankReady k then (let (w, _, t) := s.readBank k a .hw 1; (w, t)) else (0, s)
      | none => (memWord s.mem a, s)
    let (ws, u) := t.secWords (a + 4) n
    (w :: ws, u)

/-- Bytes in rising order from any address, as SEC reads them. -/
def State.secBytes (s : State) (a n : Nat) : List Byte × State :=
  let (ws, t) := s.secWords (a / 4 * 4) ((a % 4 + n + 3) / 4)
  ((((ws.map (fun w => (List.range 4).map (byteOf w))).flatten).drop (a % 4)).take n, t)

/-- A word with its bytes in reverse: the images' words lie most significant byte first (R421). -/
def swapBytes (w : Word) : Word := wordOf (byteOf w 3) (byteOf w 2) (byteOf w 1) (byteOf w 0)

/-- The fields of an image header. -/
def hdr (h : List Word) (k : Nat) : Word := h.getD k 0
def hdrKey (h : List Word) : Nat := slice (hdr h 1) 8 2
def hdrSvn (h : List Word) : Nat := slice (hdr h 2) 0 8
def hdrLen (h : List Word) : Nat := (hdr h 3).toNat
def hdrLoad (h : List Word) : Nat := (hdr h 4).toNat
def hdrEntry (h : List Word) : Nat := (hdr h 5).toNat

/-- Check 1: magic, format and the zero words. -/
def magicOk (h : List Word) : Bool :=
  hdr h 0 == 0x544D4657#32 && slice (hdr h 1) 0 8 == 1 && (List.range 26).all (fun i => hdr h (38 + i) == 0)

/-- Check 2 but for a swap's part: LENGTH, LOAD and ENTRY. -/
def placeOk (h : List Word) : Bool :=
  let n := hdrLen h
  let a := hdrLoad h
  n % 4 == 0 && decide (4 ≤ n) && decide (n ≤ 0x80000) && a % 4 == 0 && decide (0x200000 ≤ a) && decide (a + n ≤ 0x480000) &&
    hdrEntry h % 2 == 0 && decide (hdrEntry h < n)

/-- Every bank that bytes `lo` up to `hi` lie in is owned by the SPU. -/
def Block.spuOwns (b : Block) (lo hi : Nat) : Bool :=
  (List.range 44).all (fun n => let (a, z) := bankRange n; !(decide (a < hi) && decide (lo < z)) || b.bankOwner n == 0)

/-- Images are authenticated (R417). -/
def Block.mustAuth (b : Block) : Bool := b.lc0 == 2 || b.finalised 3

/-- The code of a verification over a header and the payload's bytes, the checks in the order of R422; `place` is the part of check 2
that concerns a swap. -/
def Block.imageCode (b : Block) (h : List Word) (payload : List Byte) (place : Bool) : Nat :=
  let k := hdrKey h
  let x := bigOf ((h.drop 6).take 8)
  let y := bigOf ((h.drop 14).take 8)
  let r := bigOf ((h.drop 22).take 8)
  let s := bigOf ((h.drop 30).take 8)
  if !magicOk h then 1
  else if !placeOk h || !place then 2
  else if !b.mustAuth then 0
  else if 2 ≤ k || !b.keyHere k then 3
  else if bigOf (sha256 ((((h.drop 6).take 16).map bytesBE).flatten)) ≠ b.keyHash k then 4
  else if b.keyRevoked k then 5
  else if !ecdsaOk x y r s ((((List.range 22).map (fun i => bytesBE (hdr h i))).flatten) ++ payload) then 6
  else if hdrSvn h < b.svnMin then 7
  else 0

/-- The header of an image, as read from flash or from where it lies in memory, and the state after the read. -/
def State.headerOf (s : State) (a : AuthSt) : List Word × State :=
  if a.source = 0 then (a.header, s) else (let (l, t) := s.secBytes a.addr 256; (wordsBE l, t))

/-- The verification that runs: its code, the header, and the state after what it read. An incomplete read gives FLASH_ERROR, there being no
image to check. -/
def State.authCheck (s : State) (a : AuthSt) : Nat × List Word × State :=
  let (h, t) := s.headerOf a
  let from' := if a.source = 0 then hdrLoad h else a.addr + 0x100
  let place := a.source != 2 || (hdrLoad h == a.addr + 0x100 && s.b.spuOwns a.addr (a.addr + 0x100 + hdrLen h))
  if !a.readOk then (8, h, t)
  else
    let (payload, t) := if magicOk h && placeOk h && place then t.secBytes from' (hdrLen h) else ([], t)
    (s.b.imageCode h payload place, h, t)

/-! ## Boot (R423) -/

/-- The payload copied to LOAD, one word at a time, as the SPU writes it; a word that its bank does not take is refused on the bank's page (R334,
R341). -/
def State.copyPayload (s : State) (a : Nat) : List Word → State
  | [] => s
  | w :: ws =>
    let t := match bankOf a with
      | some n =>
        match s.b.bankWriteCheck n .spu with
        | none => s.storeWord .spu a (swapBytes w) 0xFFFFFFFF#32
        | some c => { s with b := s.b.refuse (bankPage n) (a % 4096) .spu c }
      | none => s
    t.copyPayload (a + 4) ws

/-- What XSDO carries at the head of a boot read from flash address `a`: command 0x03 and 24 bits of address; the reads start at address 0 (R115). -/
def bootReadBits (a : Nat) : List Bool := bitsMsb 8 0x03 ++ bitsMsb 24 a

/-- Header and payload read from boot flash. -/
def State.firmwareLoad (s : State) (header payload : List Word) (readOk : Bool) : State :=
  if !s.b.bootReads then s
  else
    let s := if magicOk header && placeOk header then s.copyPayload (hdrLoad header) (payload.take (hdrLen header / 4)) else s
    { s with b := { (s.b.bootPut 0 4 5) with sec := { s.b.sec with auth := some ⟨0, header, 0, readOk⟩, rereads := false } } }

/-- The 1000 ms of FW_WAIT have passed. -/
def flashRetry (b : Block) : Block := if b.bootRom && b.fwWait then { b with sec := { b.sec with rereads := true } } else b

/-- A write of `BOOT_LOAD`; it acts while the boot ROM waits and no verification runs. -/
def Block.bootLoad (b : Block) (m : Master) (w : Word) : Block × Ack :=
  if m ≠ .debug ∨ b.get SEC.SEC_STAT_LEVEL ≠ 2 ∨ b.mode ≠ 0 then (b, .refused 2)
  else if SEC.BOOT_LOAD_GO.of w = 1 ∧ b.bootRom ∧ b.fwWait then
    ({ (b.bootPut 0 4 5) with sec := { b.sec with auth := some ⟨1, [], SEC.BOOT_LOAD_ADDR.of w, true⟩ } }, .ok)
  else (b, .ok)

/-- An image runs, which its check authenticated or not: what SEC shows of it (R417). -/
def Block.imageRuns (b : Block) (source key svn entry : Nat) (auth : Bool) : Block :=
  let b := ((b.put SEC.AUTH_STAT_KEY key).put SEC.AUTH_STAT_SVN svn).put SEC.AUTH_STAT_SOURCE source
  { (b.flag SEC.SEC_STAT_UNAUTH (!auth)) with sec := { b.sec with entry := some entry } }

/-- The verification of a boot image completes: the image starts and COMMISSION is entered, or the boot ROM waits (R38, R75). FW_WAIT stands until
an image has passed, a verification after a wait included (R76; DESIGN CHOICE, log entry 146). -/
def State.authDone (s : State) : State :=
  match s.b.sec.auth with
  | none => s
  | some a =>
    if !s.b.running || s.b.mode != 0 then s
    else
      let (code, h, s) := s.authCheck a
      let b := ({ s.b with sec := { s.b.sec with auth := none } }.put SEC.AUTH_STAT_CODE code)
      if code ≠ 0 then { s with b := (b.put SEC.AUTH_STAT_SOURCE a.source).bootPut 25 1 1 }
      else
        let b := (b.imageRuns a.source (hdrKey h) (hdrSvn h) (hdrLoad h + hdrEntry h) b.mustAuth).bootPut 25 1 0
        { s with b := (b.bootPut 0 4 6).setMode 1 }

/-! ## Firmware swap (R432, R433) -/


/-- A write of `SWAP_CMD`. Where a word carries both pulses CHECK is taken and GO is not (DESIGN CHOICE, log entry 117). -/
def Block.swapCmd (b : Block) (m : Master) (w : Word) : Block × Ack :=
  let st := b.get SEC.SWAP_STAT_STATE
  if m ≠ .spu then (b, .refused 2)
  else if SEC.SWAP_CMD_KEY.of w ≠ 0x5C then (b, .refused 1)
  else if SEC.SWAP_CMD_CHECK.of w = 1 then
    if st = 1 ∨ st = 3 then (b, .refused 3)
    else
      ({ (b.put SEC.SWAP_STAT_STATE 1) with
        sec := { b.sec with swap := some ⟨2, [], b.get SEC.SWAP_SRC_ADDR, true⟩, image := none } }, .ok)
  else if SEC.SWAP_CMD_GO.of w = 1 then
    if st ≠ 2 ∨ b.mode = 0 ∨ b.mode = 5 then (b, .refused 3)
    else if !b.windowAllowed then (b.put SEC.SWAP_STAT_CODE 10, .ok)
    else
      let b := b.openWindow.put SEC.SWAP_STAT_STATE 3
      let b : Block := if b.spuPush.isEmpty then b else { (b.put QRE.SPU_RSTAT_WORD 0) with spuPush := [] }
      match b.sec.image with
      | some x => (b.spuReset.imageRuns 2 x.key (b.get SEC.SWAP_STAT_SVN) x.entry x.auth, .ok)
      | none => (b, .ok)
  else (b, .ok)

/-- The verification of a swap image completes. -/
def State.swapCheckDone (s : State) : State :=
  match s.b.sec.swap with
  | none => s
  | some a =>
    if !s.b.running || s.b.mode == 5 || s.b.get SEC.SWAP_STAT_STATE != 1 then s
    else
      let (code, h, s) := s.authCheck a
      let b := ({ s.b with sec := { s.b.sec with swap := none } }.put SEC.SWAP_STAT_CODE code).evt 3 1
      if code ≠ 0 then { s with b := b.put SEC.SWAP_STAT_STATE 0 }
      else
        let b := (b.put SEC.SWAP_STAT_STATE 2).put SEC.SWAP_STAT_SVN (hdrSvn h)
        { s with b := { b with sec := { b.sec with image := some ⟨a.addr, 0x100 + hdrLen h, hdrLoad h + hdrEntry h, hdrKey h, b.mustAuth⟩ } } }

/-! ## Debug levels (R426 to R430) -/

/-- The session's level changes; below FULL a halted SPU resumes. -/
def Block.setLevel (b : Block) (l : Nat) : Block :=
  let b' := if b.get SEC.SEC_STAT_LEVEL = l then b else (b.put SEC.SEC_STAT_LEVEL l).evt 3 0
  if l = 2 then b' else b'.put SEC.SEC_STAT_HALTED 0

/-- The highest level of R428 in the present mode. -/
def Block.maxLevel (b : Block) : Nat :=
  if !b.running ∨ b.mode = 5 ∨ b.lc0 = 3 then 0 else if (b.mode == 2 || b.mode == 3) && b.energised then 1 else 2

def Block.dbgCode (b : Block) (c : Nat) : Nat × Block := (c, b.put SEC.DBG_STAT_CODE c)

/-- DEBUG_ENTER with a level: its code and the state (R426, R434). -/
def Block.debugEnter (b : Block) (level : Nat) : Nat × Block :=
  let b := b.put SEC.DBG_STAT_REQ level
  if b.on SEC.SEC_STAT_LOCKOUT then b.dbgCode 7
  else if b.sec.response.isSome then b.dbgCode 8
  else
    let b := { b with sec := { b.sec with chal := false } }
    if level = 0 then { (b.setLevel 0) with sec := { b.sec with byChal := false } }.dbgCode 0
    else if b.maxLevel < level then b.dbgCode 2
    else if b.lc0 = 2 then
      let b := (List.range 8).foldl (fun (b : Block) i => let (w, b) := b.draw; b.wr SEC.DBG_CHAL w 0 i) b
      ({ (b.wrapInc SEC.DBG_STAT_SEQ) with sec := { b.sec with chal := true, chalLevel := level } }).dbgCode 1
    else { (b.setLevel level) with sec := { b.sec with byChal := false } }.dbgCode 0

/-- DEBUG_CHALLENGE with a sequence number and the 32 words; words that are missing read zero. -/
def Block.debugRespond (b : Block) (seq : Nat) (data : List Word) : Nat × Block :=
  if b.on SEC.SEC_STAT_LOCKOUT then b.dbgCode 7
  else if b.sec.response.isSome then b.dbgCode 8
  else if !b.sec.chal || b.get SEC.DBG_STAT_SEQ != seq then b.dbgCode 3
  else (0, { b with sec := { b.sec with response := some ((List.range 32).map (fun i => data.getD i 0)) } })

/-- The message a debug response signs (R427). -/
def Block.chalMessage (b : Block) : List Byte :=
  (((List.range 8).map (fun i => bytesBE (b.rd SEC.DBG_CHAL 0 i))).flatten) ++
    (((List.range 4).map (fun i => bytesBE (b.rd DIR.UID 0 i))).flatten) ++ [BitVec.ofNat 8 b.sec.chalLevel, BitVec.ofNat 8 b.lc0]

/-- The code of a response under verification. -/
def Block.responseCode (b : Block) (d : List Word) : Nat :=
  let part (k n : Nat) : List Word := (d.drop k).take n
  if !b.keyHere 2 || bigOf (sha256 (((part 0 16).map bytesBE).flatten)) != b.keyHash 2 then 4
  else if b.keyRevoked 2 then 5
  else if !ecdsaOk (bigOf (part 0 8)) (bigOf (part 8 8)) (bigOf (part 16 8)) (bigOf (part 24 8)) b.chalMessage then 6
  else if b.maxLevel < b.sec.chalLevel then 2
  else 0

/-- The verification of a response completes. -/
def debugVerifyDone (b : Block) : Block :=
  match b.sec.response with
  | none => b
  | some d =>
    if !b.running || b.mode == 5 then b
    else
      let code := b.responseCode d
      let b := { (b.put SEC.DBG_STAT_CODE code) with sec := { b.sec with response := none } }
      if code = 0 then
        { ((b.put SEC.DBG_STAT_FAILS 0).setLevel b.sec.chalLevel) with sec := { b.sec with byChal := true, chal := false } }
      else if code = 2 then b
      else
        let n := b.get SEC.DBG_STAT_FAILS + 1
        let b := b.put SEC.DBG_STAT_FAILS n
        if n = 3 then (b.put SEC.SEC_STAT_LOCKOUT 1).evt 3 3 else b

def challengeExpire (b : Block) : Block := { b with sec := { b.sec with chal := false } }

/-- A FULL debug master halts the SPU, which a fence holds in reset. -/
def debugHalt (b : Block) : Block :=
  if b.running && b.get SEC.SEC_STAT_LEVEL == 2 && !b.fenced 9 then b.put SEC.SEC_STAT_HALTED 1 else b

def debugResume (b : Block) : Block :=
  if b.running && b.get SEC.SEC_STAT_LEVEL == 2 then b.put SEC.SEC_STAT_HALTED 0 else b

/-- The debug core reset (R45). -/
def ndmreset (b : Block) : Block := if b.running && b.get SEC.SEC_STAT_LEVEL == 2 then b.resetCore (some 3) true else b

/-! ## The test access port (R431) -/

/-- An instruction is selected. -/
def Block.jtag (b : Block) (ir : Nat) : Block := { b with sec := { b.sec with ir := ir } }

/-- An instruction is selected whose data register is scanned out. -/
def Block.jtagScan (b : Block) (ir : Nat) (w : Word) : Block := { b with sec := { b.sec with ir := ir, scan := w } }

/-- The word of IDCODE. -/
def Block.idcode (b : Block) : Word :=
  BitVec.ofNat 32 (b.get DIR.DEVICE_ID_STEPPING % 16 * 2 ^ 28 + 0x6464 * 2 ^ 12 + Config.jtagMaker.toNat * 2 + 1)

/-- The word of DTMCS: version 0.13, seven address bits (PRESUMED, log entry 30). -/
def dtmcsWord : Word := 0x71#32

/-- EXTEST, CLAMP or HIGHZ: BYPASS past OPEN. -/
def Block.jtagPins (b : Block) (ir : Nat) : Block := b.jtag (if b.lcHeld ≤ 1 then ir else 0x1F)

/-! ## Register writes of the SEC page (R435) -/

def Block.secWrite (b : Block) (m : Master) (r : Reg) (w : Word) : Block × Ack :=
  if r = SEC.LC_ARM then b.lcArm w
  else if r = SEC.BOOT_LOAD then b.bootLoad m w
  else if r = SEC.SWAP_SRC then (if m ≠ .spu then (b, .refused 2) else (b.store r w, .ok))
  else if r = SEC.SWAP_CMD then b.swapCmd m w
  else (b.store r w, .ok)

end Sys2Proof.Machine
end

