-- ==== Sys2Proof/Machine/Bus.lean ====
section
/-!
DEFINITION. The register fabric: reads and writes of registers and memory windows by the SPU, HSP and the debug master, with the
page header, refusals, fenced pages and the latches of 64-bit counters (R80 to R91, R97, R334, R338, R341).
-/

namespace Sys2Proof.Machine

/-! ## 64-bit counters (R89) -/

/-- The counters: low word, high word, and the flag word where it is separate. -/
def counters64 : List (Reg × Reg × Option Reg) :=
  [(CRM.TS_LO, CRM.TS_HI, some CRM.TS_STAT), (XSP.XD_TS_LO, XSP.XD_TS_HI, none), (TCU.SES_TS_LO, TCU.SES_TS_HI, none),
   (EGA.TB_MTS_LO, EGA.TB_MTS_HI, none), (SNS.AXS_TS_LO, SNS.AXS_TS_HI, none), (FCR.FIRST_TS_LO, FCR.FIRST_TS_HI, none),
   (FCR.SURV_TS_LO, FCR.SURV_TS_HI, none), (AX.AX_FAIL_TS_LO, AX.AX_FAIL_TS_HI, none), (AX.AX_BORN_LO, AX.AX_BORN_HI, none),
   (AX.AX_DRV_TS_LO, AX.AX_DRV_TS_HI, none), (FB.FB_RD_TS_LO, FB.FB_RD_TS_HI, none), (PC.PC_FIRE_TS_LO, PC.PC_FIRE_TS_HI, none),
   (LC.LC_TS_LO, LC.LC_TS_HI, none), (LE.ENG_RUNS_LO, LE.ENG_RUNS_HI, none)]

/-- The latch of a master for the word at an address. -/
def latchKey (m : Master) (a : Nat) : Nat := 4 * a + Master.code m

/-- A read of a low word latches the other words for the master. -/
def Block.latchLow (b : Block) (m : Master) (x : Place) : Block :=
  match counters64.find? (fun c => c.1 == x.reg) with
  | none => b
  | some (_, hi, flag) =>
    let set (t : Tab (Option Word)) (r : Reg) : Tab (Option Word) :=
      Tab.set none t (latchKey m (r.addr x.i x.j)) (some (b.live r x.i x.j))
    let t := set b.latches hi
    { b with latches := match flag with
      | some f => set t f
      | none => t }

/-- A register read by a master: a word that its latch holds empties the latch. -/
def Block.readBy (b : Block) (m : Master) (x : Place) : Word × Block :=
  if 0x40 ≤ x.reg.off ∧ b.fenced (x.reg.page + x.i) then (b.readReg x, b)
  else
    let k := latchKey m (x.reg.addr x.i x.j)
    match Tab.get none b.latches k with
    | some w => (w, { b with latches := Tab.set none b.latches k none })
    | none => (b.live x.reg x.i x.j, b.latchLow m x)

/-- The trace buffer: branch targets to a debug master at OBSERVE or FULL, zero to every other master (R425). -/
def Block.traceRead (b : Block) (m : Master) (j : Nat) : Word :=
  if m = .debug ∧ b.get SEC.SEC_STAT_LEVEL ≠ 0 then b.spu.trace.getD j 0 else 0

/-! ## Reads -/

/-- An address in the body of a fenced page: an access to it shows FENCED also where no register stands there (R82, R85). -/
def Block.fencedHole (b : Block) (a : Nat) : Bool :=
  decide (a < 0x200000) && b.pageExists (a / 4096) && b.fenced (a / 4096) && decide (0x40 ≤ a % 4096)

/-- Words of the program stores: the library, and zero past it (R220). -/
def storeRead (a : Nat) : Word := let o := (a - 0x4A0000) % 0x4000; if 0x3000 ≤ o then 0 else Config.storeWord o

/-- A read of the aligned word at an address by a master: the word, the flags of R95, whether an uncorrectable word was lost, and
the state after it. `access` is the access type of R385. -/
def State.busRead (s : State) (m : Master) (a access : Nat) : Word × Access × Bool × State :=
  match s.b.placeAt a with
  | some x =>
    let f : Access := { fenced := decide (0x40 ≤ x.reg.off) && s.b.fenced (x.reg.page + x.i) }
    if x.reg = SEC.TRACE then (s.b.traceRead m x.j, f, false, s)
    else if x.reg = QRE.SPU_RDATA ∧ m = .spu ∧ !f.fenced then (let (w, t) := s.spuPopWord; (w, f, false, t))
    else (let (w, b) := s.b.readBy m x; (w, f, false, { s with b := b }))
  | none =>
    match bankOf a with
    | some n =>
      if !s.b.bankReady n then (0, { unmapped := true }, false, s)
      else (let (w, lost, t) := s.readBank n a m access; (w, {}, lost, t))
    | none =>
      if 0x490000 ≤ a ∧ a < 0x490000 + 0x100 * s.b.numCtx then (memWord s.mem a, {}, false, s)
      else if 0x4A0000 ≤ a ∧ a < 0x4A0000 + 0x4000 * s.b.numEng then (storeRead a, {}, false, s)
      else (0, { unmapped := true, fenced := s.b.fencedHole a }, false, s)

/-! ## Register writes -/

/-- A write of a page header register; it acts on fenced and locked pages too (R83, R86, R410). -/
def Block.headWrite (b : Block) (m : Master) (r : Reg) (p : Nat) (w : Word) : Block × Access :=
  if b.shlBarred m p then (b, { locked := true })
  else if r = HDR.PAGE_LOCK then
    if HDR.PAGE_LOCK_LOCK.of w = 0 then (b, {})
    else if HDR.PAGE_LOCK_KEY.of w ≠ 0xA5 then (b.refuse p r.off m 0xFF, { refused := true })
    else
      let b := b.put HDR.PAGE_STAT_LOCKED 1 p
      (if p = 0x13 then ({ b with shl := { b.shl with checking := true } } : Block).shlStatus else b, {})
  else if r = HDR.REFUSAL_CNT then (if HDR.REFUSAL_CNT_CLR.of w = 1 then b.wr r 0 p else b, {})
  else (b.store r w p, {})

/-- A write of the HSP page (R104, R107). -/
def Block.hspPageWrite (b : Block) (r : Reg) (w : Word) : Block × Ack :=
  if r = HSP.FRAME_CFG then
    (if 32 < HSP.FRAME_CFG_DUMMY.of w ∨ HSP.FRAME_CFG_WIDTH.of w = 3 then (b, .refused 0xFF) else (b.store r w, .ok))
  else if r = HSP.CNT_CLR then
    let b := if HSP.CNT_CLR_FRAME.of w = 1 then b.wr HSP.FRAME_CNT 0 else b
    let b := if HSP.CNT_CLR_ERR.of w = 1 then b.wr HSP.ERR_CNT 0 else b
    (if HSP.CNT_CLR_DISCARD.of w = 1 then b.wr HSP.DISCARD_CNT 0 else b, .ok)
  else (b.store r w, .ok)

/-- The effect of a write on the block behind the page. -/
def Block.pageWrite (b : Block) (m : Master) (x : Place) (w : Word) : Block × Ack :=
  let r := x.reg
  let p := r.page
  if p = 0x1 then b.crmWrite r w
  else if p = 0x2 then b.otpWrite r w
  else if p = 0x3 then b.secWrite m r w
  else if p = 0x4 then b.hspPageWrite r w
  else if p = 0x5 then b.xspWrite r x.j w
  else if p = 0x6 then b.ethWrite r x.j w
  else if p = 0x7 then b.canWrite r x.i x.j w
  else if p = 0xA then b.memWrite r w
  else if p = 0xB then b.qreWrite m r w
  else if p = 0xC then b.leaWrite r x.j w
  else if p = 0xD then b.tcuWrite r x.j w
  else if p = 0xE then b.cfuWrite m r x.j w
  else if p = 0xF then b.egaWrite r x.j w
  else if p = 0x10 then b.snsWrite r x.j w
  else if p = 0x11 then (b.store r w 0 x.j, .ok)
  else if p = 0x12 then b.fcrWrite m r x.j w
  else if p = 0x13 then b.shlWrite m r x.j w
  else if p = 0x20 then b.legWrite r x.i w
  else if p = 0x60 then b.axWrite r x.i w
  else if p = 0x78 then b.fbWrite r x.i w
  else if p = 0x90 then b.pcWrite r x.i w
  else if p = 0xB0 then b.scWrite r x.i x.j w
  else if p = 0xD0 then b.rgWrite r x.i w
  else if p = 0x110 then b.bkWrite m r x.i w
  else if p = 0x140 then b.lcWrite r x.i w
  else if p = 0x1E0 then b.leWrite r x.i w
  else (b, .ok)

/-- The word a partial write makes: fields outside the mask keep what they hold, pulses and W1C bits outside it receive 0 (R97). -/
def Block.composite (b : Block) (x : Place) (w mask : Word) : Word :=
  (w &&& mask) ||| (b.rd x.reg x.i x.j &&& ~~~mask &&& BitVec.ofNat 32 (x.reg.rw ||| x.reg.rwl))

/-- A write to a register. -/
def State.regWrite (s : State) (m : Master) (x : Place) (w mask : Word) : Access × State :=
  let w := s.b.composite x w mask
  let p := x.reg.page + x.i
  if x.reg.off < 0x40 then (let (b, f) := s.b.headWrite m x.reg p w; (f, { s with b := b }))
  else
    let lk : Access := { locked := s.b.locked p && !s.b.fenced p && (BitVec.ofNat 32 x.reg.rwl &&& mask) != 0 }
    if x.reg = QRE.SPU_RDATA ∧ m = .spu ∧ !s.b.fenced p then (lk, s.spuPushWord w)
    else
      let (b, f) := s.b.writeVia m x.reg x.i x.j (fun b => b.pageWrite m x w)
      (f.or lk, { s with b := b })

/-! ## Writes -/

/-- A refusal of a write to a memory window, on the page of the unit behind it (R84). -/
def State.refuseAt (s : State) (page off : Nat) (m : Master) (code : Nat) : Access × State :=
  ({ refused := true }, { s with b := s.b.refuse page off m code })

/-- A write of the bits under `mask` of the aligned word that holds a byte address; a refusal in a memory window shows the byte address (R84). -/
def State.busWrite (s : State) (m : Master) (byte : Nat) (w mask : Word) : Access × State :=
  let a := byte / 4 * 4
  match s.b.placeAt a with
  | some x => s.regWrite m x w mask
  | none =>
    let mix (old : Word) : Word := (old &&& ~~~mask) ||| (w &&& mask)
    match bankOf a with
    | some n =>
      match s.b.bankWriteCheck n m with
      | some c => s.refuseAt (bankPage n) (byte % 4096) m c
      | none => ({}, s.storeWord m a w mask)
    | none =>
      if 0x490000 ≤ a ∧ a < 0x490000 + 0x100 * s.b.numCtx then
        let c := (a - 0x490000) / 0x100
        let off := a % 0x100
        match s.b.ctxMemCheck c off with
        | some k => s.refuseAt (0x140 + c) (byte % 0x100) m k
        | none => ({}, if off < 0xC0 then { s with mem := memPut s.mem a (mix (memWord s.mem a)) } else s)
      else if 0x4A0000 ≤ a ∧ a < 0x4A0000 + 0x4000 * s.b.numEng then s.refuseAt (0x1E0 + (a - 0x4A0000) / 0x4000) (byte % 4096) m 10
      else ({ unmapped := true, fenced := s.b.fencedHole a }, s)

/-- A whole word written by a master, where the fabric lets it. -/
def State.regCommand (s : State) (m : Master) (a : Nat) (w : Word) : State :=
  if s.b.busOpen m then (s.busWrite m (a % 2 ^ 24 / 4 * 4) w 0xFFFFFFFF#32).2 else s

/-! ## The SPU at the memory windows (R334, R338, R341) -/

/-- The code bits of a bank word show an upset as it is read. -/
def State.see (s : State) (a : Nat) (seen : Ecc) : State := if (bankOf a).isSome then { s with b := s.b.see a seen } else s

/-- The bytes of an access of the SPU: one, two or four; an instruction fetch takes four. -/
def spuBytes : SpuWidth → Nat
  | .byte => 1
  | .half => 2
  | .word | .fetch => 4

/-- The words that an access of `n` bytes touches. -/
def spanOf (a n : Nat) : List Nat := if a % 4 + n ≤ 4 then [a / 4 * 4] else [a / 4 * 4, a / 4 * 4 + 4]

/-- A store of the SPU: every part is checked before any is written; the bytes outside it stay (R338). -/
def State.spuStore (s : State) (a : Nat) (n : Nat) (w : Word) : State :=
  let sh := 8 * (a % 4)
  let mask : Word := BitVec.ofNat 32 (2 ^ (8 * n) - 1)
  let parts := (spanOf a n).map (fun x =>
    if x ≤ a then (a, w <<< sh, mask <<< sh) else (x, w >>> (32 - sh), mask >>> (32 - sh)))
  let tried := parts.map (fun p => (s.busWrite .spu p.1 p.2.1 p.2.2))
  match tried.find? (fun t => t.1.refused || t.1.unmapped) with
  | some t => { t.2 with b := { t.2.b with spu := { t.2.b.spu with fault := (spanOf a n).any (fun x =>
      match bankOf x with
      | some n => !s.b.bankReady n
      | none => t.1.unmapped) } } }
  | none =>
    let t := parts.foldl (fun t p => (t.busWrite .spu p.1 p.2.1 p.2.2).2) s
    { t with b := { t.b with spu := { t.b.spu with fault := false } } }

/-- A load or an instruction fetch of the SPU: what it returns stands in the low bytes. -/
def State.spuLoad (s : State) (a : Nat) (width : SpuWidth) (seen : Ecc) : State :=
  let sh := 8 * (a % 4)
  let r := (spanOf a (spuBytes width)).foldl (fun (acc : List Word × Bool × State) x =>
    let t := acc.2.2.see x seen
    let (w, f, lost, t) := t.busRead .spu x (if width = .fetch then 3 else 1)
    (acc.1 ++ [w], acc.2.1 || f.unmapped || lost, t)) ([], false, s)
  let w := if sh = 0 then r.1.getD 0 0 else (r.1.getD 0 0 >>> sh) ||| (r.1.getD 1 0 <<< (32 - sh))
  { r.2.2 with b := r.2.2.b.spuGot (w &&& BitVec.ofNat 32 (2 ^ (8 * spuBytes width) - 1)) r.2.1 }

/-- An access of the SPU to a memory window. -/
def State.spuAccess (s : State) (write : Bool) (width : SpuWidth) (a : Nat) (w : Word) (seen : Ecc) : State :=
  if !s.b.busOpen .spu || a < 0x200000 || 2 ^ 24 ≤ a then s
  else if write then s.spuStore a (spuBytes width) w
  else s.spuLoad a width seen

/-- A master can read through the register fabric: the SPU unless fenced, the debug master at OBSERVE or FULL (R377, R425). -/
def Block.readOpen (b : Block) (m : Master) : Bool :=
  b.running && b.mode != 5 &&
    (match m with
     | .hsp => true
     | .spu => !b.fenced 9
     | .debug => b.get SEC.SEC_STAT_LEVEL != 0
     | _ => false)

/-- A read of a word of a 64-bit counter by a master: its low word, which latches the others, or a word so latched (R89). The SPU keeps what
it read. -/
def State.counterRead (s : State) (m : Master) (a : Nat) : State :=
  match s.b.placeAt a with
  | some x =>
    if s.b.readOpen m && counters64.any (fun c => c.1 == x.reg || c.2.1 == x.reg || c.2.2 == some x.reg) then
      let (w, _, _, t) := s.busRead m a 1
      if m = .spu then { t with b := t.b.spuGot w false } else t
    else s
  | none => s

/-! ## A command that is one register write -/

/-- The unit and element that a command names stand on a page of the register's kind. -/
def placeOkay (r : Reg) (i j : Nat) : Bool := (pageBody (r.page + i)).2 == i && decide (j < r.cnt)

/-- One word written to one register by a master, with the effect that the block behind the page gives it. -/
def Block.command (b : Block) (m : Master) (r : Reg) (i j : Nat) (w : Word) : Block :=
  if placeOkay r i j then b.cmdWrite m r i j (fun b => b.pageWrite m ⟨r, i, j⟩ w) else b

/-! ## The SPU's execution (R425; DESIGN CHOICE, log entry 11) -/

/-- The SPU executes: the core is out of reset, its clock runs, and neither a fence nor a halt holds it. -/
def Block.spuRuns (b : Block) : Bool := b.running && b.mode != 5 && !b.fenced 9 && !b.on SEC.SEC_STAT_HALTED

/-- Trigger `i` halts the SPU on a match: a match on address or data that belongs to the debug module, with action 1 and a kind of access
(PRESUMED, log entry 30). -/
def Block.trigArmed (b : Block) (i : Nat) : Bool :=
  let w := Tab.get 0 b.spu.trig (4 * i + 1)
  slice w 27 5 == 5 && slice w 12 4 == 1 && slice w 0 3 != 0

/-- A span of execution: the registers become open, a taken branch enters the trace, and at FULL an armed trigger that meets its condition
halts the SPU. -/
def Block.spuStep (b : Block) : Block :=
  if !b.spuRuns then b
  else
    let n := b.free
    let trace := match Config.spuBranch n with
      | some w => (b.spu.trace ++ [w]).drop (b.spu.trace.length - 255)
      | none => b.spu.trace
    let b := { b with free := n + 1, spu := { b.spu with ran := some n, regs := [], trace := trace } }
    if b.get SEC.SEC_STAT_LEVEL == 2 && (List.range 4).any (fun i => b.trigArmed i && Config.spuTrigger n i) then b.put SEC.SEC_STAT_HALTED 1
    else b

/-! ## The debug module (R425, R431; PRESUMED, log entry 30) -/

/-- Where the trigger registers 0x7A0 to 0x7A3 stand: the selector, and three words for the trigger it selects. -/
def Block.trigKey (b : Block) (regno : Nat) : Nat :=
  if regno = 0x7A0 then 16 else 4 * (Tab.get 0 b.spu.trig 16).toNat + (regno - 0x7A0)

/-- A register or CSR of the SPU by its abstract number. -/
def Block.spuReg (b : Block) (regno : Nat) : Word :=
  if regno = 0x1000 then 0
  else if 0x7A0 ≤ regno ∧ regno ≤ 0x7A3 then Tab.get 0 b.spu.trig (b.trigKey regno)
  else
    match Tab.get none b.spu.regs regno, b.spu.ran with
    | some w, _ => w
    | none, some n => Config.spuReg n regno
    | none, none => 0

def Block.setSpuReg (b : Block) (regno : Nat) (w : Word) : Block :=
  if regno = 0x1000 then b
  else if 0x7A0 ≤ regno ∧ regno ≤ 0x7A3 then
    let w := if regno = 0x7A0 then w &&& 3#32 else w
    { b with spu := { b.spu with trig := Tab.set 0 b.spu.trig (b.trigKey regno) w } }
  else { b with spu := { b.spu with regs := Tab.set none b.spu.regs regno (some w) } }

/-- `dmstatus`: version 0.13, authenticated, and the state of the SPU. -/
def Block.dmstatus (b : Block) : Word :=
  let l := b.get SEC.SEC_STAT_LEVEL
  let h := b.on SEC.SEC_STAT_HALTED
  BitVec.ofNat 32 (2 + (if l = 0 then 0 else 0x80) + (if h then 0x300 else 0xC00))

def Block.dmReg (b : Block) (a : Nat) : Word := Tab.get 0 b.sec.dm a
def Block.setDm (b : Block) (a : Nat) (w : Word) : Block := { b with sec := { b.sec with dm := Tab.set 0 b.sec.dm a w } }
def Block.dmResult (b : Block) (w : Word) : Block := { b with sec := { b.sec with scan := w } }

/-- A system bus read at `sbaddress0` into `sbdata0`, with its address increment. -/
def State.sbRead (s : State) : State :=
  let a := (s.b.dmReg 0x39).toNat % 2 ^ 24 / 4 * 4
  let (w, _, _, t) := s.busRead .debug a 1
  let b := t.b.setDm 0x3C w
  { t with b := if slice (b.dmReg 0x38) 16 1 = 1 then b.setDm 0x39 (b.dmReg 0x39 + 4#32) else b }

/-- A system bus write of `sbdata0`. -/
def State.sbWrite (s : State) (w : Word) : State :=
  let a := (s.b.dmReg 0x39).toNat % 2 ^ 24 / 4 * 4
  let t := (s.busWrite .debug a w 0xFFFFFFFF#32).2
  let b := t.b.setDm 0x3C w
  { t with b := if slice (b.dmReg 0x38) 16 1 = 1 then b.setDm 0x39 (b.dmReg 0x39 + 4#32) else b }

/-- `dmcontrol` at FULL: ndmreset, haltreq, resumereq. -/
def Block.dmcontrol (b : Block) (w : Word) : Block :=
  let b := b.setDm 0x10 (w &&& 0x03FFFFFF#32)
  if slice w 1 1 = 1 then ndmreset b
  else if slice w 31 1 = 1 then debugHalt b
  else if slice w 30 1 = 1 then debugResume b
  else b

/-- An abstract memory access: the address in `data1`, the data in `data0`, of one, two or four bytes, in the lane of its address. -/
def State.abstractMem (s : State) (w : Word) : State :=
  let size := slice w 20 3
  let a := (s.b.dmReg 0x05).toNat % 2 ^ 24
  let sh := 8 * (a % 4)
  let mask : Word := BitVec.ofNat 32 (2 ^ (8 * 2 ^ size) - 1)
  if 2 < size ∨ a % 2 ^ size ≠ 0 then s
  else
    let t : State :=
      if slice w 16 1 = 1 then (s.busWrite .debug a ((s.b.dmReg 0x04 &&& mask) <<< sh) (mask <<< sh)).2
      else
        let (v, _, _, t) := s.busRead .debug (a / 4 * 4) 1
        { t with b := t.b.setDm 0x04 ((v >>> sh) &&& mask) }
    { t with b := if slice w 19 1 = 1 then t.b.setDm 0x05 (t.b.dmReg 0x05 + BitVec.ofNat 32 (2 ^ size)) else t.b }

/-- An abstract command fails with a code of `cmderr`: 2 not supported, 4 the SPU is in the wrong state. -/
def Block.dmFail (b : Block) (c : Nat) : Block := b.setDm 0x16 (BitVec.ofNat 32 (c * 256))

/-- `abstractcs`: two data words, a program buffer of two words, and `cmderr`. -/
def Block.abstractcs (b : Block) : Word := 0x02000002#32 ||| b.dmReg 0x16

/-- The program buffer runs on the halted SPU: what its two instructions leave in the registers is open, and their accesses are the SPU's. -/
def Block.runBuffer (b : Block) : Block := { b with free := b.free + 1, spu := { b.spu with ran := some b.free, regs := [] } }

/-- An abstract register access, and the program buffer after it. At OBSERVE it reads a CSR that needs no halt; those of debug mode, 0x7B0 to
0x7BF, need one. -/
def Block.abstractReg (b : Block) (w : Word) : Block :=
  let regno := slice w 0 16
  let full := b.get SEC.SEC_STAT_LEVEL == 2
  let halted := b.on SEC.SEC_STAT_HALTED
  let wr := slice w 16 1 == 1
  let transfer := slice w 17 1 == 1
  let post := slice w 18 1 == 1
  let csr := decide (regno < 0x1000)
  let noHalt := csr && !wr && !post && !(decide (0x7B0 ≤ regno) && decide (regno ≤ 0x7BF))
  if !full && !(transfer && noHalt) then b.dmFail 2
  else if transfer && (slice w 20 3 != 2 || decide (0x1020 ≤ regno)) then b.dmFail 2
  else if !halted && (post || (transfer && !noHalt)) then b.dmFail 4
  else
    let b := if !transfer then b else if wr then b.setSpuReg regno (b.dmReg 0x04) else b.setDm 0x04 (b.spuReg regno)
    if post then b.runBuffer else b

/-- A word written to `command`; it acts while `cmderr` is zero. -/
def State.abstractCommand (s : State) (w : Word) : State :=
  if slice (s.b.dmReg 0x16) 8 3 ≠ 0 then s
  else if slice w 24 8 = 0 then s.onBlock (fun b => b.abstractReg w)
  else if slice w 24 8 ≠ 2 ∨ s.b.get SEC.SEC_STAT_LEVEL ≠ 2 then s.onBlock (fun b => b.dmFail 2)
  else if !s.b.on SEC.SEC_STAT_HALTED then s.onBlock (fun b => b.dmFail 4)
  else s.abstractMem w

/-- An access to the debug module: at NONE it answers `dmstatus` only; at OBSERVE it serves system bus reads and abstract reads of CSRs that
need no halt; at FULL everything. -/
def State.dmi (s : State) (write : Bool) (a : Nat) (w : Word) : State :=
  let s : State := { s with b := s.b.jtag 0x11 }
  let b := s.b
  let l := b.get SEC.SEC_STAT_LEVEL
  if a = 0x11 then (if write then s else { s with b := b.dmResult b.dmstatus })
  else if l = 0 ∨ !b.running then { s with b := b.dmResult 0 }
  else if !write then
    let t : State := { s with b := b.dmResult (if a = 0x16 then b.abstractcs else b.dmReg a) }
    if a = 0x3C ∧ slice (b.dmReg 0x38) 15 1 = 1 then t.sbRead else t
  else if a = 0x39 then
    let t : State := { s with b := b.setDm a w }
    if slice (b.dmReg 0x38) 20 1 = 1 then t.sbRead else t
  else if a = 0x38 then { s with b := b.setDm a w }
  else if a = 0x3C then (if l = 2 then s.sbWrite w else s)
  else if a = 0x16 then { s with b := b.setDm 0x16 (b.dmReg 0x16 &&& ~~~(w &&& 0x700#32)) }
  else if a = 0x17 then s.abstractCommand w
  else if l ≠ 2 then s
  else if a = 0x10 then { s with b := b.dmcontrol w }
  else { s with b := b.setDm a w }

end Sys2Proof.Machine
end

