-- ==== Sys2Proof/Machine/Hsp.lean ====
section
/-!
DEFINITION. The host serial port's frames (R92 to R105): one function runs a frame of any command, with its words, its ending, its
codes and its counters; `frameStatus` is what the next frame shows.
-/

namespace Sys2Proof.Machine

/-- How a frame ends: at a word boundary (or after its trailer), by a rise of HSCS_N elsewhere, or by the select-inactive timeout. -/
inductive Ending where
  | whole
  | short (inWord : Bool)
  | timeout (inWord : Bool)
deriving DecidableEq, Repr

/-- What a frame has gathered so far: its first code, the flags of R95, the data words driven and the data words in effect. -/
structure Frame where
  code : Nat := 0
  acc : Access := {}
  wrap : Bool := false
  discard : Bool := false
  crcErr : Bool := false
  ringErr : Bool := false
  underrun : Bool := false
  /-- A condition of HSP_PROTOCOL arose (R105). -/
  proto : Bool := false
  data : List Word := []
  done : Nat := 0
deriving DecidableEq, Repr

/-- A condition of R104 arises: the first one stays the code. -/
def Frame.fail (f : Frame) (c : Nat) : Frame :=
  let f : Frame := if f.code = 0 then { f with code := c } else f
  { f with ringErr := f.ringErr || (8 ≤ c && c ≤ 11), underrun := f.underrun || c == 7, proto := f.proto || [1, 3, 6, 7].contains c }

/-- The configuration in force for a frame (R93): bytes in a data word, full address, tag, trailer, the bits of the command, address and dummy
phases. -/
structure FrameCfg where
  wb : Nat
  addr : Nat
  tag : Nat
  crc : Bool
  cmdBits : Nat
  addrBits : Nat
  dummy : Nat
deriving DecidableEq, Repr

def Block.frameCfg (b : Block) (h : HspHdr) : FrameCfg :=
  { wb := 2 ^ b.get HSP.FRAME_CFG_WIDTH
    addr := if b.on HSP.FRAME_CFG_ADDR24 then h.addr.toNat else b.get HSP.FRAME_CFG_ADDR_HI * 65536 + h.addr.toNat % 65536
    tag := if b.on HSP.FRAME_CFG_CMD16 then h.tag.toNat else 0
    crc := b.on HSP.FRAME_CFG_CRC_EN
    cmdBits := if b.on HSP.FRAME_CFG_CMD16 then 16 else 8
    addrBits := if b.on HSP.FRAME_CFG_ADDR24 then 24 else 16
    dummy := b.get HSP.FRAME_CFG_DUMMY }

/-- The low bytes of a word that make up one data word. -/
def FrameCfg.cut (c : FrameCfg) (w : Word) : Word := w &&& BitVec.ofNat 32 (2 ^ (8 * c.wb) - 1)

/-- Address of data word `k`: low bits dropped, wrapping in its page (R96, R100). -/
def FrameCfg.at' (c : FrameCfg) (k : Nat) : Nat :=
  let a := c.addr / c.wb * c.wb
  a / 4096 * 4096 + (a + k * c.wb) % 4096

/-- Data words from the frame's address to the end of its page. -/
def FrameCfg.room (c : FrameCfg) : Nat := (4096 - c.addr / c.wb * c.wb % 4096) / c.wb

/-- The data word that a list of fetched 32-bit words holds at word `k`; zeros past its end. -/
def FrameCfg.lane (c : FrameCfg) (ws : List Word) (k : Nat) : Word :=
  c.cut (ws.getD (k * c.wb / 4) 0 >>> (8 * (k * c.wb % 4)))

/-- Data words packed into 32-bit words, the first in the lowest bytes. -/
def FrameCfg.pack (c : FrameCfg) (ws : List Word) : List Word :=
  let per := 4 / c.wb
  (List.range (ws.length / per)).map (fun k =>
    (List.range per).foldl (fun (acc : Word) i => acc ||| (c.cut (ws.getD (k * per + i) 0) <<< (8 * c.wb * i))) 0)

/-- The command codes of R94. -/
def hspCodes : List Nat := [0x10, 0x20, 0x24, 0x30, 0x31, 0x40, 0x41, 0x60, 0x61]

/-- The commands whose data phase carries words from the device, after dummy bits (R93). -/
def hspIsRead (cmd : Nat) : Bool := [0x10, 0x30, 0x31, 0x41].contains cmd

/-- A map from its bits. -/
def flagBits (l : List (Nat × Bool)) : Nat := ofBits ((l.filter (fun x => x.2)).map (fun x => x.1))

/-- What a frame leaves for the status word of the next (R95). -/
def Frame.left (f : Frame) (tag : Nat) : Nat :=
  flagBits [(20, f.code != 0), (19, f.crcErr), (18, f.wrap), (17, f.acc.refused), (16, f.acc.fenced), (15, f.acc.locked),
    (14, f.acc.unmapped), (13, f.discard), (10, f.ringErr), (9, f.underrun)] + tag

/-- The status word that a frame shows in its command and address phases (R95). The interrupt lines are released in every reset (R44). -/
def Block.frameStatus (b : Block) : Nat :=
  let irq := b.devStatus
  b.mode * 2 ^ 21 +
    flagBits [(12, !b.coreReset && HSP.DEV_STATUS_IRQ0.of irq == 1), (11, !b.coreReset && HSP.DEV_STATUS_IRQ1.of irq == 1)] + b.hsp.prev

/-! ## The trailer (R99) -/

/-- Every bit that the host drives from the first command bit to the last data bit, `n` data words being clocked. -/
def FrameCfg.hostBits (c : FrameCfg) (cmd : Nat) (h : HspHdr) (data : List Word) (n : Nat) : List Bool :=
  bitsMsb 8 cmd ++ (if c.cmdBits = 16 then bitsMsb 8 h.tag.toNat else []) ++ bitsMsb c.addrBits h.addr.toNat ++
    (if hspIsRead cmd then (List.range (c.dummy + n * (8 * c.wb))).map (fun i => h.fill.getD i false)
     else data.flatMap (fun w => bitsMsb (8 * c.wb) w.toNat))

/-- Every bit that the device drives over the same span, `out` being the words it sends; those the manual gives no value, with the data words of a
read that ended before it sent them, are open. -/
def FrameCfg.devBits (c : FrameCfg) (cmd status : Nat) (out : List Word) (n : Nat) : List Bool :=
  bitsMsb 24 status ++ List.replicate (c.cmdBits + c.addrBits - 24) false ++
    (if hspIsRead cmd then (List.range c.dummy).map Config.idleBit ++ out.flatMap (fun w => bitsMsb (8 * c.wb) w.toNat) ++
       (List.range ((n - out.length) * (8 * c.wb))).map Config.idleBit
     else (List.range (n * (8 * c.wb))).map Config.idleBit)

/-- The trailer that the device sends: zero after a bad command, which drives zeros to its end (R94). -/
def FrameCfg.trailer (c : FrameCfg) (cmd status : Nat) (out : List Word) (n : Nat) : Byte :=
  if hspCodes.contains cmd then BitVec.ofNat 8 (crc8 (c.devBits cmd status out n)) else 0

/-- The port still serves the frame: the core runs, outside DORMANT (R39, R45). -/
def State.served (s : State) : Bool := s.b.running && s.b.mode != 5

/-! ## Reads -/

/-- READ of `n` words, those of `late` not being ready in time (R88, R96). The address advances after each word (R100). A late word is no access
of the fabric: it shows neither FENCED nor UNMAPPED (DESIGN CHOICE, log entry 145). -/
def State.frameRead (s : State) (c : FrameCfg) (f : Frame) (n : Nat) (late : List Nat) : Frame × State :=
  let r := (List.range n).foldl (fun (x : Frame × Option (Nat × Word) × State) k =>
    let (f, held, s) := x
    if late.contains k then
      ({ (f.fail 7) with data := f.data ++ [c.cut 0xFFFFFFFF#32] }, held, s)
    else
      let a := c.at' k
      let (w, fl, s) := match held with
        | some (ha, w) => if ha = a / 4 then (w, ({} : Access), s) else (let (w, fl, _, t) := s.busRead .hsp (a / 4 * 4) 1; (w, fl, t))
        | none => (let (w, fl, _, t) := s.busRead .hsp (a / 4 * 4) 1; (w, fl, t))
      let d := c.cut (w >>> (8 * (a % 4)))
      ({ f with acc := f.acc.or fl, data := f.data ++ [d], done := f.done + 1 }, some (a / 4, w), s)) (f, none, s)
  ({ r.1 with wrap := decide (c.room ≤ n) }, r.2.2)

/-- Data words to the host, those that were not ready in time as ones (R96). -/
def FrameCfg.send (c : FrameCfg) (f : Frame) (from' : Nat) (ws : List Word) (late : List Nat) : Frame :=
  let miss := (List.range ws.length).filter (fun k => late.contains (from' + k))
  let f := if miss.isEmpty then f else f.fail 7
  { f with data := f.data ++ (List.range ws.length).map (fun k => if miss.contains k then c.cut 0xFFFFFFFF#32 else ws.getD k 0) }

/-- STATUS and IDENT: words of the block, then zeros (R94). -/
def FrameCfg.answer (c : FrameCfg) (f : Frame) (ws : List Word) (n : Nat) (late : List Nat) : Frame :=
  { (c.send f 0 ((List.range n).map (c.lane ws)) late) with done := n - ((List.range n).filter late.contains).length }

/-- The words of IDENT. -/
def Block.identWords (b : Block) : List Word := b.rd DIR.DEVICE_ID :: (List.range 4).map (fun k => b.rd DIR.UID 0 k)

/-! ## Writes -/

/-- One data word under a mask to the word's address (R97, R98). A word that is refused or discarded by its page has taken no effect, and
counts as dropped (R82, R85, R107, DEDUCED, log entry 49). -/
def State.frameStore (s : State) (c : FrameCfg) (f : Frame) (k per : Nat) (v mask : Word) : Frame × State :=
  if !s.served then (f, s)
  else
    let a := c.at' k
    let sh := 8 * (a % 4)
    let (fl, t) := s.busWrite .hsp a (c.cut v <<< sh) (c.cut mask <<< sh)
    ({ f with acc := f.acc.or fl, done := if fl.refused || fl.fenced || fl.unmapped then f.done else f.done + per }, t)

/-- WRITE: words past the end of the page are discarded (R100). -/
def State.frameWrite (s : State) (c : FrameCfg) (f : Frame) (data : List Word) : Frame × State :=
  let past := decide (c.room < data.length)
  let f : Frame := { f with wrap := f.wrap || decide (c.room ≤ data.length), discard := f.discard || past }
  (List.range (min data.length c.room)).foldl (fun (x : Frame × State) k => x.2.frameStore c x.1 k 1 (data.getD k 0) 0xFFFFFFFF#32) (f, s)

/-- WRITE_MASKED: mask and value in turn; a mask without its value is discarded. -/
def State.frameMasked (s : State) (c : FrameCfg) (f : Frame) (data : List Word) : Frame × State :=
  let pairs := data.length / 2
  let past := decide (c.room < pairs)
  let f : Frame := { f with wrap := f.wrap || decide (c.room ≤ pairs), discard := f.discard || past || data.length % 2 == 1 }
  (List.range (min pairs c.room)).foldl (fun (x : Frame × State) k =>
    x.2.frameStore c x.1 k 2 (data.getD (2 * k + 1) 0) (data.getD (2 * k) 0)) (f, s)

/-! ## Ring commands (R101) -/

/-- The check of a ring command's handle, with the ring end that must be the host: 0, STALE_HANDLE or WRONG_RING_DIR. -/
def Block.frameRing (b : Block) (h : Nat) (e : Fld) : Nat :=
  if b.ringCheck h ≠ 0 then 8 else if b.get e (h % 64) ≠ 0 then 11 else 0

/-- A push or a pop that finds its ring FROZEN is refused with RING_FROZEN on the ring's page; the frame's own code for what moves nothing is
that of log entry 48 (R349, R352). -/
def State.frozenRefusal (s : State) (n : Nat) : State :=
  if s.b.ringState n = 2 then { s with b := s.b.refuse (ringPage n) 0 .hsp 8 } else s

/-- RING_PUSH: whole entries until one finds the ring full. -/
def State.framePush (s : State) (c : FrameCfg) (f : Frame) (n : Nat) (data : List Word) : Frame × State :=
  let per := s.b.esize n * 4 / c.wb
  let f : Frame := { f with discard := f.discard || data.length % per != 0 }
  let tries := per ≤ data.length
  let f : Frame := if tries ∧ s.b.ringState n = 2 then { f with acc := f.acc.or { refused := true } } else f
  let s := (if tries then s.frozenRefusal n else s).served3
  let r := (List.range (data.length / per)).foldl (fun (x : Bool × Frame × State) k =>
    let (full, f, s) := x
    if full then x
    else
      let (code, t) := if s.b.ringState n ≠ 1 || !s.b.qreServes then (10, s) else s.pushEntry n (c.pack ((data.drop (k * per)).take per))
      if code = 0 then (false, { f with done := f.done + per }, t) else (true, f.fail 9, t)) (false, f, s)
  r.2

/-- RING_POP of `words` words: an entry is copied at its first word and released at its last, if every word of it was ready in time and
`release` allows it (R96, R98, R99). Where an entry stays because a word of it was late, those after it are sent and counted in `WORDS.DONE`, but
the read index stays at it, of which the manual says only that HSP continues (DESIGN CHOICE, log entry 130). -/
def State.framePop (s : State) (c : FrameCfg) (f : Frame) (n words : Nat) (late : List Nat) (release : Bool) : Frame × State :=
  let s := (if words = 0 || !release then s else s.frozenRefusal n).served3
  let per := s.b.esize n * 4 / c.wb
  let r0 := s.b.ridx n
  let avail := if s.b.ringState n ≠ 1 || !s.b.qreServes then 0 else s.b.occ n
  (List.range ((words + per - 1) / per)).foldl (fun (x : Frame × State) e =>
    let (f, s) := x
    let k := min per (words - e * per)
    if e < avail then
      let (ws, s) := s.entryAt n (r0 + e) .hsp
      let f := c.send f (e * per) ((List.range k).map (c.lane ws)) late
      if k = per && release && !(List.range per).any (fun i => late.contains (e * per + i)) then
        ({ f with done := f.done + per }, { s with b := s.b.popDone n ((r0 + e) % 65536) ws })
      else (f, s)
    else (c.send (f.fail 10) (e * per) (List.replicate k 0) late, s)) (f, s)

/-! ## The frame -/

/-- The command's own part of a frame; `n` data words are clocked, `hold` says that the frame takes no effect (R99, R102). -/
def State.frameBody (s : State) (cmd : Nat) (c : FrameCfg) (data : List Word) (n : Nat) (late : List Nat) (hold : Bool) : Frame × State :=
  let f : Frame := {}
  let b := s.b
  let handle := c.addr % 65536
  let ring := handle % 64
  if cmd = 0x10 then
    let (f, t) := s.frameRead c f n late
    if hold then ({ f with done := 0 }, { t with b := { t.b with latches := b.latches } }) else (f, t)
  else if cmd = 0x30 ∨ cmd = 0x31 then
    let f := c.answer f (if cmd = 0x30 then [b.rd OTP.BOOT_STATUS, b.devStatus] else b.identWords) n late
    (if hold then { f with done := 0 } else f, s)
  else if cmd = 0x41 then
    match b.frameRing handle RG.RG_ENDS_CONS with
    | 0 => s.framePop c f ring n late (!hold)
    | e => (f.fail e, s)
  else if cmd = 0x40 then
    match b.frameRing handle RG.RG_ENDS_PROD with
    | 0 => if hold then (f, s) else s.framePush c f ring data
    | e => (f.fail e, s)
  else if hold then
    ({ f with wrap := (cmd == 0x20 && decide (c.room ≤ data.length)) || (cmd == 0x24 && decide (c.room ≤ data.length / 2)) }, s)
  else if cmd = 0x20 then s.frameWrite c f data
  else if cmd = 0x24 then s.frameMasked c f data
  else if cmd = 0x60 then
    let (e, b) := b.debugEnter (c.addr % 4)
    (if e = 0 then f else f.fail 12, { s with b := b })
  else
    let (e, b) := b.debugRespond handle data
    (if e = 0 then { f with done := min 32 data.length } else f.fail 12, { s with b := b })

/-- The end of a frame: its outcome in the HSP page, its counters, its sources (R95, R104, R105, R107). -/
def Block.frameEnd (b : Block) (cmd : Nat) (c : FrameCfg) (f : Frame) (drop : Nat) (timeout : Bool) : Block :=
  let b := if timeout then b.raise 0x08 4 else b
  let b := if f.crcErr then b.raise 0x09 4 else b
  let b := if f.proto then b.raise 0x0A 4 else b
  let flags := flagBits [(24, f.wrap), (25, f.acc.fenced), (26, f.acc.locked), (27, f.acc.unmapped), (28, f.acc.refused), (29, f.discard)]
  let b := b.wr HSP.LAST_FRAME (BitVec.ofNat 32 (f.code + c.tag * 256 + cmd * 65536 + flags))
  let b := b.wr HSP.LAST_ADDR (BitVec.ofNat 32 (if cmd = 0x40 ∨ cmd = 0x41 then c.addr % 65536 else c.addr))
  let b := (b.put HSP.WORDS_DONE (min f.done 65535)).put HSP.WORDS_DROPPED (min drop 65535)
  let b := b.bump HSP.FRAME_CNT_COUNT HSP.FRAME_CNT_OVF
  let b := if f.code = 0 then b else b.bump HSP.ERR_CNT_COUNT HSP.ERR_CNT_OVF
  let b := b.bumpBy drop HSP.DISCARD_CNT_COUNT HSP.DISCARD_CNT_OVF
  { b with hsp := { b.hsp with prev := f.left c.tag } }

/-- The frame's outcome before its end is recorded: code, flags, data and effects (R94, R99, R102, R103). The trailer is checked in every
frame that reaches it, also in one that an earlier condition has ended, where a mismatch shows in the flags alone (R104, DEDUCED, log entry 44). -/
def State.frameRun (s : State) (cmd : Nat) (h : HspHdr) (c : FrameCfg) (data : List Word) (n : Nat) (e : Ending) : Frame × State :=
  let known := hspCodes.contains cmd
  let inWord := match e with
    | .whole => false
    | .short w | .timeout w => w
  let cut : Bool := match e with
    | .whole => known && cmd != 0x60 && decide (n = 0)
    | .short w => c.crc || w || decide (n = 0)
    | .timeout _ => true
  let long := known && c.crc && !hspIsRead cmd && decide (64 < n)
  let bad := c.crc && !cut && crc8 (c.hostBits cmd h data n) != h.crc.toNat
  let fin (f : Frame) : Frame :=
    let f : Frame := if long then { (f.fail 6) with discard := true } else f
    let f : Frame := if bad then { (f.fail 5) with crcErr := true, discard := true } else f
    match e with
    | .timeout _ => { (f.fail 4) with discard := true }
    | _ => if cut then { (f.fail 3) with discard := true } else f
  if !known then (fin { (Frame.fail {} 1) with data := List.replicate n 0 }, s)
  else if s.b.mode = 0 ∧ !([0x10, 0x30, 0x31, 0x60, 0x61].contains cmd) then (fin (Frame.fail {} 2), s)
  else if cut ∧ n = 0 ∧ !inWord then (fin {}, s)
  else
    let hold := long || bad || (cut && (c.crc || cmd = 0x60 || cmd = 0x61))
    let (f, t) := s.frameBody cmd c data n h.late hold
    (fin f, t)

/-- The nightwatch responder: STATUS in boot hold and in DORMANT, silence to every other command (R77, R94). A STATUS it has answered is the
previous frame of the next one; a frame it ignored is not (R95, DESIGN CHOICE, log entry 103). -/
def Block.responder (b : Block) (cmd n : Nat) : Block :=
  if cmd ≠ 0x30 then { b with hsp := { prev := b.hsp.prev } }
  else
    let dormant := b.crm.phase != .bootHold
    let c : FrameCfg := ⟨4, 0, 0, false, 8, 24, 16⟩
    let ws := [b.rd OTP.BOOT_STATUS, if dormant then b.crm.dormantStatus else 0]
    { b with hsp := { driven := true, status := b.frameStatus, data := (List.range n).map (c.lane ws) } }

/-- The responder has the port. -/
def Block.responds (b : Block) : Bool :=
  b.crm.phase == .bootHold || b.crm.phase == .dormantEntry ||
    (b.mode == 5 && (b.crm.phase == .dormant || b.crm.phase == .wakeSettle || b.crm.phase == .wakePll || b.crm.phase == .wakeBanks))

/-- One frame: command code, header, data words from the host, data words clocked, and its ending. A frame whose write resets the core is lost.
One whose write enters DORMANT is in flight then and discarded (R39), but with CRC_EN = 1 the write acts at its end and it has ended (R99;
DEDUCED, log entry 144). -/
def State.frame (s : State) (cmd : Nat) (h : HspHdr) (data : List Word) (n : Nat) (e : Ending) : State :=
  if s.b.responds then { s with b := s.b.responder cmd n }
  else if !s.served then { s with b := { s.b with hsp := {} } }
  else
    let c := s.b.frameCfg h
    let status := s.b.frameStatus
    let (f, t) := s.frameRun cmd h c data n e
    let part := match e with
      | .whole => 0
      | .short w | .timeout w => if w then 1 else 0
    let drop := (if hspIsRead cmd then 0 else n - f.done) + part
    let slept := t.b.crm.phase == .dormantEntry
    if !t.served && !(slept && c.crc) then { t with b := { t.b with hsp := { prev := if slept then t.b.hsp.prev else 0 } } }
    else
      let b := t.b.frameEnd cmd c f drop (match e with | .timeout _ => true | _ => false)
      let trailer := if c.crc && e == .whole then some (c.trailer cmd status f.data n) else none
      { t with b := { b with hsp := { b.hsp with driven := true, status := status, data := f.data, trailer := trailer } } }

end Sys2Proof.Machine
end

