-- ==== Sys2Proof/Machine/Command.lean ====
section
/-!
DEFINITION. The shapes that the commands' meanings share: an event of a numbered unit, a register write by a master, and what
follows a command where another block reads what it changed.
-/

namespace Sys2Proof.Machine

/-- What a meaning answers. -/
abbrev Reaction := Host.Outcome State Fault Refusal

/-- An event of unit `n` of `lim`; an event of a unit that does not exist changes nothing. -/
def State.within (s : State) (n lim : Nat) (f : Block → Block) : State := if n < lim then s.onBlock f else s

/-- A write of one register of unit `i`, element `j`, by a master. -/
def State.write (s : State) (m : Master) (r : Reg) (i j : Nat) (w : Word) : State := s.onBlock (fun b => b.command m r i j w)

/-- A word of `OTP.CMD` with GO (R64). -/
def otpWord (op : Nat) (key force : Byte) : Word := BitVec.ofNat 32 (op % 16 + key.toNat * 256 + force.toNat * 65536 + 2 ^ 31)

/-- The time-stamp counter wraps (R91). -/
def timeStampWrap (b : Block) : Block := if b.running then { (b.put CRM.TS_STAT_TS_WRAP 1) with ts := 0 } else b

/-- One LCLK with no command: the time-stamp counts while the core runs, the SPU executes, and FCR receives every source that was raised before it (R9, R372, R374,
DESIGN CHOICE, log entry 1). -/
def Block.tick (b : Block) : Block :=
  if !b.running then b
  else
    let b := if b.ts = BitVec.allOnes 64 then timeStampWrap b else { b with ts := b.ts + 1 }
    b.wires.foldl (fun b r => fcrSourceRaised r b) b.spuStep

/-- SHL follows the UCG bits of axes: overrides of groups in STO change with them (R391, R402). -/
def Block.shlSettle (b : Block) : Block :=
  if (List.range b.numLegs).all (fun leg => (b.leg leg).shl == b.shlPattern leg) then b else b.shlApply.shlStatus

/-- A change of a leg's LO comparator reaches an axis in CATCH (R265). -/
def Block.crossed (b old : Block) (leg : Nat) (up : Bool) (t : Nat) : Block :=
  if b.mapBit SC.NODE_STAT_CMP 0 (leg / 2) (leg % 2) = old.mapBit SC.NODE_STAT_CMP 0 (leg / 2) (leg % 2) then b else b.catchStep leg up t

end Sys2Proof.Machine
end

