-- ==== Sys2Proof/Machine/CmdAxis.lean ====
section
/-!
DEFINITION. Meanings of the axis commands: mailboxes, command pins, drive states, one for each constructor of `Instr`.
-/

namespace Sys2Proof.Machine

/-- MBX_CREATE (R199). -/
def execMbxCreate (m : Master) (mbx : Nat) (s : State) : Reaction :=
  .next (s.write m CFU.MBX_CMD 0 mbx (CFU.MBX_CMD_GO.into (BitVec.ofNat 32 1) 1))

/-- MBX_DESTROY (R203). -/
def execMbxDestroy (m : Master) (mbx : Nat) (s : State) : Reaction :=
  .next (s.write m CFU.MBX_CMD 0 mbx (CFU.MBX_CMD_GO.into (BitVec.ofNat 32 2) 1))

/-- MBX_REFORM (R207). -/
def execMbxReform (m : Master) (mbx : Nat) (s : State) : Reaction :=
  .next (s.write m CFU.MBX_CMD 0 mbx (CFU.MBX_CMD_GO.into (BitVec.ofNat 32 3) 1))

/-- MBX_CHECK (R196). -/
def execMbxCheck (m : Master) (mbx : Nat) (s : State) : Reaction :=
  .next (s.write m CFU.MBX_CMD 0 mbx (CFU.MBX_CMD_GO.into (BitVec.ofNat 32 4) 1))

/-- MBX_BAD_OP (R213). -/
def execMbxBadOp (m : Master) (mbx : Nat) (op : Nat) (s : State) : Reaction :=
  .next (s.write m CFU.MBX_CMD 0 mbx (CFU.MBX_CMD_GO.into (BitVec.ofNat 32 (op % 16)) 1))

/-- MBX_QUEUED_START (R197). -/
def execMbxQueuedStart (mbx : Nat) (s : State) : Reaction := .next (s.onBlock (mbxQueuedStart mbx))

/-- AXIS_COMMIT_MERIDIAN (R200). -/
def execAxisCommitMeridian (axis : Nat) (s : State) : Reaction := .next (s.onBlock (fun b => (axisCommitMeridian axis b).shlSettle))

/-- AXIS_DESTROY_MERIDIAN (R203). -/
def execAxisDestroyMeridian (axis : Nat) (s : State) : Reaction := .next ((s.axisDestroyMeridian axis).onBlock Block.shlSettle)

/-- AXIS_REFORM_MERIDIAN (R206). -/
def execAxisReformMeridian (axis : Nat) (s : State) : Reaction := .next (s.onBlock (axisReformMeridian axis))

/-- MAILBOX_DONE (R198). -/
def execMailboxDone (mbx : Nat) (s : State) : Reaction := .next (s.within mbx 2 (mailboxDone mbx))

/-- CMD_PIN_MEASURE (R210). -/
def execCmdPinMeasure (pin : Nat) (high : Nat) (period : Nat) (s : State) : Reaction :=
  .next (s.onBlock (cmdPinMeasure pin high period))

/-- CMD_LOSS (R211). -/
def execCmdLoss (pin : Nat) (s : State) : Reaction := .next (s.onBlock (cmdLoss pin))

/-- CMD_PIN_RECOVER (R211). -/
def execCmdPinRecover (pin : Nat) (s : State) : Reaction := .next (s.onBlock (cmdPinRecover pin))

/-- AX_CMD_START (R286). -/
def execAxCmdStart (m : Master) (axis : Nat) (w : Word) (s : State) : Reaction :=
  .next (s.write m AX.AX_CMD axis 0 (AX.AX_CMD_OP.into (AX.AX_CMD_GO.into w 1) 1))

/-- AX_CMD_STOP (R279). -/
def execAxCmdStop (m : Master) (axis : Nat) (w : Word) (s : State) : Reaction :=
  .next (s.write m AX.AX_CMD axis 0 (AX.AX_CMD_OP.into (AX.AX_CMD_GO.into w 1) 2))

/-- AX_CMD_COAST (R280). -/
def execAxCmdCoast (m : Master) (axis : Nat) (w : Word) (s : State) : Reaction :=
  .next (s.write m AX.AX_CMD axis 0 (AX.AX_CMD_OP.into (AX.AX_CMD_GO.into w 1) 3))

/-- AX_CMD_BRAKE_ASC (R277). -/
def execAxCmdBrakeAsc (m : Master) (axis : Nat) (w : Word) (s : State) : Reaction :=
  .next (s.write m AX.AX_CMD axis 0 (AX.AX_CMD_OP.into (AX.AX_CMD_GO.into w 1) 4))

/-- AX_CMD_BRAKE_DC (R278). -/
def execAxCmdBrakeDc (m : Master) (axis : Nat) (w : Word) (s : State) : Reaction :=
  .next (s.write m AX.AX_CMD axis 0 (AX.AX_CMD_OP.into (AX.AX_CMD_GO.into w 1) 5))

/-- AX_CMD_BAD_OP (R258). -/
def execAxCmdBadOp (m : Master) (axis : Nat) (w : Word) (s : State) : Reaction :=
  .next (s.write m AX.AX_CMD axis 0 (AX.AX_CMD_GO.into w 1))

/-- AXIS_COMMAND_ACT (R258). -/
def execAxisCommandAct (axis : Nat) (s : State) : Reaction :=
  .next (s.within axis s.b.numAxes (fun b => if b.running then b.cmdAct axis rampRestart else b))

/-- CATCH_TIMEOUT (R265). -/
def execCatchTimeout (axis : Nat) (s : State) : Reaction := .next (s.within axis s.b.numAxes (catchTimeout axis))

/-- HFI_TIMEOUT (R261). -/
def execHfiTimeout (axis : Nat) (s : State) : Reaction := .next (s.within axis s.b.numAxes (hfiTimeout axis))

/-- ALIGN_DONE (R264). -/
def execAlignDone (axis : Nat) (s : State) : Reaction := .next (s.within axis s.b.numAxes (fun b => b.alignDone axis rampRestart))

/-- RELOCK_TIMEOUT (R270). -/
def execRelockTimeout (axis : Nat) (s : State) : Reaction := .next (s.within axis s.b.numAxes (relockTimeout axis))

/-- RIDE_TIMEOUT (R271). -/
def execRideTimeout (axis : Nat) (s : State) : Reaction := .next (s.within axis s.b.numAxes (rideTimeout axis))

/-- CFU_STALL (R282). -/
def execCfuStall (axis : Nat) (s : State) : Reaction := .next (s.within axis s.b.numAxes (cfuStall axis))

/-- DC_TIMEOUT (R278). -/
def execDcTimeout (axis : Nat) (s : State) : Reaction := .next (s.within axis s.b.numAxes (dcTimeout axis))

/-- HOLD_TIMEOUT (R279). -/
def execHoldTimeout (axis : Nat) (s : State) : Reaction := .next (s.within axis s.b.numAxes (holdTimeout axis))

/-- MAILBOX_CHECKS_COMPLETE (R200). -/
def execMailboxChecksComplete (mbx : Nat) (s : State) : Reaction := .next (s.within mbx 2 (mailboxChecksComplete mbx))

end Sys2Proof.Machine
end

