-- ==== Sys2Proof/Machine/CmdClock.lean ====
section
/-!
DEFINITION. Meanings of the clock, reset, start-up and mode commands, one for each constructor of `Instr`.
-/

namespace Sys2Proof.Machine

/-- PORST_N_ASSERT (R44). -/
def execPorstNAssert (s : State) : Reaction := .next (s.onBlock (porstNAssert))

/-- PORST_N_RELEASE (R75). -/
def execPorstNRelease (refsel : Bool) (s : State) : Reaction := .next (s.onBlock (porstNRelease refsel))

/-- SUPPLY_RAIL_CHANGE (R43). -/
def execSupplyRailChange (rail : Rail) (inRange : Bool) (s : State) : Reaction := .next (s.onBlock (supplyRailChange rail inRange))

/-- VQPS_CHANGE (R65). -/
def execVqpsChange (inRange : Bool) (s : State) : Reaction := .next (s.onBlock (vqpsChange inRange))

/-- STARTUP_ARRAY_READ_DONE (R73). -/
def execStartupArrayReadDone (s : State) : Reaction := .next (s.onBlock (startupArrayReadDone))

/-- STARTUP_DIGESTS_DONE (R75). -/
def execStartupDigestsDone (s : State) : Reaction := .next (s.onBlock (startupDigestsDone))

/-- PLL_LOCK (R26). -/
def execPllLock (cycles : Nat) (s : State) : Reaction := .next (s.onBlock (pllLock cycles))

/-- PLL_LOCK_TIMEOUT (R26). -/
def execPllLockTimeout (s : State) : Reaction := .next (s.onBlock (pllLockTimeout))

/-- CORE_RELEASE (R75). -/
def execCoreRelease (s : State) : Reaction := .next s.coreReleased

/-- PLL_CHECK_WINDOW (R27). -/
def execPllCheckWindow (count : Nat) (unlockedNw : Nat) (s : State) : Reaction := .next (s.onBlock (pllCheckWindow count unlockedNw))

/-- PLL_LOSS (R28). -/
def execPllLoss (s : State) : Reaction := .next (s.onBlock (pllLoss))

/-- PLL_RELOCK_ATTEMPT (R28). -/
def execPllRelockAttempt (s : State) : Reaction := .next (s.onBlock (pllRelockAttempt))

/-- NW_CHECK_WINDOW (R30). -/
def execNwCheckWindow (count : Nat) (s : State) : Reaction := .next (s.onBlock (nwCheckWindow count))

/-- AVS_EVALUATE (R32). -/
def execAvsEvaluate (slacks : List Nat) (s : State) : Reaction := .next (s.onBlock (avsEvaluate slacks))

/-- AVS_SETTLE_ELAPSED (R32). -/
def execAvsSettleElapsed (s : State) : Reaction := .next (s.onBlock (avsSettleElapsed))

/-- MODE_REQUEST (R38). -/
def execModeRequest (m : Master) (w : Word) (s : State) : Reaction := .next (s.write m CRM.MODE_REQ 0 0 (CRM.MODE_REQ_GO.into w 1))

/-- MODE_TRANSITION_DONE (R453). -/
def execModeTransitionDone (s : State) : Reaction := .next (s.onBlock (modeTransitionDone))

/-- CORE_RESET_REQUEST (R47). -/
def execCoreResetRequest (m : Master) (w : Word) (s : State) : Reaction :=
  .next (s.write m CRM.RST_CTL 0 0 (CRM.RST_CTL_CORE_RST.into w 1))

/-- DORMANT_ENTRY_COMPLETE (R40). -/
def execDormantEntryComplete (s : State) : Reaction := .next (s.onBlock (dormantEntryComplete))

/-- WAKE_INPUT_CHANGE (R40). -/
def execWakeInputChange (pin : Nat) (level : Bool) (s : State) : Reaction := .next (s.within pin 4 (wakeInputChange pin level))

/-- WAKE_QUALIFIED (R40). -/
def execWakeQualified (pin : Nat) (s : State) : Reaction := .next (s.within pin 4 (wakeQualified pin))

/-- WAKE_SETTLE_ELAPSED (R40). -/
def execWakeSettleElapsed (s : State) : Reaction := .next (s.onBlock (wakeSettleElapsed))

/-- BANK_GROUP_AWAKE (R40). -/
def execBankGroupAwake (s : State) : Reaction := .next (s.onBlock (bankGroupAwake))

/-- WAKE_COMPLETE (R41). -/
def execWakeComplete (s : State) : Reaction := .next (s.onBlock (wakeComplete))

/-- TIME_STAMP_WRAP (R91). -/
def execTimeStampWrap (s : State) : Reaction := .next (s.onBlock (timeStampWrap))

end Sys2Proof.Machine
end

