-- ==== Sys2Proof/Machine/CmdEdge.lean ====
section
/-!
DEFINITION. Meanings of the constellation, leg and edge-command commands, one for each constructor of `Instr`.
-/

namespace Sys2Proof.Machine

/-- TB_START (R130). -/
def execTbStart (m : Master) (k : Nat) (w : Word) (s : State) : Reaction := .next (s.write m EGA.TB_CFG 0 k (EGA.TB_CFG_EN.into w 1))

/-- TB_FIRST_MERIDIAN (R130). -/
def execTbFirstMeridian (k : Nat) (s : State) : Reaction := .next (s.onBlock (tbFirstMeridian k))

/-- TB_STOP (R130). -/
def execTbStop (m : Master) (k : Nat) (w : Word) (s : State) : Reaction := .next (s.write m EGA.TB_CFG 0 k (EGA.TB_CFG_EN.into w 0))

/-- TB_GO (R143). -/
def execTbGo (m : Master) (k : Nat) (w : Word) (s : State) : Reaction :=
  .next (if k < 8 then s.write m EGA.TB_GO 0 k (EGA.TB_GO_GO.into w 1) else s)

/-- CONSTELLATION_TICK (R131). -/
def execConstellationTick (k : Nat) (anti : Bool) (s : State) : Reaction := .next (s.onBlock (constellationTick k anti))

/-- LEG_WINDOW_OPEN (R142). -/
def execLegWindowOpen (leg : Nat) (s : State) : Reaction := .next (s.within leg s.b.numLegs (legWindowOpen leg))

/-- LEG_COMMIT (R142). -/
def execLegCommit (leg : Nat) (anti : Bool) (s : State) : Reaction :=
  .next (s.within leg s.b.numLegs (fun b =>
    if !b.commits leg then b
    else if anti && !(b.tb (b.legTb leg)).dbl then b.legInstant leg anti
    else ((b.earlyMeridian leg anti).legInstant leg anti).undeferAxs leg))

/-- LEG_GO (R139). -/
def execLegGo (m : Master) (leg : Nat) (s : State) : Reaction := .next (s.write m LEG.LEG_UPD leg 0 (1))

/-- GROUP_GO (R141). -/
def execGroupGo (m : Master) (hi : Bool) (mask : Word) (s : State) : Reaction :=
  .next (s.write m (if hi then EGA.GROUP_GO1 else EGA.GROUP_GO0) 0 0 mask)

/-- LEG_EDGE (R135). -/
def execLegEdge (leg : Nat) (pos : Nat) (s : State) : Reaction := .next (s.within leg s.b.numLegs (legEdge leg pos))

/-- INTERLOCK_TURN_ON (R146). -/
def execInterlockTurnOn (leg : Nat) (pos : Nat) (s : State) : Reaction := .next (s.within leg s.b.numLegs (interlockTurnOn leg pos))

/-- EGA_INTERLOCK (R147). -/
def execEgaInterlock (x : LegAt) (s : State) : Reaction := .next (s.within x.leg s.b.numLegs (egaInterlock x.leg x.pos))

/-- DLL_LOCK (R136). -/
def execDllLock (g : Nat) (s : State) : Reaction := .next (s.within g 2 (dllLock g))

/-- DLL_UNLOCK (R138). -/
def execDllUnlock (g : Nat) (s : State) : Reaction := .next (s.within g 2 (dllUnlock g))

/-- DLL_CODE_UPDATE (R136). -/
def execDllCodeUpdate (g : Nat) (up : Bool) (s : State) : Reaction := .next (s.within g 2 (dllCodeUpdate g up))

/-- LEG_TRIM_MEASURE (R136). -/
def execLegTrimMeasure (leg : Nat) (trim : Int) (s : State) : Reaction := .next (s.within leg s.b.numLegs (legTrimMeasure leg trim))

/-- OVERCURRENT_TRIP (R149). -/
def execOvercurrentTrip (leg : Nat) (x : Trip) (s : State) : Reaction :=
  .next (s.within leg s.b.numLegs (overcurrentTrip leg x.current x.pos))

/-- BLANKING_END (R185). -/
def execBlankingEnd (leg : Nat) (i : Int) (pos : Nat) (s : State) : Reaction :=
  .next (s.within leg s.b.numLegs (blankingEnd leg i pos))

/-- HARD_OVERCURRENT_TRIP (R186). -/
def execHardOvercurrentTrip (x : LegTrip) (s : State) : Reaction :=
  .next (s.within x.leg s.b.numLegs (hardOvercurrentTrip x.leg x.current))

/-- FLT_N_CHANGE (R152). -/
def execFltNChange (leg : Nat) (level : Bool) (s : State) : Reaction := .next (s.within leg 64 (fltNChange leg level))

/-- LEG_DRIVER_FAULT (R152). -/
def execLegDriverFault (leg : Nat) (s : State) : Reaction := .next (s.within leg s.b.numLegs (legDriverFault leg))

/-- LEG_FAULT_RELEASE (R152). -/
def execLegFaultRelease (m : Master) (leg : Nat) (w : Word) (s : State) : Reaction :=
  .next (s.write m LEG.LEG_FLT leg 0 (LEG.LEG_FLT_RELEASE.into w 1))

/-- NODE_CROSSING (R163). -/
def execNodeCrossing (leg : Nat) (cmp : NodeCmp) (up : Bool) (t : Nat) (s : State) : Reaction :=
  .next (s.within leg s.b.numLegs (fun b => (b.nodeCross leg cmp up t).crossed b leg up t))

/-- EDGE_SENSE_WINDOW_END (R164). -/
def execEdgeSenseWindowEnd (x : LegPath) (s : State) : Reaction :=
  .next (s.within x.leg s.b.numLegs (edgeSenseWindowEnd x.leg x.path))

/-- NODE_STUCK_TIMEOUT (R166). -/
def execNodeStuckTimeout (leg : Nat) (s : State) : Reaction := .next (s.within leg s.b.numLegs (nodeStuckTimeout leg))

/-- SERVO_CLEAR (R173). -/
def execServoClear (m : Master) (leg : Nat) (w : Word) (s : State) : Reaction :=
  .next (s.write m SC.SERVO_CTL (leg / 2) (leg % 2) (SC.SERVO_CTL_CLEAR.into w 1))

end Sys2Proof.Machine
end

