-- ==== Sys2Proof/Machine/CmdFault.lean ====
section
/-!
DEFINITION. Meanings of the fault collection commands, one for each constructor of `Instr`.
-/

namespace Sys2Proof.Machine

/-- FCR_SOURCE_RAISED (R372). -/
def execFcrSourceRaised (r : Raised) (s : State) : Reaction := .next (s.onBlock (fcrSourceRaised r))

/-- SPU_LOCKSTEP (R369). -/
def execSpuLockstep (s : State) : Reaction := .next (s.onBlock (spuLockstep))

/-- SPU_WATCHDOG (R369). -/
def execSpuWatchdog (s : State) : Reaction := .next (s.onBlock (spuWatchdog))

/-- WATCHDOG_KICK (R384). -/
def execWatchdogKick (m : Master) (w : Word) (s : State) : Reaction := .next (s.write m FCR.SPU_WDOG 0 0 (FCR.SPU_WDOG_KICK.into w 1))

/-- ESC_WINDOW_EXPIRE (R375). -/
def execEscWindowExpire (src : Nat) (s : State) : Reaction := .next (s.onBlock (escWindowExpire src))

/-- SRC_COUNT_CLEAR (R375). -/
def execSrcCountClear (m : Master) (src : Nat) (w : Word) (s : State) : Reaction :=
  .next (if (srcRow src).isSome then s.write m FCR.SRC_CNT 0 src (FCR.SRC_CNT_CLR.into w 1) else s)

/-- FENCE_REQUEST (R384). -/
def execFenceRequest (m : Master) (w : Word) (s : State) : Reaction := .next (s.write m FCR.FENCE_REQ 0 0 (w))

/-- UNFENCE (R380). -/
def execUnfence (m : Master) (w : Word) (s : State) : Reaction := .next (s.write m FCR.UNFENCE 0 0 (w))

/-- UNFENCE_CHECK_DONE (R380). -/
def execUnfenceCheckDone (res : ReturnCheck) (s : State) : Reaction := .next (s.onBlock (unfenceCheckDone res))

/-- HALT_CLEAR (R381). -/
def execHaltClear (m : Master) (w : Word) (s : State) : Reaction := .next (s.write m FCR.HALT_CLR 0 0 (w))

/-- AXIS_RELEASE (R382). -/
def execAxisRelease (m : Master) (w : Word) (s : State) : Reaction := .next (s.write m FCR.AXREL 0 0 (w))

/-- FIRST_CLEAR (R373). -/
def execFirstClear (m : Master) (w : Word) (s : State) : Reaction := .next (s.write m FCR.FIRST_CLR 0 0 (w))

/-- SW_RAISE (R369). -/
def execSwRaise (m : Master) (w : Word) (s : State) : Reaction := .next (s.write m FCR.SW_RAISE 0 0 (w))

/-- DEGRADE_CLEAR (R371). -/
def execDegradeClear (m : Master) (n : Nat) (w : Word) (s : State) : Reaction :=
  .next (s.write m (if n = 0 then FCR.DEGRADE_LO else if n = 1 then FCR.DEGRADE_HI else FCR.DEGRADE_X) 0 0 w)

end Sys2Proof.Machine
end

