-- ==== Sys2Proof/Machine/CmdFeedback.lean ====
section
/-!
DEFINITION. Meanings of the position feedback and position-compare commands, one for each constructor of `Instr`.
-/

namespace Sys2Proof.Machine

/-- QUAD_COUNT (R295). -/
def execQuadCount (fb : Nat) (a : Bool) (b : Bool) (s : State) : Reaction := .next (s.within fb 24 (quadCount fb a b))

/-- INDEX_EVENT (R297). -/
def execIndexEvent (fb : Nat) (s : State) : Reaction := .next (s.within fb 24 (indexEvent fb))

/-- HALL_TRANSITION (R298). -/
def execHallTransition (fb : Nat) (h : Nat) (s : State) : Reaction := .next (s.within fb 24 (hallTransition fb h))

/-- WIRE_DISAGREE (R294). -/
def execWireDisagree (fb : Nat) (pair : Nat) (disagree : Bool) (s : State) : Reaction :=
  .next (s.within fb 24 (wireDisagree fb pair disagree))

/-- SSI_TRIGGER (R299). -/
def execSsiTrigger (fb : Nat) (s : State) : Reaction := .next (s.within fb 24 (ssiTrigger fb))

/-- SSI_READING_DONE (R300). -/
def execSsiReadingDone (fb : Nat) (frame : Nat) (s : State) : Reaction := .next (s.within fb 24 (ssiReadingDone fb frame))

/-- FB_FREE_LATCH (R302). -/
def execFbFreeLatch (fb : Nat) (s : State) : Reaction := .next (s.within fb 24 (fbFreeLatch fb))

/-- SPEED_ZERO_TIMEOUT (R302). -/
def execSpeedZeroTimeout (fb : Nat) (s : State) : Reaction := .next (s.within fb 24 (speedZeroTimeout fb))

/-- PC_TARGET_WRITE (R306). -/
def execPcTargetWrite (m : Master) (pc : Nat) (w : Word) (s : State) : Reaction := .next (s.write m PC.PC_TARGET pc 0 (w))

/-- PC_DISARM (R314). -/
def execPcDisarm (m : Master) (pc : Nat) (w : Word) (s : State) : Reaction :=
  .next (s.write m PC.PC_CTL pc 0 (PC.PC_CTL_DISARM.into w 1))

/-- PCO_PULSE_END (R308). -/
def execPcoPulseEnd (pin : Nat) (s : State) : Reaction := .next (s.within pin 8 (pcoPulseEnd pin))

/-- FB_REARM (R304). -/
def execFbRearm (m : Master) (fb : Nat) (w : Word) (s : State) : Reaction :=
  .next (s.write m FB.FB_CTL fb 0 (FB.FB_CTL_REARM.into w 1))

/-- FB_HOME_ARM (R297). -/
def execFbHomeArm (m : Master) (fb : Nat) (w : Word) (s : State) : Reaction :=
  .next (s.write m FB.FB_CTL fb 0 (FB.FB_CTL_HOME_ARM.into w 1))

end Sys2Proof.Machine
end

