-- ==== Sys2Proof/Machine/CmdFuses.lean ====
section
/-!
DEFINITION. Meanings of the fuse and boot commands, one for each constructor of `Instr`.
-/

namespace Sys2Proof.Machine

/-- OTP_READ (R64). -/
def execOtpRead (m : Master) (key : Byte) (s : State) : Reaction := .next (s.write m OTP.CMD 0 0 (otpWord 1 key 0))

/-- OTP_PROGRAM (R67). -/
def execOtpProgram (m : Master) (key : Byte) (s : State) : Reaction := .next (s.write m OTP.CMD 0 0 (otpWord 2 key 0))

/-- OTP_RESTRIKE (R68). -/
def execOtpRestrike (m : Master) (key : Byte) (s : State) : Reaction := .next (s.write m OTP.CMD 0 0 (otpWord 3 key 0))

/-- OTP_FINALISE (R70). -/
def execOtpFinalise (m : Master) (key : Byte) (force : Byte) (s : State) : Reaction :=
  .next (s.write m OTP.CMD 0 0 (otpWord 4 key force))

/-- OTP_ADVANCE (R54). -/
def execOtpAdvance (m : Master) (key : Byte) (s : State) : Reaction := .next (s.write m OTP.CMD 0 0 (otpWord 5 key 0))

/-- OTP_UNKNOWN_OP (R65). -/
def execOtpUnknownOp (m : Master) (op : Nat) (key : Byte) (s : State) : Reaction := .next (s.write m OTP.CMD 0 0 (otpWord op key 0))

/-- OTP_COMMAND_DONE (R67). -/
def execOtpCommandDone (reads : List FuseRaw) (retries : Nat) (s : State) : Reaction :=
  .next (s.onBlock (otpCommandDone reads retries))

end Sys2Proof.Machine
end

