-- ==== Sys2Proof/Machine/CmdHost.lean ====
section
/-!
DEFINITION. Meanings of the host port and register fabric commands, one for each constructor of `Instr`.
-/

namespace Sys2Proof.Machine

/-- HSP_READ (R96). -/
def execHspRead (h : HspHdr) (n : Nat) (late : List Nat) (s : State) : Reaction :=
  .next (s.frame 0x10 { h with late := late } [] n .whole)

/-- HSP_WRITE (R98). -/
def execHspWrite (h : HspHdr) (data : List Word) (s : State) : Reaction := .next (s.frame 0x20 h data data.length .whole)

/-- HSP_WRITE_MASKED (R97). -/
def execHspWriteMasked (h : HspHdr) (pairs : List (Word × Word)) (s : State) : Reaction :=
  .next (s.frame 0x24 h (pairs.flatMap (fun p => [p.1, p.2])) (2 * pairs.length) .whole)

/-- HSP_STATUS (R94). -/
def execHspStatus (h : HspHdr) (n : Nat) (s : State) : Reaction := .next (s.frame 0x30 h [] n .whole)

/-- HSP_IDENT (R94). -/
def execHspIdent (h : HspHdr) (n : Nat) (s : State) : Reaction := .next (s.frame 0x31 h [] n .whole)

/-- HSP_RING_PUSH (R101). -/
def execHspRingPush (h : HspHdr) (data : List Word) (s : State) : Reaction := .next (s.frame 0x40 h data data.length .whole)

/-- HSP_RING_POP (R101). -/
def execHspRingPop (h : HspHdr) (n : Nat) (s : State) : Reaction := .next (s.frame 0x41 h [] n .whole)

/-- DEBUG_ENTER (R426). -/
def execDebugEnter (h : HspHdr) (s : State) : Reaction := .next (s.frame 0x60 h [] 0 .whole)

/-- DEBUG_CHALLENGE (R427). -/
def execDebugChallenge (h : HspHdr) (data : List Word) (s : State) : Reaction := .next (s.frame 0x61 h data data.length .whole)

/-- HSP_BAD_COMMAND (R94). -/
def execHspBadCommand (h : HspHdr) (code : Byte) (data : List Word) (s : State) : Reaction :=
  .next (s.frame code.toNat h data data.length .whole)

/-- HSP_SHORT_FRAME (R102). -/
def execHspShortFrame (h : HspHdr) (code : Byte) (data : List Word) (inWord : Bool) (s : State) : Reaction :=
  .next (s.frame code.toNat h data data.length (.short inWord))

/-- HSP_SELECT_TIMEOUT (R103). -/
def execHspSelectTimeout (h : HspHdr) (code : Byte) (data : List Word) (inWord : Bool) (s : State) : Reaction :=
  .next (s.frame code.toNat h data data.length (.timeout inWord))

/-- COUNTER_LOW_READ (R89). -/
def execCounterLowRead (m : Master) (addr : Nat) (s : State) : Reaction := .next (s.counterRead m (addr % 2 ^ 24 / 4 * 4))

/-- PAGE_LOCK (R86). -/
def execPageLock (m : Master) (page : Nat) (w : Word) (s : State) : Reaction := .next (s.regCommand m (HDR.PAGE_LOCK.addr page 0) w)

/-- REGISTER_WRITE (R8). -/
def execRegisterWrite (m : Master) (addr : Nat) (w : Word) (s : State) : Reaction := .next (s.regCommand m addr w)

end Sys2Proof.Machine
end

