-- ==== Sys2Proof/Machine/CmdLoop.lean ====
section
/-!
DEFINITION. Meanings of the loop engine array commands, one for each constructor of `Instr`.
-/

namespace Sys2Proof.Machine

/-- LOOP_RUN_START (R231). -/
def execLoopRunStart (ctx : Nat) (s : State) : Reaction := .next (s.runStart ctx)

/-- LOOP_RUN_COMPLETE (R222). -/
def execLoopRunComplete (ctx : Nat) (r : RunResult) (s : State) : Reaction := .next ((s.runDone ctx r).onBlock Block.shlSettle)

/-- LC_SWAP (R227). -/
def execLcSwap (m : Master) (ctx : Nat) (w : Word) (s : State) : Reaction :=
  .next (s.write m LC.LC_CTL ctx 0 (LC.LC_CTL_SWAP.into w 1))

/-- LC_XFER (R240). -/
def execLcXfer (m : Master) (ctx : Nat) (w : Word) (s : State) : Reaction :=
  .next (s.write m LC.LC_CTL ctx 0 (LC.LC_CTL_XFER.into w 1))

/-- LC_RAMP_RESTART (R239). -/
def execLcRampRestart (m : Master) (ctx : Nat) (w : Word) (s : State) : Reaction :=
  .next (s.write m LC.LC_CTL ctx 0 (LC.LC_CTL_RAMP_RESTART.into w 1))

/-- CTX_SCRUB (R225). -/
def execCtxScrub (addr : Nat) (seen : Ecc) (s : State) : Reaction := .next (s.ctxScrub addr seen)

/-- STORE_SCRUB (R220). -/
def execStoreScrub (addr : Nat) (seen : Ecc) (s : State) : Reaction := .next (s.onBlock (storeScrub addr seen))

/-- COVER_PLAN_DONE (R244). -/
def execCoverPlanDone (s : State) : Reaction := .next (s.onBlock (coverPlanDone))

end Sys2Proof.Machine
end

