-- ==== Sys2Proof/Machine/CmdMemory.lean ====
section
/-!
DEFINITION. Meanings of the bank and ring commands, one for each constructor of `Instr`.
-/

namespace Sys2Proof.Machine

/-- BANK_INIT_DONE (R329). -/
def execBankInitDone (bank : Nat) (s : State) : Reaction := .next (s.bankInitDone bank)

/-- BANK_SCRUB (R340). -/
def execBankScrub (addr : Nat) (seen : Ecc) (s : State) : Reaction := .next (s.bankScrub addr seen)

/-- STRIPE_ENABLE (R333). -/
def execStripeEnable (m : Master) (w : Word) (s : State) : Reaction := .next (s.write m MEM.MEM_CTL 0 0 (w))

/-- STRIPE_RECOMPUTE_DONE (R333). -/
def execStripeRecomputeDone (stripe : Nat) (s : State) : Reaction := .next (s.stripeDone stripe)

/-- BANK_HANDOVER (R335). -/
def execBankHandover (m : Master) (bank : Nat) (w : Word) (s : State) : Reaction := .next (s.write m BK.BANK_OWN bank 0 (w))

/-- BANK_HANDOVER_TAKE_EFFECT (R335). -/
def execBankHandoverTakeEffect (bank : Nat) (s : State) : Reaction := .next (s.within bank 44 (bankHandoverEffect bank))

/-- BANK_TWILIGHT (R339). -/
def execBankTwilight (m : Master) (bank : Nat) (w : Word) (s : State) : Reaction :=
  .next (s.write m BK.BANK_PWR bank 0 (BK.BANK_PWR_TWI.into w 1))

/-- BANK_WAKE (R339). -/
def execBankWake (m : Master) (bank : Nat) (w : Word) (s : State) : Reaction :=
  .next (s.write m BK.BANK_PWR bank 0 (BK.BANK_PWR_TWI.into w 0))

/-- BANK_READY (R339). -/
def execBankReady (bank : Nat) (s : State) : Reaction := .next (s.onBlock (bankReadyEvent bank))

/-- QUARANTINE_SCRUB_DONE (R335). -/
def execQuarantineScrubDone (bank : Nat) (s : State) : Reaction := .next (s.quarantineDone bank)

/-- RG_CREATE (R344). -/
def execRgCreate (m : Master) (ring : Nat) (w : Word) (s : State) : Reaction :=
  .next (s.write m RG.RG_CTL ring 0 (RG.RG_CTL_CREATE.into w 1))

/-- RG_DESTROY (R344). -/
def execRgDestroy (m : Master) (ring : Nat) (w : Word) (s : State) : Reaction :=
  .next (s.write m RG.RG_CTL ring 0 (RG.RG_CTL_DESTROY.into (RG.RG_CTL_CREATE.into w 0) 1))

/-- RG_THAW (R349). -/
def execRgThaw (m : Master) (ring : Nat) (w : Word) (s : State) : Reaction :=
  .next (s.write m RG.RG_CTL ring 0 (RG.RG_CTL_THAW.into (RG.RG_CTL_DESTROY.into (RG.RG_CTL_CREATE.into w 0) 0) 1))

/-- SPU_RH_WRITE (R345). -/
def execSpuRhWrite (m : Master) (w : Word) (s : State) : Reaction := .next (s.write m QRE.SPU_RH 0 0 (w))

/-- SPU_RING_PUSH_WORD (R345). -/
def execSpuRingPushWord (m : Master) (w : Word) (s : State) : Reaction := .next (s.regCommand m (QRE.SPU_RDATA.addr 0 0) w)

/-- SPU_RING_POP_WORD (R345). -/
def execSpuRingPopWord (m : Master) (s : State) : Reaction :=
  .next (if s.b.readOpen m then (s.busRead m (QRE.SPU_RDATA.addr 0 0) 1).2.2.2 else s)

/-- RING_STAGED_ENTRY_WRITE (R346). -/
def execRingStagedEntryWrite (ring : Nat) (s : State) : Reaction := .next (if ring < s.b.numRings then s.stagedWrite ring else s)

/-- SPU_BANK_ACCESS (R334). -/
def execSpuBankAccess (write : Bool) (width : SpuWidth) (addr : Nat) (data : Word) (seen : Ecc) (s : State) : Reaction :=
  .next (s.spuAccess write width addr data seen)

end Sys2Proof.Machine
end

