-- ==== Sys2Proof/Machine/CmdNet.lean ====
section
/-!
DEFINITION. Meanings of the expansion port and network commands, one for each constructor of `Instr`.
-/

namespace Sys2Proof.Machine

/-- XSP_DESCRIPTOR_ARM (R112). -/
def execXspDescriptorArm (m : Master) (n : Nat) (w : Word) (s : State) : Reaction :=
  .next (s.write m XSP.XD_TRIG 0 n (XSP.XD_TRIG_EN.into w 1))

/-- XSP_EPHEMERIS_FIRE (R111). -/
def execXspEphemerisFire (n : Nat) (s : State) : Reaction := .next (s.within n 16 (xspEphemerisFire n))

/-- XSP_GO (R113). -/
def execXspGo (m : Master) (w : Word) (s : State) : Reaction := .next (s.write m XSP.GO 0 0 (XSP.GO_GO.into w 1))

/-- XSP_SW_TRANSFER_START (R113). -/
def execXspSwTransferStart (s : State) : Reaction := .next (s.onBlock (xspSwTransferStart))

/-- XSP_TRANSFER_DONE (R111). -/
def execXspTransferDone (data : List Word) (wire : XspWire) (s : State) : Reaction :=
  .next (s.onBlock (xspTransferDone wire.head data wire.crc))

/-- ETH_FRAME_RECEIVED (R118). -/
def execEthFrameReceived (f : EthFrame) (s : State) : Reaction := .next (s.onBlock (ethFrameReceived f))

/-- ETH_TRANSMIT_START (R116). -/
def execEthTransmitStart (s : State) : Reaction := .next s.ethTransmitStart

/-- ETH_TRANSMIT_DONE (R116). -/
def execEthTransmitDone (s : State) : Reaction := .next (s.onBlock (ethTransmitDone))

/-- MDIO_GO (R117). -/
def execMdioGo (m : Master) (w : Word) (s : State) : Reaction := .next (s.write m ETH.MDIO_CTL 0 0 (ETH.MDIO_CTL_GO.into w 1))

/-- MDIO_POLL (R117). -/
def execMdioPoll (s : State) : Reaction := .next (s.onBlock (mdioPoll))

/-- MDIO_FRAME_DONE (R117). -/
def execMdioFrameDone (data : BitVec 16) (s : State) : Reaction := .next (s.onBlock (mdioFrameDone data))

/-- CAN_FRAME_RECEIVED (R121). -/
def execCanFrameReceived (c : Nat) (f : CanFrame) (s : State) : Reaction := .next (s.within c 2 (canFrameReceived c f))

/-- CAN_TRANSMIT_START (R121). -/
def execCanTransmitStart (c : Nat) (s : State) : Reaction := .next (if c < 2 then s.canTransmitStart c else s)

/-- CAN_TRANSMIT_DONE (R119). -/
def execCanTransmitDone (c : Nat) (ok : Bool) (s : State) : Reaction := .next (s.within c 2 (canTransmitDone c ok))

/-- CAN_BUS_OFF_RECOVERY (R119). -/
def execCanBusOffRecovery (c : Nat) (s : State) : Reaction := .next (s.within c 2 (canBusOffRecovery c))

/-- CAN_RECOVER (R119). -/
def execCanRecover (m : Master) (c : Nat) (w : Word) (s : State) : Reaction :=
  .next (s.write m CAN.CAN_CTL c 0 (CAN.CAN_CTL_RECOVER.into w 1))

/-- CAN_BUS_ERROR (R119). -/
def execCanBusError (c : Nat) (primary : Bool) (s : State) : Reaction := .next (s.within c 2 (canBusError c primary))

/-- CAN_BUS_INTEGRATION (R380). -/
def execCanBusIntegration (c : Nat) (s : State) : Reaction := .next (s.within c 2 (canBusIntegration c))

end Sys2Proof.Machine
end

