-- ==== Sys2Proof/Machine/CmdSec.lean ====
section
/-!
DEFINITION. Meanings of the authentication, lifecycle, debug and swap commands, one for each constructor of `Instr`.
-/

namespace Sys2Proof.Machine

/-- FIRMWARE_LOAD (R423). -/
def execFirmwareLoad (header : List Word) (payload : List Word) (readOk : Bool) (s : State) : Reaction :=
  .next (s.firmwareLoad header payload readOk)

/-- FLASH_RETRY (R423). -/
def execFlashRetry (s : State) : Reaction := .next (s.onBlock (flashRetry))

/-- BOOT_LOAD (R423). -/
def execBootLoad (m : Master) (w : Word) (s : State) : Reaction := .next (s.write m SEC.BOOT_LOAD 0 0 (w))

/-- AUTH_DONE (R422). -/
def execAuthDone (s : State) : Reaction := .next s.authDone

/-- LIFECYCLE_ARM (R418). -/
def execLifecycleArm (m : Master) (w : Word) (s : State) : Reaction := .next (s.write m SEC.LC_ARM 0 0 (w))

/-- DEBUG_VERIFY_DONE (R427). -/
def execDebugVerifyDone (s : State) : Reaction := .next (s.onBlock (debugVerifyDone))

/-- CHALLENGE_EXPIRE (R427). -/
def execChallengeExpire (s : State) : Reaction := .next (s.onBlock (challengeExpire))

/-- SWAP_CHECK (R432). -/
def execSwapCheck (m : Master) (w : Word) (s : State) : Reaction := .next (s.write m SEC.SWAP_CMD 0 0 (SEC.SWAP_CMD_CHECK.into w 1))

/-- SWAP_CHECK_DONE (R432). -/
def execSwapCheckDone (s : State) : Reaction := .next s.swapCheckDone

/-- SWAP_GO (R433). -/
def execSwapGo (m : Master) (w : Word) (s : State) : Reaction :=
  .next (s.write m SEC.SWAP_CMD 0 0 (SEC.SWAP_CMD_GO.into (SEC.SWAP_CMD_CHECK.into w 0) 1))

/-- JTAG_IDCODE (R431). -/
def execJtagIdcode (s : State) : Reaction := .next (s.onBlock (fun b => b.jtagScan 0x01 b.idcode))

/-- JTAG_SAMPLE_PRELOAD (R431). -/
def execJtagSamplePreload (s : State) : Reaction := .next (s.onBlock (fun b => b.jtag 0x02))

/-- JTAG_EXTEST (R431). -/
def execJtagExtest (s : State) : Reaction := .next (s.onBlock (fun b => b.jtagPins 0x03))

/-- JTAG_CLAMP (R431). -/
def execJtagClamp (s : State) : Reaction := .next (s.onBlock (fun b => b.jtagPins 0x04))

/-- JTAG_HIGHZ (R431). -/
def execJtagHighz (s : State) : Reaction := .next (s.onBlock (fun b => b.jtagPins 0x05))

/-- JTAG_DTMCS (R431). -/
def execJtagDtmcs (s : State) : Reaction := .next (s.onBlock (fun b => b.jtagScan 0x10 dtmcsWord))

/-- JTAG_DMI (R431). -/
def execJtagDmi (write : Bool) (addr : Nat) (data : Word) (s : State) : Reaction := .next (s.dmi write addr data)

/-- JTAG_BYPASS (R431). -/
def execJtagBypass (_code : Nat) (s : State) : Reaction := .next (s.onBlock (fun b => b.jtagScan 0x1F 0))

/-- DEBUG_HALT (R425). -/
def execDebugHalt (s : State) : Reaction := .next (s.onBlock (debugHalt))

/-- DEBUG_RESUME (R425). -/
def execDebugResume (s : State) : Reaction := .next (s.onBlock (debugResume))

/-- NDMRESET (R45). -/
def execNdmreset (s : State) : Reaction := .next (s.onBlock (ndmreset))

end Sys2Proof.Machine
end

