-- ==== Sys2Proof/Machine/CmdSense.lean ====
section
/-!
DEFINITION. Meanings of the sampling commands, one for each constructor of `Instr`.
-/

namespace Sys2Proof.Machine

/-- SAMPLE_HOLD (R179). -/
def execSampleHold (axis : Nat) (anti : Bool) (s : State) : Reaction := .next (s.within axis s.b.numAxes (sampleHold axis anti))

/-- CONVERSION_DONE (R176). -/
def execConversionDone (conv : Nat) (raw : BitVec 14) (s : State) : Reaction := .next (s.onBlock (conversionDone conv raw))

/-- CONVERTER_SELFTEST (R178). -/
def execConverterSelftest (conv : Nat) (devZero : Int) (devHalf : Int) (s : State) : Reaction :=
  .next (s.onBlock (converterSelftest conv devZero devHalf))

/-- CONVERTER_SELFTEST_SKIP (R178). -/
def execConverterSelftestSkip (conv : Nat) (s : State) : Reaction := .next (s.onBlock (converterSelftestSkip conv))

/-- BUS_CONVERSION_DONE (R184). -/
def execBusConversionDone (bus : Nat) (raw : BitVec 14) (s : State) : Reaction := .next (s.within bus 8 (busConversionDone bus raw))

/-- HK_CONVERSION_DONE (R184). -/
def execHkConversionDone (ch : Nat) (raw : BitVec 12) (s : State) : Reaction := .next (s.within ch 49 (hkConversionDone ch raw))

end Sys2Proof.Machine
end

