-- ==== Sys2Proof/Machine/CmdShl.lean ====
section
/-!
DEFINITION. Meanings of the machine safety commands, one for each constructor of `Instr`.
-/

namespace Sys2Proof.Machine

/-- STO_WIRE_FILTERED (R394). -/
def execStoWireFiltered (pair : Nat) (wireB : Bool) (level : Bool) (s : State) : Reaction :=
  .next (s.onBlock (stoWireFiltered pair wireB level))

/-- STO_DISCREPANCY (R394). -/
def execStoDiscrepancy (pair : Nat) (s : State) : Reaction := .next (s.onBlock (stoDiscrepancy pair))

/-- SHL_ACK (R393). -/
def execShlAck (m : Master) (w : Word) (s : State) : Reaction := .next (s.write m SHL.SHL_ACK 0 0 (w))

/-- SS1_TIMEOUT (R395). -/
def execSs1Timeout (grp : Nat) (s : State) : Reaction := .next (s.onBlock (ss1Timeout grp))

/-- SPEED_WINDOW_END (R396). -/
def execSpeedWindowEnd (grp : Nat) (s : State) : Reaction := .next (s.onBlock (speedWindowEnd grp))

/-- SHL_COUNT (R398). -/
def execShlCount (ch : Nat) (taps : Taps) (s : State) : Reaction := .next (s.onBlock (shlCount ch taps))

/-- SHL_ENC (R399). -/
def execShlEnc (fault : TapFault) (s : State) : Reaction := .next (s.onBlock (shlEnc fault))

/-- CFB_TRANSITION_END (R401). -/
def execCfbTransitionEnd (cdr : Nat) (s : State) : Reaction := .next (s.within cdr 8 (cfbTransitionEnd cdr))

/-- SHL_CFB (R401). -/
def execShlCfb (cdr : Nat) (s : State) : Reaction := .next (s.within cdr 8 (shlCfb cdr))

/-- CDR_DROP_DELAY (R400). -/
def execCdrDropDelay (cdr : Nat) (s : State) : Reaction := .next (s.within cdr 8 (cdrDropDelay cdr))

/-- CDR_REQUEST (R400). -/
def execCdrRequest (m : Master) (w : Word) (s : State) : Reaction := .next (s.write m SHL.CDR_REQ 0 0 (w))

/-- PLL_RELEASE (R402). -/
def execPllRelease (m : Master) (w : Word) (s : State) : Reaction := .next (s.write m SHL.PLL_REL 0 0 (w))

/-- FUTRA_COPY (R405). -/
def execFutraCopy (net : FutraNet) (frame : SnoopFrame) (sampled : Bool) (s : State) : Reaction :=
  .next (s.onBlock (futraCopy net frame sampled))

/-- FUTRA_SKEW_TIMEOUT (R405). -/
def execFutraSkewTimeout (net : FutraNet) (s : State) : Reaction := .next (s.onBlock (futraSkewTimeout net))

/-- FUTRA_TIMEOUT (R406). -/
def execFutraTimeout (s : State) : Reaction := .next (s.onBlock (futraTimeout))

/-- PCH_BEAT (R407). -/
def execPchBeat (m : Master) (w : Word) (s : State) : Reaction := .next (s.write m SHL.PCH_BEAT 0 0 (w))

/-- PCH_LOST (R408). -/
def execPchLost (s : State) : Reaction := .next (s.onBlock (pchLost))

/-- PCH_REQUEST (R392). -/
def execPchRequest (m : Master) (w : Word) (s : State) : Reaction := .next (s.write m SHL.PCH_REQ 0 0 (w))

/-- PCH_CHECK_WRITE (R410). -/
def execPchCheckWrite (m : Master) (w : Word) (s : State) : Reaction := .next (s.write m SHL.PCH_CHECK 0 0 (w))

/-- SHL_CHECK_DONE (R410). -/
def execShlCheckDone (s : State) : Reaction := .next (s.onBlock (shlCheckDone))

/-- SWAP_WINDOW_TIMEOUT (R412). -/
def execSwapWindowTimeout (s : State) : Reaction := .next (s.onBlock (swapWindowTimeout))

/-- SHL_SELFCHECK (R414). -/
def execShlSelfcheck (s : State) : Reaction := .next (s.onBlock (shlSelfcheck))

/-- CFB_INPUT_CHANGE (R401). -/
def execCfbInputChange (cfb : Nat) (level : Bool) (s : State) : Reaction := .next (s.onBlock (cfbInputChange cfb level))

/-- SHL_TAPS_VALID (R414). -/
def execShlTapsValid (ch : Nat) (s : State) : Reaction := .next (s.within ch 24 (shlTapsValid ch))

end Sys2Proof.Machine
end

