-- ==== Sys2Proof/Machine/CmdTuning.lean ====
section
/-!
DEFINITION. Meanings of the tuning session commands, one for each constructor of `Instr`.
-/

namespace Sys2Proof.Machine

/-- SES_ARM (R325). -/
def execSesArm (m : Master) (ses : Nat) (w : Word) (s : State) : Reaction :=
  .next (s.write m TCU.SES_CMD 0 ses (TCU.SES_CMD_ARM.into w 1))

/-- SES_TRIG (R324). -/
def execSesTrig (m : Master) (ses : Nat) (w : Word) (s : State) : Reaction :=
  .next (s.write m TCU.SES_CMD 0 ses (TCU.SES_CMD_TRIG.into w 1))

/-- SES_STOP (R325). -/
def execSesStop (m : Master) (ses : Nat) (w : Word) (s : State) : Reaction :=
  .next (s.write m TCU.SES_CMD 0 ses (TCU.SES_CMD_STOP.into w 1))

/-- SES_CLEAR (R325). -/
def execSesClear (m : Master) (ses : Nat) (w : Word) (s : State) : Reaction :=
  .next (s.write m TCU.SES_CMD 0 ses (TCU.SES_CMD_CLEAR.into w 1))

/-- TCU_RECORD_WRITE (R323). -/
def execTcuRecordWrite (ses : Nat) (s : State) : Reaction := .next (if ses < 4 then s.recordWrite ses else s)

end Sys2Proof.Machine
end

