-- ==== Sys2Proof/Machine/Dispatch.lean ====
section
/-!
DEFINITION. The command that a step runs: one arm per constructor, each one call of the command's meaning.
-/

namespace Sys2Proof.Machine

/-- The effect of a command on everything but the queue. -/
def exec (i : Instr) (s : State) : Host.Outcome State Fault Refusal :=
  match i with
  | .porstNAssert => Sys2Proof.Machine.execPorstNAssert s
  | .porstNRelease refsel => Sys2Proof.Machine.execPorstNRelease refsel s
  | .supplyRailChange rail inRange => Sys2Proof.Machine.execSupplyRailChange rail inRange s
  | .vqpsChange inRange => Sys2Proof.Machine.execVqpsChange inRange s
  | .startupArrayReadDone => Sys2Proof.Machine.execStartupArrayReadDone s
  | .startupDigestsDone => Sys2Proof.Machine.execStartupDigestsDone s
  | .pllLock cycles => Sys2Proof.Machine.execPllLock cycles s
  | .pllLockTimeout => Sys2Proof.Machine.execPllLockTimeout s
  | .coreRelease => Sys2Proof.Machine.execCoreRelease s
  | .pllCheckWindow count unlockedNw => Sys2Proof.Machine.execPllCheckWindow count unlockedNw s
  | .pllLoss => Sys2Proof.Machine.execPllLoss s
  | .pllRelockAttempt => Sys2Proof.Machine.execPllRelockAttempt s
  | .nwCheckWindow count => Sys2Proof.Machine.execNwCheckWindow count s
  | .avsEvaluate slacks => Sys2Proof.Machine.execAvsEvaluate slacks s
  | .avsSettleElapsed => Sys2Proof.Machine.execAvsSettleElapsed s
  | .modeRequest m w => Sys2Proof.Machine.execModeRequest m w s
  | .modeTransitionDone => Sys2Proof.Machine.execModeTransitionDone s
  | .coreResetRequest m w => Sys2Proof.Machine.execCoreResetRequest m w s
  | .dormantEntryComplete => Sys2Proof.Machine.execDormantEntryComplete s
  | .wakeInputChange pin level => Sys2Proof.Machine.execWakeInputChange pin level s
  | .wakeQualified pin => Sys2Proof.Machine.execWakeQualified pin s
  | .wakeSettleElapsed => Sys2Proof.Machine.execWakeSettleElapsed s
  | .bankGroupAwake => Sys2Proof.Machine.execBankGroupAwake s
  | .wakeComplete => Sys2Proof.Machine.execWakeComplete s
  | .otpRead m key => Sys2Proof.Machine.execOtpRead m key s
  | .otpProgram m key => Sys2Proof.Machine.execOtpProgram m key s
  | .otpRestrike m key => Sys2Proof.Machine.execOtpRestrike m key s
  | .otpFinalise m key force => Sys2Proof.Machine.execOtpFinalise m key force s
  | .otpAdvance m key => Sys2Proof.Machine.execOtpAdvance m key s
  | .otpUnknownOp m op key => Sys2Proof.Machine.execOtpUnknownOp m op key s
  | .otpCommandDone reads retries => Sys2Proof.Machine.execOtpCommandDone reads retries s
  | .hspRead h n late => Sys2Proof.Machine.execHspRead h n late s
  | .hspWrite h data => Sys2Proof.Machine.execHspWrite h data s
  | .hspWriteMasked h pairs => Sys2Proof.Machine.execHspWriteMasked h pairs s
  | .hspStatus h n => Sys2Proof.Machine.execHspStatus h n s
  | .hspIdent h n => Sys2Proof.Machine.execHspIdent h n s
  | .hspRingPush h data => Sys2Proof.Machine.execHspRingPush h data s
  | .hspRingPop h n => Sys2Proof.Machine.execHspRingPop h n s
  | .debugEnter h => Sys2Proof.Machine.execDebugEnter h s
  | .debugChallenge h data => Sys2Proof.Machine.execDebugChallenge h data s
  | .hspBadCommand h code data => Sys2Proof.Machine.execHspBadCommand h code data s
  | .hspShortFrame h code data inWord => Sys2Proof.Machine.execHspShortFrame h code data inWord s
  | .hspSelectTimeout h code data inWord => Sys2Proof.Machine.execHspSelectTimeout h code data inWord s
  | .counterLowRead m addr => Sys2Proof.Machine.execCounterLowRead m addr s
  | .pageLock m page w => Sys2Proof.Machine.execPageLock m page w s
  | .registerWrite m addr w => Sys2Proof.Machine.execRegisterWrite m addr w s
  | .xspDescriptorArm m n w => Sys2Proof.Machine.execXspDescriptorArm m n w s
  | .xspEphemerisFire n => Sys2Proof.Machine.execXspEphemerisFire n s
  | .xspGo m w => Sys2Proof.Machine.execXspGo m w s
  | .xspSwTransferStart => Sys2Proof.Machine.execXspSwTransferStart s
  | .xspTransferDone data wire => Sys2Proof.Machine.execXspTransferDone data wire s
  | .firmwareLoad header payload readOk => Sys2Proof.Machine.execFirmwareLoad header payload readOk s
  | .flashRetry => Sys2Proof.Machine.execFlashRetry s
  | .bootLoad m w => Sys2Proof.Machine.execBootLoad m w s
  | .authDone => Sys2Proof.Machine.execAuthDone s
  | .ethFrameReceived f => Sys2Proof.Machine.execEthFrameReceived f s
  | .ethTransmitStart => Sys2Proof.Machine.execEthTransmitStart s
  | .ethTransmitDone => Sys2Proof.Machine.execEthTransmitDone s
  | .mdioGo m w => Sys2Proof.Machine.execMdioGo m w s
  | .mdioPoll => Sys2Proof.Machine.execMdioPoll s
  | .mdioFrameDone data => Sys2Proof.Machine.execMdioFrameDone data s
  | .canFrameReceived c f => Sys2Proof.Machine.execCanFrameReceived c f s
  | .canTransmitStart c => Sys2Proof.Machine.execCanTransmitStart c s
  | .canTransmitDone c ok => Sys2Proof.Machine.execCanTransmitDone c ok s
  | .canBusOffRecovery c => Sys2Proof.Machine.execCanBusOffRecovery c s
  | .canRecover m c w => Sys2Proof.Machine.execCanRecover m c w s
  | .tbStart m k w => Sys2Proof.Machine.execTbStart m k w s
  | .tbFirstMeridian k => Sys2Proof.Machine.execTbFirstMeridian k s
  | .tbStop m k w => Sys2Proof.Machine.execTbStop m k w s
  | .tbGo m k w => Sys2Proof.Machine.execTbGo m k w s
  | .constellationTick k anti => Sys2Proof.Machine.execConstellationTick k anti s
  | .legWindowOpen leg => Sys2Proof.Machine.execLegWindowOpen leg s
  | .legCommit leg anti => Sys2Proof.Machine.execLegCommit leg anti s
  | .legGo m leg => Sys2Proof.Machine.execLegGo m leg s
  | .groupGo m hi mask => Sys2Proof.Machine.execGroupGo m hi mask s
  | .legEdge leg pos => Sys2Proof.Machine.execLegEdge leg pos s
  | .interlockTurnOn leg pos => Sys2Proof.Machine.execInterlockTurnOn leg pos s
  | .egaInterlock x => Sys2Proof.Machine.execEgaInterlock x s
  | .dllLock g => Sys2Proof.Machine.execDllLock g s
  | .dllUnlock g => Sys2Proof.Machine.execDllUnlock g s
  | .dllCodeUpdate g up => Sys2Proof.Machine.execDllCodeUpdate g up s
  | .legTrimMeasure leg trim => Sys2Proof.Machine.execLegTrimMeasure leg trim s
  | .overcurrentTrip leg x => Sys2Proof.Machine.execOvercurrentTrip leg x s
  | .blankingEnd leg current pos => Sys2Proof.Machine.execBlankingEnd leg current pos s
  | .hardOvercurrentTrip x => Sys2Proof.Machine.execHardOvercurrentTrip x s
  | .fltNChange leg level => Sys2Proof.Machine.execFltNChange leg level s
  | .legDriverFault leg => Sys2Proof.Machine.execLegDriverFault leg s
  | .legFaultRelease m leg w => Sys2Proof.Machine.execLegFaultRelease m leg w s
  | .nodeCrossing leg cmp up t => Sys2Proof.Machine.execNodeCrossing leg cmp up t s
  | .edgeSenseWindowEnd x => Sys2Proof.Machine.execEdgeSenseWindowEnd x s
  | .nodeStuckTimeout leg => Sys2Proof.Machine.execNodeStuckTimeout leg s
  | .servoClear m leg w => Sys2Proof.Machine.execServoClear m leg w s
  | .sampleHold axis anti => Sys2Proof.Machine.execSampleHold axis anti s
  | .conversionDone conv raw => Sys2Proof.Machine.execConversionDone conv raw s
  | .converterSelftest conv devZero devHalf => Sys2Proof.Machine.execConverterSelftest conv devZero devHalf s
  | .converterSelftestSkip conv => Sys2Proof.Machine.execConverterSelftestSkip conv s
  | .busConversionDone bus raw => Sys2Proof.Machine.execBusConversionDone bus raw s
  | .hkConversionDone ch raw => Sys2Proof.Machine.execHkConversionDone ch raw s
  | .mbxCreate m mbx => Sys2Proof.Machine.execMbxCreate m mbx s
  | .mbxDestroy m mbx => Sys2Proof.Machine.execMbxDestroy m mbx s
  | .mbxReform m mbx => Sys2Proof.Machine.execMbxReform m mbx s
  | .mbxCheck m mbx => Sys2Proof.Machine.execMbxCheck m mbx s
  | .mbxBadOp m mbx op => Sys2Proof.Machine.execMbxBadOp m mbx op s
  | .mbxQueuedStart mbx => Sys2Proof.Machine.execMbxQueuedStart mbx s
  | .axisCommitMeridian axis => Sys2Proof.Machine.execAxisCommitMeridian axis s
  | .axisDestroyMeridian axis => Sys2Proof.Machine.execAxisDestroyMeridian axis s
  | .axisReformMeridian axis => Sys2Proof.Machine.execAxisReformMeridian axis s
  | .mailboxDone mbx => Sys2Proof.Machine.execMailboxDone mbx s
  | .cmdPinMeasure pin high period => Sys2Proof.Machine.execCmdPinMeasure pin high period s
  | .cmdLoss pin => Sys2Proof.Machine.execCmdLoss pin s
  | .cmdPinRecover pin => Sys2Proof.Machine.execCmdPinRecover pin s
  | .loopRunStart ctx => Sys2Proof.Machine.execLoopRunStart ctx s
  | .loopRunComplete ctx r => Sys2Proof.Machine.execLoopRunComplete ctx r s
  | .lcSwap m ctx w => Sys2Proof.Machine.execLcSwap m ctx w s
  | .lcXfer m ctx w => Sys2Proof.Machine.execLcXfer m ctx w s
  | .lcRampRestart m ctx w => Sys2Proof.Machine.execLcRampRestart m ctx w s
  | .ctxScrub addr seen => Sys2Proof.Machine.execCtxScrub addr seen s
  | .storeScrub addr seen => Sys2Proof.Machine.execStoreScrub addr seen s
  | .coverPlanDone => Sys2Proof.Machine.execCoverPlanDone s
  | .axCmdStart m axis w => Sys2Proof.Machine.execAxCmdStart m axis w s
  | .axCmdStop m axis w => Sys2Proof.Machine.execAxCmdStop m axis w s
  | .axCmdCoast m axis w => Sys2Proof.Machine.execAxCmdCoast m axis w s
  | .axCmdBrakeAsc m axis w => Sys2Proof.Machine.execAxCmdBrakeAsc m axis w s
  | .axCmdBrakeDc m axis w => Sys2Proof.Machine.execAxCmdBrakeDc m axis w s
  | .axCmdBadOp m axis w => Sys2Proof.Machine.execAxCmdBadOp m axis w s
  | .axisCommandAct axis => Sys2Proof.Machine.execAxisCommandAct axis s
  | .catchTimeout axis => Sys2Proof.Machine.execCatchTimeout axis s
  | .hfiTimeout axis => Sys2Proof.Machine.execHfiTimeout axis s
  | .alignDone axis => Sys2Proof.Machine.execAlignDone axis s
  | .relockTimeout axis => Sys2Proof.Machine.execRelockTimeout axis s
  | .rideTimeout axis => Sys2Proof.Machine.execRideTimeout axis s
  | .cfuStall axis => Sys2Proof.Machine.execCfuStall axis s
  | .dcTimeout axis => Sys2Proof.Machine.execDcTimeout axis s
  | .holdTimeout axis => Sys2Proof.Machine.execHoldTimeout axis s
  | .quadCount fb a b => Sys2Proof.Machine.execQuadCount fb a b s
  | .indexEvent fb => Sys2Proof.Machine.execIndexEvent fb s
  | .hallTransition fb h => Sys2Proof.Machine.execHallTransition fb h s
  | .wireDisagree fb pair disagree => Sys2Proof.Machine.execWireDisagree fb pair disagree s
  | .ssiTrigger fb => Sys2Proof.Machine.execSsiTrigger fb s
  | .ssiReadingDone fb frame => Sys2Proof.Machine.execSsiReadingDone fb frame s
  | .fbFreeLatch fb => Sys2Proof.Machine.execFbFreeLatch fb s
  | .speedZeroTimeout fb => Sys2Proof.Machine.execSpeedZeroTimeout fb s
  | .pcTargetWrite m pc w => Sys2Proof.Machine.execPcTargetWrite m pc w s
  | .pcDisarm m pc w => Sys2Proof.Machine.execPcDisarm m pc w s
  | .pcoPulseEnd pin => Sys2Proof.Machine.execPcoPulseEnd pin s
  | .fbRearm m fb w => Sys2Proof.Machine.execFbRearm m fb w s
  | .fbHomeArm m fb w => Sys2Proof.Machine.execFbHomeArm m fb w s
  | .sesArm m ses w => Sys2Proof.Machine.execSesArm m ses w s
  | .sesTrig m ses w => Sys2Proof.Machine.execSesTrig m ses w s
  | .sesStop m ses w => Sys2Proof.Machine.execSesStop m ses w s
  | .sesClear m ses w => Sys2Proof.Machine.execSesClear m ses w s
  | .tcuRecordWrite ses => Sys2Proof.Machine.execTcuRecordWrite ses s
  | .bankInitDone bank => Sys2Proof.Machine.execBankInitDone bank s
  | .bankScrub addr seen => Sys2Proof.Machine.execBankScrub addr seen s
  | .stripeEnable m w => Sys2Proof.Machine.execStripeEnable m w s
  | .stripeRecomputeDone stripe => Sys2Proof.Machine.execStripeRecomputeDone stripe s
  | .bankHandover m bank w => Sys2Proof.Machine.execBankHandover m bank w s
  | .bankHandoverTakeEffect bank => Sys2Proof.Machine.execBankHandoverTakeEffect bank s
  | .bankTwilight m bank w => Sys2Proof.Machine.execBankTwilight m bank w s
  | .bankWake m bank w => Sys2Proof.Machine.execBankWake m bank w s
  | .bankReady bank => Sys2Proof.Machine.execBankReady bank s
  | .quarantineScrubDone bank => Sys2Proof.Machine.execQuarantineScrubDone bank s
  | .rgCreate m ring w => Sys2Proof.Machine.execRgCreate m ring w s
  | .rgDestroy m ring w => Sys2Proof.Machine.execRgDestroy m ring w s
  | .rgThaw m ring w => Sys2Proof.Machine.execRgThaw m ring w s
  | .spuRhWrite m w => Sys2Proof.Machine.execSpuRhWrite m w s
  | .spuRingPushWord m w => Sys2Proof.Machine.execSpuRingPushWord m w s
  | .spuRingPopWord m => Sys2Proof.Machine.execSpuRingPopWord m s
  | .ringStagedEntryWrite ring => Sys2Proof.Machine.execRingStagedEntryWrite ring s
  | .fcrSourceRaised r => Sys2Proof.Machine.execFcrSourceRaised r s
  | .spuLockstep => Sys2Proof.Machine.execSpuLockstep s
  | .spuWatchdog => Sys2Proof.Machine.execSpuWatchdog s
  | .watchdogKick m w => Sys2Proof.Machine.execWatchdogKick m w s
  | .escWindowExpire src => Sys2Proof.Machine.execEscWindowExpire src s
  | .srcCountClear m src w => Sys2Proof.Machine.execSrcCountClear m src w s
  | .fenceRequest m w => Sys2Proof.Machine.execFenceRequest m w s
  | .unfence m w => Sys2Proof.Machine.execUnfence m w s
  | .unfenceCheckDone res => Sys2Proof.Machine.execUnfenceCheckDone res s
  | .haltClear m w => Sys2Proof.Machine.execHaltClear m w s
  | .axisRelease m w => Sys2Proof.Machine.execAxisRelease m w s
  | .firstClear m w => Sys2Proof.Machine.execFirstClear m w s
  | .swRaise m w => Sys2Proof.Machine.execSwRaise m w s
  | .degradeClear m n w => Sys2Proof.Machine.execDegradeClear m n w s
  | .stoWireFiltered pair wireB level => Sys2Proof.Machine.execStoWireFiltered pair wireB level s
  | .stoDiscrepancy pair => Sys2Proof.Machine.execStoDiscrepancy pair s
  | .shlAck m w => Sys2Proof.Machine.execShlAck m w s
  | .ss1Timeout grp => Sys2Proof.Machine.execSs1Timeout grp s
  | .speedWindowEnd grp => Sys2Proof.Machine.execSpeedWindowEnd grp s
  | .shlCount ch taps => Sys2Proof.Machine.execShlCount ch taps s
  | .shlEnc fault => Sys2Proof.Machine.execShlEnc fault s
  | .cfbTransitionEnd cdr => Sys2Proof.Machine.execCfbTransitionEnd cdr s
  | .shlCfb cdr => Sys2Proof.Machine.execShlCfb cdr s
  | .cdrDropDelay cdr => Sys2Proof.Machine.execCdrDropDelay cdr s
  | .cdrRequest m w => Sys2Proof.Machine.execCdrRequest m w s
  | .pllRelease m w => Sys2Proof.Machine.execPllRelease m w s
  | .futraCopy net frame sampled => Sys2Proof.Machine.execFutraCopy net frame sampled s
  | .futraSkewTimeout net => Sys2Proof.Machine.execFutraSkewTimeout net s
  | .futraTimeout => Sys2Proof.Machine.execFutraTimeout s
  | .pchBeat m w => Sys2Proof.Machine.execPchBeat m w s
  | .pchLost => Sys2Proof.Machine.execPchLost s
  | .pchRequest m w => Sys2Proof.Machine.execPchRequest m w s
  | .pchCheckWrite m w => Sys2Proof.Machine.execPchCheckWrite m w s
  | .shlCheckDone => Sys2Proof.Machine.execShlCheckDone s
  | .swapWindowTimeout => Sys2Proof.Machine.execSwapWindowTimeout s
  | .shlSelfcheck => Sys2Proof.Machine.execShlSelfcheck s
  | .lifecycleArm m w => Sys2Proof.Machine.execLifecycleArm m w s
  | .debugVerifyDone => Sys2Proof.Machine.execDebugVerifyDone s
  | .challengeExpire => Sys2Proof.Machine.execChallengeExpire s
  | .swapCheck m w => Sys2Proof.Machine.execSwapCheck m w s
  | .swapCheckDone => Sys2Proof.Machine.execSwapCheckDone s
  | .swapGo m w => Sys2Proof.Machine.execSwapGo m w s
  | .jtagIdcode => Sys2Proof.Machine.execJtagIdcode s
  | .jtagSamplePreload => Sys2Proof.Machine.execJtagSamplePreload s
  | .jtagExtest => Sys2Proof.Machine.execJtagExtest s
  | .jtagClamp => Sys2Proof.Machine.execJtagClamp s
  | .jtagHighz => Sys2Proof.Machine.execJtagHighz s
  | .jtagDtmcs => Sys2Proof.Machine.execJtagDtmcs s
  | .jtagDmi write addr data => Sys2Proof.Machine.execJtagDmi write addr data s
  | .jtagBypass code => Sys2Proof.Machine.execJtagBypass code s
  | .debugHalt => Sys2Proof.Machine.execDebugHalt s
  | .debugResume => Sys2Proof.Machine.execDebugResume s
  | .ndmreset => Sys2Proof.Machine.execNdmreset s
  | .timeStampWrap => Sys2Proof.Machine.execTimeStampWrap s
  | .cfbInputChange cfb level => Sys2Proof.Machine.execCfbInputChange cfb level s
  | .shlTapsValid ch => Sys2Proof.Machine.execShlTapsValid ch s
  | .spuBankAccess write width addr data seen => Sys2Proof.Machine.execSpuBankAccess write width addr data seen s
  | .mailboxChecksComplete mbx => Sys2Proof.Machine.execMailboxChecksComplete mbx s
  | .canBusError c primary => Sys2Proof.Machine.execCanBusError c primary s
  | .canBusIntegration c => Sys2Proof.Machine.execCanBusIntegration c s

end Sys2Proof.Machine
end

