-- ==== Sys2Proof/Machine/Balls.lean ====
section
/-!
DEFINITION. The package: the ball grid, every signal with its ball, type, pull and supply, and the supply balls (R437 to R441).
-/

namespace Sys2Proof.Machine

/-- A ball: its row index and its column, both from 1. -/
structure Ball where
  row : Nat
  col : Nat
deriving DecidableEq, Repr

/-- The row letters in order of their indices (R437). -/
def rowNames : List String :=
  ["A", "B", "C", "D", "E", "F", "G", "H", "J", "K", "L", "M", "N", "P", "T", "U", "V", "W", "Y", "AA", "AB", "AC", "AD", "AE", "AF", "AG",
   "AH", "AJ", "AK", "AL", "AM", "AN", "AP", "AT", "AU", "AV", "AW", "AY", "BA"]

/-- The regions of the grid. -/
inductive Region where
  | legs (band : Nat) | feedback | core | west | east | corner | ends
deriving DecidableEq, Repr

/-- The region of a ball (R437). -/
def Ball.region (x : Ball) : Region :=
  let mid := 4 ≤ x.col && x.col ≤ 35
  if x.row ≤ 10 then (if mid then .legs (if x.row ≤ 5 then 0 else 1) else .corner)
  else if 30 ≤ x.row then (if mid then .legs (if x.row ≤ 34 then 2 else 3) else .corner)
  else if x.row ≤ 13 || 27 ≤ x.row then (if 2 ≤ x.col && x.col ≤ 37 then .feedback else .ends)
  else if x.col ≤ 9 then .west
  else if 31 ≤ x.col then .east
  else .core

/-- The index of the first row of a band of leg ports. -/
def bandRow (band : Nat) : Nat := [1, 6, 30, 35].getD band 1

/-- The ball of a leg port: row 0 to 4 of its band, and its first or second column (R438). -/
def legBall (leg row : Nat) (second : Bool) : Ball :=
  ⟨bandRow (leg / 16) + row, 4 + 2 * (leg % 16) + (if second then 1 else 0)⟩

/-- The ball of a feedback channel: row and column 0 to 2 of its block (R439). -/
def feedbackBall (f row col : Nat) : Ball := ⟨(if f ≤ 11 then 11 else 27) + row, 2 + 3 * (f % 12) + col⟩

/-- The balls of a leg port's block that carry signals (R438). -/
inductive LegSignal where
  | ehp | ehn | elp | eln | fltN | nsp | nsn | isp | isn
deriving DecidableEq, Repr

/-- Row of the band, and whether the ball lies in the second column. -/
def LegSignal.place : LegSignal → Nat × Bool
  | .ehp => (0, false)
  | .ehn => (0, true)
  | .elp => (1, false)
  | .eln => (1, true)
  | .fltN => (2, true)
  | .nsp => (3, false)
  | .nsn => (3, true)
  | .isp => (4, false)
  | .isn => (4, true)

/-- The nine balls of a feedback channel's block (R439). -/
inductive FbSignal where
  | ap | an | h1 | bp | bn | h2 | zp | zn | h3
deriving DecidableEq, Repr

/-- Row and column of the block. -/
def FbSignal.place : FbSignal → Nat × Nat
  | .ap => (0, 0)
  | .an => (0, 1)
  | .h1 => (0, 2)
  | .bp => (1, 0)
  | .bn => (1, 1)
  | .h2 => (1, 2)
  | .zp => (2, 0)
  | .zn => (2, 1)
  | .h3 => (2, 2)

/-- The signals: those of a leg port, of a feedback channel, and those outside the patterns (R438 to R440). -/
inductive Signal where
  | leg (n : Nat) (l : LegSignal) | fb (n : Nat) (l : FbSignal)
  | hscs | hsck | hsdi | hsdo | irq (n : Nat) | xsck | xsdo | xsdi | xcs (n : Nat) | rmiiRefo | rmiiTxen | rmiiTxd (n : Nat)
  | rmiiCrsDv | rmiiRxd (n : Nat) | rmiiRxer | mdc | mdio | tck | tms | tdi | tdo | trst | vid (n : Nat) | porst | rstout | refsel | refIn
  | xin | xout | testMode | vbP (n : Nat) | vbN (n : Nat) | cmd (n : Nat) | ts (n : Nat) | hkx (n : Nat) | sto (pair : Nat) (wireB : Bool)
  | cfb (n : Nat) | cdr (n : Nat) | safe | halt | canTx (n : Nat) | canRx (n : Nat) | wake (n : Nat) | pco (n : Nat)
deriving DecidableEq, Repr

/-- The ball of a signal (R438 to R440). -/
def Signal.ball : Signal → Ball
  | .leg n l => legBall n l.place.1 l.place.2
  | .fb n l => feedbackBall n l.place.1 l.place.2
  | .hscs => ⟨14, 1⟩
  | .hsck => ⟨14, 2⟩
  | .hsdi => ⟨14, 3⟩
  | .hsdo => ⟨14, 4⟩
  | .irq n => ⟨14, 5 + n⟩
  | .xsck => ⟨15, 1⟩
  | .xsdo => ⟨15, 2⟩
  | .xsdi => ⟨15, 3⟩
  | .xcs n => if n < 6 then ⟨15, 4 + n⟩ else ⟨16, n - 5⟩
  | .rmiiRefo => ⟨16, 5⟩
  | .rmiiTxen => ⟨16, 6⟩
  | .rmiiTxd n => ⟨16, 7 + n⟩
  | .rmiiCrsDv => ⟨17, 1⟩
  | .rmiiRxd n => ⟨17, 2 + n⟩
  | .rmiiRxer => ⟨17, 4⟩
  | .mdc => ⟨17, 5⟩
  | .mdio => ⟨17, 6⟩
  | .tck => ⟨18, 1⟩
  | .tms => ⟨18, 2⟩
  | .tdi => ⟨18, 3⟩
  | .tdo => ⟨18, 4⟩
  | .trst => ⟨18, 5⟩
  | .vid n => if n < 4 then ⟨18, 6 + n⟩ else ⟨19, n - 3⟩
  | .porst => ⟨19, 3⟩
  | .rstout => ⟨19, 4⟩
  | .refsel => ⟨19, 5⟩
  | .refIn => ⟨19, 6⟩
  | .xin => ⟨19, 8⟩
  | .xout => ⟨19, 9⟩
  | .testMode => ⟨20, 1⟩
  | .vbP n => ⟨21 + n / 3, 1 + 3 * (n % 3)⟩
  | .vbN n => ⟨21 + n / 3, 2 + 3 * (n % 3)⟩
  | .cmd n => ⟨14 + n / 9, 31 + n % 9⟩
  | .ts n => ⟨17 + n / 9, 31 + n % 9⟩
  | .hkx n => ⟨19, 31 + n⟩
  | .sto p wireB => ⟨20, 31 + 2 * p + (if wireB then 1 else 0)⟩
  | .cfb n => ⟨21 + n / 9, 31 + n % 9⟩
  | .cdr n => ⟨23, 31 + n⟩
  | .safe => ⟨24, 31⟩
  | .halt => ⟨24, 32⟩
  | .canTx n => ⟨24, 33 + 2 * n⟩
  | .canRx n => ⟨24, 34 + 2 * n⟩
  | .wake n => ⟨25, 31 + n⟩
  | .pco n => ⟨26, 31 + n⟩

/-- The pull of an input at its ball (R438, R440). -/
inductive Pull where
  | up | down | none
deriving DecidableEq, Repr

/-- The pull that a signal's ball has; that of the Hall inputs is given by R445, to their rail VDDIO33. -/
def Signal.pull : Signal → Pull
  | .leg _ .fltN | .hscs | .mdio | .tms | .tdi | .canRx _ | .fb _ .h1 | .fb _ .h2 | .fb _ .h3 => .up
  | .xsdi | .rmiiCrsDv | .rmiiRxd _ | .rmiiRxer | .tck | .trst | .refIn | .testMode | .sto _ _ | .cfb _ | .wake _ => .down
  | _ => .none

/-- The rails. -/
inductive Rail where
  | vdd | vss | vdda | vddio18 | vddio33 | vqps
deriving DecidableEq, Repr

/-- The type of a ball (R438 to R440). The manual gives the balls of a feedback channel no type code: the pairs are taken as
differential inputs (R292; DEDUCED, log entry 142). The Hall balls are Schmitt inputs (R293). -/
inductive BallType where
  | input (schmitt : Bool) | output | openDrain | bidirectional | analog | analogOrSchmitt | crystal
  | differentialOutput | differentialInput | analogDifferential
deriving DecidableEq, Repr

def Signal.type : Signal → BallType
  | .leg _ .ehp | .leg _ .ehn | .leg _ .elp | .leg _ .eln => .differentialOutput
  | .leg _ .nsp | .leg _ .nsn | .leg _ .isp | .leg _ .isn => .analogDifferential
  | .fb _ .h1 | .fb _ .h2 | .fb _ .h3 => .input true
  | .fb _ _ => .differentialInput
  | .hsdo | .xsck | .xsdo | .xcs _ | .rmiiRefo | .rmiiTxen | .rmiiTxd _ | .mdc | .tdo | .vid _ | .rstout | .cdr _ | .safe | .halt | .canTx _
  | .pco _ => .output
  | .irq _ => .openDrain
  | .mdio => .bidirectional
  | .vbP _ | .vbN _ | .ts _ | .hkx _ => .analog
  | .cmd _ => .analogOrSchmitt
  | .xin | .xout => .crystal
  | .porst | .sto _ _ | .cfb _ | .wake _ => .input true
  | .leg _ .fltN | .hscs | .hsck | .hsdi | .xsdi | .rmiiCrsDv | .rmiiRxd _ | .rmiiRxer | .tck | .tms | .tdi | .trst | .refsel | .refIn
  | .testMode | .canRx _ => .input false

/-- The supply of a signal's ball (R438 to R440). -/
def Signal.supply : Signal → Rail
  | .leg _ .nsp | .leg _ .nsn | .leg _ .isp | .leg _ .isn => .vdda
  | .leg _ .fltN | .fb _ _ => .vddio33
  | .xin | .xout | .vbP _ | .vbN _ | .ts _ | .hkx _ => .vdda
  | .cmd _ | .sto _ _ | .cfb _ | .cdr _ | .safe | .halt | .canTx _ | .canRx _ | .wake _ | .pco _ => .vddio33
  | _ => .vddio18

/-- The supply balls of the two fields that lie in no pattern (R441). -/
def fieldRails : List (Rail × List Ball) :=
  [(.vss, [⟨14, 8⟩, ⟨16, 4⟩, ⟨16, 9⟩, ⟨17, 8⟩, ⟨19, 7⟩, ⟨20, 4⟩, ⟨20, 6⟩, ⟨20, 8⟩, ⟨21, 3⟩, ⟨21, 6⟩, ⟨21, 9⟩, ⟨22, 3⟩, ⟨22, 6⟩,
   ⟨22, 9⟩, ⟨23, 3⟩, ⟨23, 6⟩, ⟨16, 38⟩, ⟨18, 38⟩, ⟨19, 39⟩, ⟨20, 39⟩, ⟨22, 39⟩, ⟨23, 39⟩, ⟨24, 38⟩, ⟨25, 35⟩, ⟨25, 37⟩,
   ⟨25, 39⟩, ⟨26, 39⟩, ⟨24, 2⟩, ⟨24, 4⟩, ⟨24, 6⟩, ⟨24, 8⟩, ⟨25, 2⟩, ⟨25, 4⟩, ⟨25, 6⟩, ⟨25, 8⟩, ⟨26, 2⟩, ⟨26, 4⟩, ⟨26, 6⟩,
   ⟨26, 8⟩]),
   (.vdda, [⟨20, 5⟩, ⟨20, 7⟩, ⟨20, 9⟩, ⟨23, 7⟩, ⟨23, 8⟩, ⟨23, 9⟩, ⟨18, 39⟩, ⟨24, 1⟩, ⟨24, 3⟩, ⟨24, 5⟩, ⟨24, 7⟩, ⟨24, 9⟩, ⟨25, 1⟩,
   ⟨25, 3⟩, ⟨25, 5⟩, ⟨25, 7⟩, ⟨25, 9⟩, ⟨26, 1⟩, ⟨26, 3⟩, ⟨26, 5⟩, ⟨26, 7⟩, ⟨26, 9⟩]),
   (.vddio18, [⟨14, 7⟩, ⟨14, 9⟩, ⟨16, 3⟩, ⟨17, 7⟩, ⟨17, 9⟩]),
   (.vddio33, [⟨16, 37⟩, ⟨16, 39⟩, ⟨22, 38⟩, ⟨24, 37⟩, ⟨24, 39⟩, ⟨25, 36⟩, ⟨25, 38⟩]),
   (.vqps, [⟨20, 2⟩, ⟨20, 3⟩])]

/-- The rail that a ball is of, none for a signal's (R441). -/
def Ball.rail (x : Ball) : Option Rail :=
  match x.region with
  | .core => some (if (x.row + x.col) % 2 = 0 then .vdd else .vss)
  | .corner =>
    if x.col = 1 || x.col = 36 then some .vddio18
    else if x.col = 2 || x.col = 37 || x.col = 39 then some .vss
    else some .vddio33
  | .ends => some (if x.col = 1 then .vdda else .vss)
  | .legs band => if x.row = bandRow band + 2 && x.col % 2 = 0 then some .vss else none
  | .feedback => none
  | _ => (fieldRails.find? (fun r => r.2.contains x)).map (·.1)

end Sys2Proof.Machine
end

