-- ==== Sys2Proof/Machine/Pins.lean ====
section
/-!
DEFINITION. The output balls of the device as its state drives them (R2, R39, R43, R44, R87, R109, R116, R117, R119, R292, R308, R409), and under
the pin instructions of the test access port (R431).
-/

namespace Sys2Proof.Machine

/-- What an output ball shows: a level, high impedance, the parked common mode of an edge pair, or a clock or data that moves. -/
inductive Level where
  | low | high | hiZ | parked | moving
deriving DecidableEq, Repr

def Level.of (v : Bool) : Level := if v then .high else .low

/-! ## The pin instructions of the test access port (R431) -/

/-- EXTEST 3, CLAMP 4 or HIGHZ 5 acts: the instruction is selected, the lifecycle allows it, and the core is in reset or in BOOT. -/
def Block.pinTest (b : Block) : Option Nat :=
  if (b.coreReset || b.mode == 0) && decide (b.lcHeld ≤ 1) && decide (3 ≤ b.sec.ir) && decide (b.sec.ir ≤ 5) then some b.sec.ir else none

/-- What the ball of a boundary cell that drives shows. The cells of the edge commands, CDR0 to CDR7 and SAFE_N observe only. -/
def Block.tested (b : Block) (cell : Nat) (l : Level) : Level :=
  match b.pinTest with
  | none => l
  | some 5 => .hiZ
  | some _ => Level.of (Config.boundaryCell b.now cell)

/-! ## Edge outputs (R39, R43, R44, R128) -/

/-- The four lines of a leg's edge outputs: EHP, EHN, ELP, ELN. -/
inductive EdgeLine where
  | ehp | ehn | elp | eln
deriving DecidableEq, Repr

def EdgeLine.num : EdgeLine → Nat
  | .ehp => 0
  | .ehn => 1
  | .elp => 2
  | .eln => 3

/-- A line of a leg's edge outputs. A command is on when its P line is high. The lines of a disabled leg are not parked: they show OFF at all times
(R2, R39). -/
def Block.edgePin (b : Block) (leg : Nat) (l : EdgeLine) : Level :=
  if !b.crm.vddio18Ok then Level.of (Config.edgeLevel (4 * leg + l.num))
  else if b.crm.parked && decide (leg < b.numLegs) then .parked
  else
    let (hi, lo) := b.padOut leg
    Level.of (match l with
      | .ehp => hi
      | .ehn => !hi
      | .elp => lo
      | .eln => !lo)

/-! ## Reset, mode and safety outputs (R44, R87, R409) -/

/-- RSTOUT_N. -/
def Block.rstoutPin (b : Block) : Level := b.tested 0 (Level.of (!b.coreReset))

/-- HALT_N: low in every reset, and in HALT (R44, DEDUCED, log entry 111). -/
def Block.haltPin (b : Block) : Level := b.tested 1 (Level.of (!b.coreReset && b.mode != 4))

/-- SAFE_N; low, as in a reset, while a pin instruction acts (R431). -/
def Block.safePin (b : Block) : Level := Level.of (!b.coreReset && b.pinTest.isNone && b.safeNow)

/-- IRQ0_N, IRQ1_N: open drain. -/
def Block.irqPin (b : Block) (line : Nat) : Level :=
  b.tested (2 + line) (if b.coreReset || (b.linePages line).isEmpty then .hiZ else .low)

/-- VID0 to VID5: the code's bit; code 8 in a reset that has cleared it (R31, R44). -/
def Block.vidPin (b : Block) (i : Nat) : Level := b.tested (56 + i) (Level.of (bit (if b.coreReset then 8 else b.get CRM.AVS_STAT_VID_NOW) i))

/-- CDR0 to CDR7: high energises; off in every reset, and while a pin instruction acts (R431). -/
def Block.cdrPin (b : Block) (n : Nat) : Level := Level.of (!b.coreReset && b.pinTest.isNone && b.mapBit SHL.CDR_STAT_DRIVEN n)

/-- PCO0 to PCO7. -/
def Block.pcoPin (b : Block) (n : Nat) : Level := b.tested (8 + n) (Level.of (!b.coreReset && b.pcoLevel n))

/-- HSDO and TDO are driven inside a frame or a scan only, which are commands of their own. -/
def Block.hsdoPin (b : Block) : Level := b.tested 4 .hiZ
def Block.tdoPin (_ : Block) : Level := .hiZ

/-! ## Expansion port, networks, serial sensors -/

/-- The profile, which is the select, of the transfer that runs; a boot read takes profile 0 (R115). The reads of one load show as
one (DESIGN CHOICE, log entry 143). -/
def Block.xspProfile (b : Block) : Option Nat :=
  if b.bootReads then some 0
  else if !b.coreReset && b.on XSP.STAT_BUSY then some (b.get XSP.XD_FRAME_SEL 0 (b.get XSP.STAT_DESC)) else none

/-- XCS0 to XCS7: low for the transfer that selects. -/
def Block.xcsPin (b : Block) (n : Nat) : Level := b.tested (16 + n) (Level.of (b.xspProfile != some n))

/-- XSCK: between transfers at the idle level of profile 0 (R44; DEDUCED, log entry 111). -/
def Block.xsckPin (b : Block) : Level :=
  b.tested 24 (if b.xspProfile.isSome then .moving else Level.of (!b.coreReset && b.on XSP.PROF_CLK_CPOL 0 0))

/-- XSDO: low between transfers, as in reset (R440; DEDUCED, log entry 111). -/
def Block.xsdoPin (b : Block) : Level := b.tested 25 (if b.xspProfile.isSome then .moving else .low)

/-- NCLK runs: the PLL is locked and its dividers are released. -/
def Block.nclkRuns (b : Block) : Bool :=
  decide (b.crm.phase = .run) || decide (b.crm.phase = .wakeBanks) || decide (b.crm.phase = .locked)

/-- RMII_REFO; on a variant without the MAC its balls hold their reset state (R2). -/
def Block.rmiiRefPin (b : Block) : Level := b.tested 26 (if b.nclkRuns && b.pageExists 6 then .moving else .low)

/-- RMII_TXEN and RMII_TXD. -/
def Block.rmiiTxPin (b : Block) : Level :=
  b.tested 27 (if b.nclkRuns && b.pageExists 6 && b.eth.tx.isSome then .moving else .low)

/-- MDC, and MDIO, which a frame of the master drives. -/
def Block.mdcPin (b : Block) : Level := b.tested 28 (if !b.coreReset && b.eth.mdio.isSome then .moving else .low)
def Block.mdioPin (b : Block) : Level := b.tested 29 (if !b.coreReset && b.eth.mdio.isSome then .moving else .hiZ)

/-- CAN0_TX, CAN1_TX: recessive between frames. -/
def Block.canTxPin (b : Block) (c : Nat) : Level :=
  b.tested (30 + c) (if !b.coreReset && (b.can c).tx.isSome then .moving else .high)

/-- A ball of a feedback channel: in mode SSI its A pair drives the clock, idle high, as it does in every reset; every other ball is an input
(R44, R292, R439). -/
def Block.fbPin (b : Block) (f : Nat) (l : FbSignal) : Level :=
  let idle : Level := match l with
    | .ap => .high
    | .an => .low
    | _ => .hiZ
  if idle == .hiZ then .hiZ
  else b.tested (32 + f) (if b.coreReset then idle else if b.fbMode f != 4 then .hiZ else if (b.fb f).busy then .moving else idle)

/-- The oscillator on XIN and XOUT: off until PORST_N is released, and where REFSEL has selected REF_IN (R24, R440; DEDUCED, log entry 142). -/
def Block.oscillatorRuns (b : Block) : Bool := !b.crm.porstLow && b.crm.vddaOk && !b.crm.refIn

end Sys2Proof.Machine
end

