-- ==== Sys2Proof/Safety.lean ====
section
/-!
DEFINITION. The terms in which claims about the block are stated: the canonical forms, the pages that take writes, and what a command
left as it was.
-/

namespace Sys2Proof.Machine

/-- The memory is in its canonical form: addresses strictly rising, and no entry equal to what an unlisted address reads as. -/
def Memory.wf (t : List Host.Cell) : Bool := Tab.wf 0 t

/-- The two commands of no leg are on together (R146, R147). -/
def Block.exclusive (b : Block) : Prop := ∀ leg, ¬ ((b.leg leg).hi = true ∧ (b.leg leg).lo = true)

/-- The register table is in its canonical form: addresses strictly rising. -/
def Block.regsRising (b : Block) : Prop := (b.regs.map Prod.fst).Pairwise (· < ·)

/-- A page that takes writes: it exists and is not fenced (R82, R85). -/
def Block.openPage (b : Block) (p : Nat) : Bool := b.pageExists p && !b.fenced p

/-- A master may write the register page `p` now: the fabric is open to it, and the page takes writes. -/
def State.writable (s : State) (m : Master) (p : Nat) : Bool := s.b.busOpen m && s.b.openPage p

/-- What a command left: memory and queue, every register outside the addresses of `l`, and everything of the block that `hide` shows. -/
def SameBut (l : List Nat) (hide : Block → Block) (s t : State) : Prop :=
  t.mem = s.mem ∧ t.pending = s.pending ∧ (∀ r i j, r.addr i j ∉ l → t.b.rd r i j = s.b.rd r i j) ∧ hide t.b = hide s.b

/-- The block with its registers hidden. -/
def Block.noRegs (b : Block) : Block := { b with regs := [] }

/-- Nothing but the registers at the addresses of `l` changed. -/
def OnlyRegs (l : List Nat) (s t : State) : Prop := SameBut l Block.noRegs s t

end Sys2Proof.Machine
end

