-- ==== Sys2Proof/Certificates/Slice0/Obligations.lean ====
section
/-!
DEFINITION. The statements for the provers about the commands of the TM6464, and about the block as a whole.
-/

open Sys2Proof Sys2Proof.Machine

/-- A step takes the command at the front of the queue and runs it with the queue's rest. -/
def Obligations.StepRunsFront : Prop :=
  ∀ (c : Instr) (rest : List Instr) (s : State), step { s with pending := c :: rest } = exec c { s with pending := rest }

/-- No command stops the block, and none touches the queue of commands that wait. -/
def Obligations.EveryCommandAnswers : Prop :=
  ∀ (c : Instr) (s : State), ∃ t, exec c s = .next t ∧ t.pending = s.pending

/-- A step on an empty queue is one tick of LCLK: with no source on the wires and short of the counter's wrap the time-stamp counts, only while
the core runs, and the SPU executes where nothing holds it, which leaves its registers open and may halt it at a trigger; nothing else
changes (the model's choice, log entries 1 and 11). -/
def Obligations.IdleTick : Prop :=
  ∀ s : State, s.pending = [] → s.b.wires = [] → s.b.ts ≠ BitVec.allOnes 64 →
    (s.b.spuRuns = false →
      step s = .next { s with b := { s.b with ts := if s.b.running then s.b.ts + 1 else s.b.ts } }) ∧
    (s.b.spuRuns = true →
      ∃ t, step s = .next t ∧ t.b.ts = s.b.ts + 1 ∧ t.b.spu.ran = some s.b.free ∧ t.b.spu.regs = [] ∧
        (s.b.get SEC.SEC_STAT_LEVEL ≠ 2 → t.b.regs = s.b.regs) ∧
        SameBut [SEC.SEC_STAT.addr 0 0] (fun b => { b.noRegs with ts := 0, free := 0, spu := {} }) s t)

/-- The commands whose effect reaches the memory windows. -/
def touchesMemory : Instr → Bool
  | .coreRelease | .hspWrite .. | .hspWriteMasked .. | .hspRingPush .. | .hspBadCommand .. | .hspShortFrame .. | .hspSelectTimeout ..
  | .hspRead .. | .hspRingPop .. | .counterLowRead .. | .pageLock .. | .registerWrite .. | .firmwareLoad .. | .authDone | .ethTransmitStart | .canTransmitStart _
  | .axisDestroyMeridian _ | .loopRunStart _ | .loopRunComplete .. | .ctxScrub .. | .tcuRecordWrite _ | .bankInitDone _ | .bankScrub ..
  | .stripeRecomputeDone _ | .quarantineScrubDone _ | .spuRingPushWord .. | .spuRingPopWord _ | .ringStagedEntryWrite _
  | .swapCheckDone | .jtagDmi .. | .spuBankAccess .. => true
  | _ => false

/-- Every other command leaves every byte of memory as it was. -/
def Obligations.MemoryFrame : Prop :=
  ∀ (c : Instr) (s : State), touchesMemory c = false →
    ∃ t, exec c s = .next t ∧ ∀ a, memByte t.mem a = memByte s.mem a

/-- Every step keeps the memory in its canonical form, whatever the command. -/
def Obligations.StepKeepsMemoryForm : Prop :=
  ∀ s t : State, Memory.wf s.mem = true → step s = .next t → Memory.wf t.mem = true

/-- Every step keeps the two commands of each leg from being on together, whatever the command, so that no pad drives both switches of a leg
(R146, R147). -/
def Obligations.StepKeepsLegsExclusive : Prop :=
  ∀ s t : State, s.b.exclusive → step s = .next t → t.b.exclusive ∧ ∀ leg, t.b.padOut leg ≠ (true, true)

/-- Every step keeps the addresses of the register table strictly rising, so that each register has at most one word in it. The table is the
model's form of the registers (log entry 89). -/
def Obligations.StepKeepsRegisterForm : Prop :=
  ∀ s t : State, s.b.regsRising → step s = .next t → t.b.regsRising

/-- Right after reset (PORST_N low) the queue is empty, memory lists nothing and is in its canonical form, every register stands at its reset
value, the core does not run, the mode is BOOT, every group of machine safety is in STO, and the invariants of a step hold. -/
def Obligations.ResetState : Prop :=
  State.reset.pending = [] ∧ Memory.wf State.reset.mem = true ∧ (∀ a, memByte State.reset.mem a = 0) ∧
    (∀ r i j, State.reset.b.rd r i j = r.resetW i j) ∧ State.reset.b.running = false ∧ State.reset.b.mode = 0 ∧ State.reset.b.ts = 0 ∧
    (∀ g, g < 8 → State.reset.b.grp g = 0) ∧ State.reset.b.wires = [] ∧
    State.reset.b.exclusive ∧ State.reset.b.regsRising

/-- PORST_N and a supply out of range put every register at its reset value and hold the block; their return starts start-up; VQPS only
gates programming (R43, R44, R65, R75). What the lock of the PLL, its timeout, the checks of its frequency and of the nightwatch, and the
settling of the core voltage do (R26 to R28, R30, R32). One evaluation of the slack monitors: the least slack and its monitor are recorded.
VID rises by one code where the least slack is under SLACK_LO and VID under its bound; it falls by one code at the 64th evaluation in a row
above SLACK_HI, and neither moves while a change settles. A least slack under 4 fine steps raises AVS_CRITICAL, one under SLACK_LO with VID
at its bound AVS_LIMIT (R32, R33). That every change starts the count again, and that evaluations during SETTLE count, is the model's
choice, log entry 127. The time-stamp wraps at its end, and the sticky TS_WRAP records it (R9, R91). -/
def Obligations.ClocksAndPins : Prop :=
  (∀ s : State,
     (∃ t, exec .porstNAssert s = .next t ∧ (∀ r i j, t.b.rd r i j = r.resetW i j) ∧ t.b.ts = 0 ∧ t.b.crm.phase = .held ∧
       t.b.crm.porstLow = true ∧ t.b.wires = [] ∧ t.mem = s.mem ∧ t.pending = s.pending) ∧
     (∀ refsel, s.b.crm.porstLow = true → s.b.crm.vddOk = true → s.b.crm.vddaOk = true → s.b.crm.vddio18Ok = true →
       ∃ t, exec (.porstNRelease refsel) s = .next t ∧ t.b.crm.phase = .arrayRead ∧ t.b.crm.porstLow = false ∧ t.b.crm.refIn = refsel ∧
         t.mem = s.mem) ∧
     (∀ rail, rail ≠ .vddio33 → s.b.crm.phase ≠ .held →
       ∃ t, exec (.supplyRailChange rail false) s = .next t ∧ (∀ r i j, t.b.rd r i j = r.resetW i j) ∧ t.b.crm.phase = .held ∧
         t.mem = s.mem) ∧
     (∀ ok, s.b.otp.run = none →
       exec (.vqpsChange ok) s = .next { s with b := { s.b with crm := { s.b.crm with vqpsOk := ok } } })) ∧
  (∀ s : State,
     (∀ cycles, s.b.crm.phase = .pllWait → cycles ≤ 4000 →
       ∃ t, exec (.pllLock cycles) s = .next t ∧ t.b.on CRM.CLK_STAT_PLL_LOCK = true ∧ t.b.get CRM.LOCK_TIME_LAST = cycles ∧
         t.b.crm.phase = .locked ∧
         SameBut [CRM.CLK_STAT.addr 0 0, CRM.LOCK_TIME.addr 0 0, OTP.BOOT_STATUS.addr 0 0]
           (fun b => { b.noRegs with crm := { b.crm with phase := .held } }) s t) ∧
     (s.b.crm.phase = .pllWait →
       ∃ t, exec .pllLockTimeout s = .next t ∧ t.b.get ⟨OTP.BOOT_STATUS, 4, 8⟩ = 8 ∧ t.b.crm.phase = .bootHold ∧
         SameBut [OTP.BOOT_STATUS.addr 0 0] (fun b => { b.noRegs with crm := { b.crm with phase := .held } }) s t) ∧
     (s.b.crm.phase = .lossWait →
       exec .pllRelockAttempt s = .next { s with b := { s.b with crm := { s.b.crm with phase := .relock } } }) ∧
     (∀ count nw, s.b.crm.phase = .run → nw ≤ 2 → (12 ≤ count ∧ count ≤ 20 ∨ s.b.crm.pllBad = false) →
       exec (.pllCheckWindow count nw) s =
         .next { s with b := { s.b with crm := { s.b.crm with pllBad := decide (count < 12) || decide (20 < count) } } }) ∧
     (∀ count, s.b.running = true → 148 ≤ count → count ≤ 180 →
       ∃ t, exec (.nwCheckWindow count) s = .next t ∧ t.b.on CRM.CLK_STAT_NW_OK = true ∧ t.b.crm.nwBad = false ∧ t.b.crm.nwFault = false ∧
         SameBut [CRM.CLK_STAT.addr 0 0] (fun b => { b.noRegs with crm := { b.crm with nwBad := false, nwFault := false } }) s t) ∧
     (∀ count, s.b.running = true → s.b.crm.nwBad = true → (count < 148 ∨ 180 < count) →
       ∃ t, exec (.nwCheckWindow count) s = .next t ∧ t.b.on CRM.CLK_STAT_NW_OK = false ∧ t.b.on CRM.CLK_STAT_NW_FAULT = true ∧
         t.b.crm.nwFault = true) ∧
     (exec .avsSettleElapsed s = .next { s with b := { s.b with crm := { s.b.crm with avsSettling := false } } })) ∧
  (∀ (s : State) (x : Nat) (xs : List Nat) (n : Nat), s.b.running = true → s.b.on CRM.AVS_CFG_EN = true → xs.length < 16 → n = xs.foldl min x →
     (4 ≤ n → s.b.crm.avsSettling = false → n < s.b.get CRM.AVS_SLACK_SLACK_LO → s.b.get CRM.AVS_CFG_VID_MIN ≤ s.b.get CRM.AVS_STAT_VID_NOW →
       s.b.get CRM.AVS_STAT_VID_NOW < s.b.get CRM.AVS_CFG_VID_MAX →
       ∃ t, exec (.avsEvaluate (x :: xs)) s = .next t ∧ t.b.get CRM.AVS_STAT_VID_NOW = s.b.get CRM.AVS_STAT_VID_NOW + 1 ∧
         t.b.get CRM.AVS_STAT_SLACK_MIN = min 255 n ∧ t.b.get CRM.AVS_STAT_MON_WORST = (x :: xs).idxOf n ∧
         t.b.crm.avsSettling = true ∧
         SameBut [CRM.AVS_STAT.addr 0 0] (fun b => { b.noRegs with crm := { b.crm with avsSettling := false, avsHigh := 0, avsLow := false } })
           s t) ∧
     (4 ≤ n → s.b.get CRM.AVS_SLACK_SLACK_LO ≤ n → s.b.get CRM.AVS_SLACK_SLACK_HI < n →
       (s.b.crm.avsSettling = true ∨ s.b.crm.avsHigh + 1 < 64 ∨ s.b.get CRM.AVS_STAT_VID_NOW ≤ s.b.get CRM.AVS_CFG_VID_MIN →
         ∃ t, exec (.avsEvaluate (x :: xs)) s = .next t ∧ t.b.get CRM.AVS_STAT_VID_NOW = s.b.get CRM.AVS_STAT_VID_NOW ∧
           t.b.crm = { s.b.crm with avsHigh := s.b.crm.avsHigh + 1, avsLow := false } ∧
           SameBut [CRM.AVS_STAT.addr 0 0] (fun b => { b.noRegs with crm := {} }) s t) ∧
       (s.b.crm.avsSettling = false → 64 ≤ s.b.crm.avsHigh + 1 → s.b.get CRM.AVS_CFG_VID_MIN < s.b.get CRM.AVS_STAT_VID_NOW →
         ∃ t, exec (.avsEvaluate (x :: xs)) s = .next t ∧ t.b.get CRM.AVS_STAT_VID_NOW = s.b.get CRM.AVS_STAT_VID_NOW - 1 ∧
           t.b.crm = { s.b.crm with avsSettling := true, avsHigh := 0, avsLow := false } ∧
           SameBut [CRM.AVS_STAT.addr 0 0] (fun b => { b.noRegs with crm := {} }) s t)) ∧
     (s.b.mode ≠ 5 → s.b.fenced 1 = false →
       (n < 4 → ∃ t, exec (.avsEvaluate (x :: xs)) s = .next t ∧ ⟨0x03, 1, 0x1000, 7, 0⟩ ∈ t.b.wires ∧ t.b.crm.avsLow = true ∧
         SameBut [CRM.AVS_STAT.addr 0 0] (fun b => { b.noRegs with crm := {}, wires := [] }) s t) ∧
       (n < s.b.get CRM.AVS_SLACK_SLACK_LO → s.b.get CRM.AVS_STAT_VID_NOW = s.b.get CRM.AVS_CFG_VID_MAX →
         ∃ t, exec (.avsEvaluate (x :: xs)) s = .next t ∧ ⟨0x02, 1, 0x1000, 7, 0⟩ ∈ t.b.wires ∧
           (n ≤ s.b.get CRM.AVS_SLACK_SLACK_HI → t.b.get CRM.AVS_STAT_VID_NOW = s.b.get CRM.AVS_STAT_VID_NOW) ∧
           SameBut [CRM.AVS_STAT.addr 0 0] (fun b => { b.noRegs with crm := {}, wires := [] }) s t))) ∧
  (∀ s : State, s.b.running = true →
     ∃ t, exec .timeStampWrap s = .next t ∧ t.b.ts = 0 ∧ t.b.on CRM.TS_STAT_TS_WRAP = true ∧
       SameBut [CRM.TS_STAT.addr 0 0] (fun b => { b.noRegs with ts := 0 }) s t)

/-- The pairs of present mode and requested mode that the table of R38 does not reject as such. -/
def modePairs : List (Nat × Nat) := [(1, 2), (1, 4), (1, 5), (2, 1), (2, 4), (3, 1), (3, 4), (4, 2), (4, 1), (4, 5)]

/-- A mode request that R38 allows changes the mode at once and leaves BUSY until the transition is done: HALT from COMMISSION, RUN and
LIMP; COMMISSION from HALT with no cause pending and from RUN and LIMP with no leg energised; RUN, which is LIMP while a unit is fenced or a
DEGRADE bit set, from COMMISSION and HALT once safety is confirmed; DORMANT, which parks the edges, holds the legs OFF, ends debug, lowers
VID and puts the banks to sleep, after the checks of R39. Every other request is answered with its code and changes no mode (R37 to R39,
R47, R453; that CUR changes at the acceptance, and that a rejected request changes MODE_REQ and MODE_RESULT alone, are the model's choices,
log entries 37 and 38). A mode request while a transition runs is answered BUSY and changes no mode (R38, R47; that a rejected request
changes MODE_REQ and MODE_RESULT alone and is no refusal of the page is the model's choice, log entries 37 and 38). -/
def Obligations.ModeRequests : Prop :=
  (∀ (s : State) (m : Master) (w : Word) (t5 : Bool), s.writable m 1 = true → s.b.on CRM.MODE_BUSY = false →
     t5 = ((s.b.mode == 1 || (s.b.mode == 4 && !s.b.on FCR.HALT_CAUSE_PENDING)) && CRM.MODE_REQ_TARGET.of w == 5) →
     (((s.b.mode = 1 ∨ s.b.mode = 2 ∨ s.b.mode = 3) ∧ CRM.MODE_REQ_TARGET.of w = 4) ∨
         (s.b.mode = 4 ∧ CRM.MODE_REQ_TARGET.of w = 1 ∧ s.b.on FCR.HALT_CAUSE_PENDING = false) ∨
         ((s.b.mode = 2 ∨ s.b.mode = 3) ∧ CRM.MODE_REQ_TARGET.of w = 1 ∧ s.b.energised = false) →
       ∃ t, exec (.modeRequest m w) s = .next t ∧ t.b.mode = CRM.MODE_REQ_TARGET.of w ∧ t.b.get CRM.MODE_PREV = s.b.mode ∧
         t.b.on CRM.MODE_BUSY = true ∧ t.b.get CRM.MODE_RESULT_CODE = 0 ∧ t.b.get CRM.MODE_RESULT_TARGET = CRM.MODE_REQ_TARGET.of w ∧
         t.mem = s.mem ∧ t.pending = s.pending ∧ t.b.ts = s.b.ts) ∧
     (s.b.mode = 1 ∨ (s.b.mode = 4 ∧ s.b.on FCR.HALT_CAUSE_PENDING = false) → CRM.MODE_REQ_TARGET.of w = 2 → s.b.on SHL.SHL_STAT_CONFIRMED = true →
       ∃ t, exec (.modeRequest m w) s = .next t ∧
         t.b.mode = (if s.b.fencedUnits = [] ∧ s.b.degraded = false then 2 else 3) ∧ t.b.get CRM.MODE_PREV = s.b.mode ∧
         t.b.on CRM.MODE_BUSY = true ∧ t.b.get CRM.MODE_RESULT_CODE = 0 ∧ t.b.get CRM.MODE_RESULT_TARGET = 2 ∧ t.mem = s.mem ∧ t.b.ts = s.b.ts) ∧
     (t5 = true → s.b.energised = false → s.b.get CRM.WAKE_CFG_EN ≠ 0 → s.b.cfuBusy = false →
       ∃ t, exec (.modeRequest m w) s = .next t ∧ t.b.mode = 5 ∧ t.b.get CRM.MODE_PREV = s.b.mode ∧ t.b.crm.dormantFrom = s.b.mode ∧
         t.b.crm.phase = .dormantEntry ∧ t.b.crm.parked = true ∧ t.b.shl.hold = true ∧ t.b.get SEC.SEC_STAT_LEVEL = 0 ∧
         t.b.get CRM.AVS_STAT_VID_NOW = s.b.get CRM.AVS_CFG_VID_MIN ∧
         (∀ n, n < 32 → s.b.bankPwr n ≠ 4 → t.b.bankPwr n = if s.b.mapBit CRM.KEEP0_BK n then 1 else 3) ∧
         (∀ n, n < 8 → s.b.bankPwr (32 + n) ≠ 4 → t.b.bankPwr (32 + n) = if s.b.mapBit CRM.KEEP1_BK n then 1 else 3) ∧
         (∀ n, n < 4 → s.b.bankPwr (40 + n) ≠ 4 → t.b.bankPwr (40 + n) = if s.b.mapBit CRM.KEEP1_DP n then 1 else 3) ∧
         t.b.get CRM.MODE_RESULT_CODE = 0 ∧ t.mem = s.mem ∧ t.pending = s.pending) ∧
     (∀ code, (code = 1 ∧ (s.b.mode, CRM.MODE_REQ_TARGET.of w) ∉ modePairs) ∨
         (code = 2 ∧ (s.b.mode = 1 ∨ (s.b.mode = 4 ∧ s.b.on FCR.HALT_CAUSE_PENDING = false)) ∧ CRM.MODE_REQ_TARGET.of w = 2 ∧
           s.b.on SHL.SHL_STAT_CONFIRMED = false) ∨
         (code = 3 ∧ s.b.energised = true ∧ (t5 = true ∨ ((s.b.mode = 2 ∨ s.b.mode = 3) ∧ CRM.MODE_REQ_TARGET.of w = 1))) ∨
         (code = 4 ∧ s.b.mode = 4 ∧ s.b.on FCR.HALT_CAUSE_PENDING = true ∧
           (CRM.MODE_REQ_TARGET.of w = 1 ∨ CRM.MODE_REQ_TARGET.of w = 2 ∨ CRM.MODE_REQ_TARGET.of w = 5)) ∨
         (code = 5 ∧ t5 = true ∧ s.b.energised = false ∧ s.b.get CRM.WAKE_CFG_EN ≠ 0 ∧ s.b.cfuBusy = true) ∨
         (code = 6 ∧ t5 = true ∧ s.b.energised = false ∧ s.b.get CRM.WAKE_CFG_EN = 0) →
       ∃ t, exec (.modeRequest m w) s = .next t ∧ t.b.get CRM.MODE_RESULT_CODE = code ∧
         t.b.get CRM.MODE_RESULT_TARGET = CRM.MODE_REQ_TARGET.of w ∧ OnlyRegs [CRM.MODE_REQ.addr 0 0, CRM.MODE_RESULT.addr 0 0] s t)) ∧
  (∀ (s : State) (m : Master) (w : Word), s.writable m 1 = true → s.b.on CRM.MODE_BUSY = true →
     ∃ t, exec (.modeRequest m w) s = .next t ∧ t.b.get CRM.MODE_RESULT_CODE = 5 ∧
       OnlyRegs [CRM.MODE_REQ.addr 0 0, CRM.MODE_RESULT.addr 0 0] s t)

/-- The end of a transition clears BUSY; the reset of the core by software starts start-up anew with CORE_RST recorded; the timers and
steps of DORMANT and of the wake (R39 to R41, R45, R47, R453). -/
def Obligations.ModeSteps : Prop :=
  ∀ s : State,
    (s.b.running = true → s.b.mode = 1 → s.b.crm.haltReq = false →
      ∃ t, exec .modeTransitionDone s = .next t ∧ t.b.on CRM.MODE_BUSY = false ∧ OnlyRegs [CRM.MODE.addr 0 0] s t) ∧
    (∀ m w, s.writable m 1 = true → CRM.RST_CTL_KEY.of w = 0x5A → (s.b.mode = 1 ∨ s.b.mode = 4) → s.b.energised = false →
      ∃ t, exec (.coreResetRequest m w) s = .next t ∧ t.b.crm.phase = .arrayRead ∧ t.b.rd CRM.RST_CAUSE = 4 ∧ t.b.mode = 0 ∧
        t.mem = s.mem ∧ t.pending = s.pending) ∧
    (s.b.crm.phase = .dormantEntry → s.b.crm.wakeSeen = false →
      ∃ t, exec .dormantEntryComplete s = .next t ∧ t.b.crm.phase = .dormant ∧ t.b.on CRM.MODE_BUSY = false ∧
        SameBut [CRM.MODE.addr 0 0] (fun b => { b.noRegs with crm := { b.crm with phase := .held } }) s t) ∧
    (∀ pin level, pin < 4 → bit s.b.crm.wakeLevel pin ≠ level →
      ∃ t, exec (.wakeInputChange pin level) s = .next t ∧ bit t.b.crm.wakeLevel pin = level ∧
        SameBut [] (fun b => { b with crm := { b.crm with wakeLevel := 0, wakePre := 0, wakeQual := 0 } }) s t) ∧
    (∀ pin, pin < 4 → s.b.crm.phase = .dormant → bit s.b.crm.wakeQual pin = true → bit s.b.crm.wakePre pin = false →
      ∃ t, exec (.wakeQualified pin) s = .next t ∧ t.b.crm.phase = .wakeSettle ∧ t.b.mapBit CRM.WAKE_STAT_SRC pin = true ∧
        t.b.crm.parked = false ∧ t.b.get CRM.AVS_STAT_VID_NOW = s.b.crm.vidSaved % 32) ∧
    (s.b.crm.phase = .wakeSettle → exec .wakeSettleElapsed s = .next { s with b := { s.b with crm := { s.b.crm with phase := .wakePll } } }) ∧
    (∀ g rest, s.b.crm.phase = .wakeBanks → s.b.crm.wakeGroups = g :: rest →
      ∃ t, exec .bankGroupAwake s = .next t ∧ t.b.crm.wakeGroups = rest ∧
        (∀ n, n < 44 → n ∈ g → s.b.on BK.BANK_PWR_TWI n = false → t.b.bankPwr n = 0 ∧ t.b.bankReady n = true) ∧
        (∀ n, n < 44 → n ∉ g → t.b.bankPwr n = s.b.bankPwr n)) ∧
    (s.b.crm.phase = .wakeBanks → s.b.crm.wakeGroups = [] →
      ∃ t, exec .wakeComplete s = .next t ∧ t.b.crm.phase = .run ∧ t.b.mode = s.b.crm.dormantFrom % 8 ∧ t.b.get CRM.MODE_PREV = 5)

/-- Starting, running and stopping a constellation (R130, R131, R158; that MCOUNT is 1 and TB_SCNT 0 at the first meridian is the model's
reading, log entry 63). An accepted TB_GO seals the shadow period; in the window before a meridian it takes the pending latch (R143, R145;
when that window is open, and that the freshness found in it is kept, are the model's readings, log entries 61 and 107). -/
def Obligations.Constellations : Prop :=
  (∀ (s : State) (k : Nat), k < 8 →
     (∀ m w, s.writable m 0xF = true → s.b.on EGA.TB_CFG_EN 0 k = false → EGA.TB_CFG_SYNC.of w = 0 → s.b.tbInUse k = false →
       s.b.xspAllows k (s.b.rd EGA.TB_PERIOD 0 k).toNat = true →
       ∃ t, exec (.tbStart m k w) s = .next t ∧ t.b.on EGA.TB_STAT_RUN 0 k = true ∧ t.b.on EGA.TB_CFG_EN 0 k = true ∧
         (t.b.tb k).starting = true ∧ t.b.rd EGA.TB_PERIOD_ACT 0 k = s.b.rd EGA.TB_PERIOD 0 k ∧ t.mem = s.mem) ∧
     (s.b.running = true → s.b.on EGA.TB_STAT_RUN 0 k = true → (s.b.tb k).starting = true → (s.b.tb k).wasRunning = false →
       ∃ t, exec (.tbFirstMeridian k) s = .next t ∧ (t.b.tb k).starting = false ∧ t.b.get EGA.TB_MCOUNT_COUNT 0 k = 1 ∧
         t.b.rd EGA.TB_MTS_LO 0 k = BitVec.ofNat 32 s.b.now ∧ t.b.rd EGA.TB_MTS_HI 0 k = BitVec.ofNat 32 (s.b.now / 2 ^ 32) ∧
         t.b.rd LEA.TB_SCNT 0 k = 0 ∧
         SameBut [EGA.TB_MCOUNT.addr 0 k, EGA.TB_MTS_LO.addr 0 k, EGA.TB_MTS_HI.addr 0 k, LEA.TB_SCNT.addr 0 k]
           (fun b => { b.noRegs with tbs := [] }) s t) ∧
     (∀ m w, s.writable m 0xF = true → s.b.on EGA.TB_CFG_EN 0 k = true → s.b.tbInUse k = false → s.b.xspHolds k = false →
       EGA.TB_CFG_SYNC.of w < 9 →
       ∃ t, exec (.tbStop m k w) s = .next t ∧ t.b.on EGA.TB_STAT_RUN 0 k = false ∧ t.b.on EGA.TB_CFG_EN 0 k = false ∧ t.b.tb k = {} ∧
         t.mem = s.mem ∧ t.b.ts = s.b.ts) ∧
     (s.b.running = true → s.b.on EGA.TB_STAT_RUN 0 k = true → (s.b.tb k).starting = false → (s.b.tb k).sealed = none →
       (s.b.tb k).pend = none →
       ∃ t, exec (.constellationTick k false) s = .next t ∧
         t.b.get EGA.TB_MCOUNT_COUNT 0 k = (s.b.get EGA.TB_MCOUNT_COUNT 0 k + 1) % 2 ^ EGA.TB_MCOUNT_COUNT.w ∧
         t.b.rd EGA.TB_MTS_LO 0 k = BitVec.ofNat 32 s.b.now ∧ (t.b.tb k).anti = false ∧
         t.b.rd EGA.TB_PERIOD_ACT 0 k = s.b.rd EGA.TB_PERIOD_ACT 0 k ∧ t.mem = s.mem ∧ t.b.ts = s.b.ts)) ∧
  (∀ (s : State) (m : Master) (k : Nat) (w : Word), k < 8 → s.writable m 0xF = true → s.b.on EGA.TB_STAT_RUN 0 k = true →
     s.b.xspAllows k (s.b.rd EGA.TB_PERIOD 0 k).toNat = true → s.b.periodRefusal k (s.b.rd EGA.TB_PERIOD 0 k).toNat = none →
     (s.b.tbWindow k = false →
       ∃ t, exec (.tbGo m k w) s = .next t ∧ (t.b.tb k).sealed = some (s.b.rd EGA.TB_PERIOD 0 k).toNat ∧ (t.b.tb k).n = 0 ∧
         t.b.on EGA.TB_STAT_ARMED 0 k = true ∧ t.b.on EGA.TB_STAT_LINK_WAIT 0 k = false ∧ (t.b.tb k).pend = (s.b.tb k).pend ∧
         t.mem = s.mem) ∧
     (s.b.tbWindow k = true →
       ∃ t, exec (.tbGo m k w) s = .next t ∧ (t.b.tb k).pend = some (s.b.rd EGA.TB_PERIOD 0 k).toNat ∧
         t.b.on EGA.TB_STAT_PEND 0 k = true ∧ (t.b.tb k).sealed = (s.b.tb k).sealed ∧
         (t.b.tb k).take = some ((s.b.tb k).take.getD (s.b.allFresh k)) ∧ t.mem = s.mem))

/-- What a GO leaves on a leg: its shadow pair sealed as one set, in the staged set outside the leg's window, in the pending latch inside it; a
set sealed before and not yet taken is superseded, counted and shown; a linked leg is fresh, in the window once its latch moves (R141, R143,
R145). -/
def sealedBy (s t : State) (leg : Nat) : Prop :=
  ((s.b.leg leg).window = false →
    (t.b.leg leg).staged = some ⟨s.b.rd LEG.LEG_CMP1 leg, s.b.rd LEG.LEG_CMP2 leg⟩ ∧ t.b.on LEG.LEG_STAT_STAGED leg = true ∧
    (t.b.leg leg).pending = (s.b.leg leg).pending ∧ (s.b.linked leg = true → t.b.on LEG.LEG_STAT_FRESH leg = true)) ∧
  ((s.b.leg leg).window = true →
    (t.b.leg leg).pending = some ⟨s.b.rd LEG.LEG_CMP1 leg, s.b.rd LEG.LEG_CMP2 leg⟩ ∧ t.b.on LEG.LEG_STAT_PEND leg = true ∧
    (t.b.leg leg).staged = (s.b.leg leg).staged ∧ (t.b.leg leg).pendFresh = s.b.linked leg) ∧
  ((if (s.b.leg leg).window then (s.b.leg leg).pending else (s.b.leg leg).staged) ≠ none →
    t.b.get LEG.LEG_SUPER_CNT_COUNT leg = min 65535 (s.b.get LEG.LEG_SUPER_CNT_COUNT leg + 1) ∧ t.b.mapBit HDR.EVT_STAT_BITS 3 (0x20 + leg) = true) ∧
  ((if (s.b.leg leg).window then (s.b.leg leg).pending else (s.b.leg leg).staged) = none →
    t.b.rd LEG.LEG_SUPER_CNT leg = s.b.rd LEG.LEG_SUPER_CNT leg ∧ t.b.rd HDR.EVT_STAT (0x20 + leg) = s.b.rd HDR.EVT_STAT (0x20 + leg))

/-- A GO seals the shadow pair of a HOST leg, alone or with the others of a group GO of either register; the window freezes the staged set
(R139, R141, R142, R145). A commit instant makes the frozen set the active one, which LEG_ACT1 and LEG_ACT2 show as it was sealed (the
model's reading, log entry 122), and closes the window; a pending set becomes the staged one (R142). -/
def Obligations.CompareCommits : Prop :=
  (∀ (s : State) (leg : Nat), leg < s.b.numLegs →
     (∀ m, s.writable m (0x20 + leg) = true → 2 ≤ s.b.legOwner leg →
       ∃ t, exec (.legGo m leg) s = .next t ∧ sealedBy s t leg ∧ (∀ n, n ≠ leg → t.b.leg n = s.b.leg n) ∧
         SameBut [LEG.LEG_STAT.addr leg 0, LEG.LEG_SUPER_CNT.addr leg 0, HDR.EVT_STAT.addr (0x20 + leg) 0]
           (fun b => { b.noRegs with legs := [], tbs := [] }) s t) ∧
     (∀ m hi w, s.writable m 0xF = true → leg ∈ (bitsOf w.toNat 32).map (fun k => if hi then k + 32 else k) →
       (∀ n, n ∈ (bitsOf w.toNat 32).map (fun k => if hi then k + 32 else k) →
         n < s.b.numLegs ∧ 2 ≤ s.b.legOwner n ∧ s.b.legTb n = s.b.legTb leg ∧ s.b.get LEG.LEG_CFG_STAGGER n = s.b.get LEG.LEG_CFG_STAGGER leg) →
       ∃ t, exec (.groupGo m hi w) s = .next t ∧
         (∀ n, n ∈ (bitsOf w.toNat 32).map (fun k => if hi then k + 32 else k) → sealedBy s t n) ∧
         (∀ n, n ∉ (bitsOf w.toNat 32).map (fun k => if hi then k + 32 else k) → t.b.leg n = s.b.leg n) ∧
         SameBut (((bitsOf w.toNat 32).map (fun k => if hi then k + 32 else k)).flatMap (fun n =>
             [LEG.LEG_STAT.addr n 0, LEG.LEG_SUPER_CNT.addr n 0, HDR.EVT_STAT.addr (0x20 + n) 0]))
           (fun b => { b.noRegs with legs := [], tbs := [] }) s t) ∧
     (s.b.running = true → s.b.tbRuns (s.b.legTb leg) = true → (s.b.leg leg).window = false →
       ∃ t, exec (.legWindowOpen leg) s = .next t ∧ (t.b.leg leg).window = true ∧
         (s.b.linkedTo leg = false → (t.b.leg leg).frozen = (s.b.leg leg).staged) ∧ (t.b.leg leg).staged = (s.b.leg leg).staged ∧
         (∀ n, n ≠ leg → t.b.leg n = s.b.leg n) ∧ (∀ k, (t.b.tb k).sealed = (s.b.tb k).sealed) ∧
         SameBut [] (fun b => { b with legs := [], tbs := [] }) s t)) ∧
  (∀ (s : State) (leg : Nat) (p : CmpPair), s.b.commits leg = true → (s.b.leg leg).frozen = some p →
     ∃ t, exec (.legCommit leg false) s = .next t ∧ t.b.rd LEG.LEG_ACT1 leg = p.c1 ∧ t.b.rd LEG.LEG_ACT2 leg = p.c2 ∧
       (s.b.on LEG.LEG_CFG_FORMAT leg = false → t.b.active leg = p) ∧ (t.b.leg leg).iActive = (s.b.leg leg).iFrozen ∧
       (t.b.leg leg).window = false ∧ (t.b.leg leg).frozen = none ∧ (t.b.leg leg).lastAnti = false ∧
       (t.b.leg leg).pending = none ∧
       (∀ q, (s.b.leg leg).pending = some q →
         (t.b.leg leg).staged = some q ∧ t.b.on LEG.LEG_STAT_PEND leg = false ∧ t.b.on LEG.LEG_STAT_STAGED leg = true ∧
         ((s.b.leg leg).pendFresh = true → t.b.on LEG.LEG_STAT_FRESH leg = true) ∧
         ((s.b.leg leg).staged ≠ none → (s.b.leg leg).staged ≠ some p →
           t.b.get LEG.LEG_SUPER_CNT_COUNT leg = min 65535 (s.b.get LEG.LEG_SUPER_CNT_COUNT leg + 1) ∧
           t.b.mapBit HDR.EVT_STAT_BITS 3 (0x20 + leg) = true)) ∧
       ((s.b.leg leg).pending = none →
         (t.b.leg leg).staged = (if (s.b.leg leg).staged = some p then none else (s.b.leg leg).staged) ∧
         t.b.on LEG.LEG_STAT_STAGED leg = (t.b.leg leg).staged.isSome) ∧
       t.mem = s.mem ∧ t.b.ts = s.b.ts)

/-- A command is turned off at once at its edge, and both are never driven together: at an edge each command that the leg's set and its chop
do not command there is off, at the off edge of an interval the high side and at its on edge the low side; no command that was off comes on,
and the interlock turns on only the side that waits for it (R134, R135, R146, R147, R149). Lock, loss and codes of a group's delay-locked
loop, and a leg's residual trim (R136 to R138). -/
def Obligations.EdgeProtection : Prop :=
  (∀ (s : State) (leg : Nat), leg < s.b.numLegs →
     (∀ pos, s.b.commits leg = true → pos < s.b.period (s.b.legTb leg) →
       ∃ t, exec (.legEdge leg pos) s = .next t ∧ ((t.b.leg leg).hi = true → (s.b.leg leg).hi = true) ∧
         ((t.b.leg leg).lo = true → (s.b.leg leg).lo = true) ∧
         (t.b.leg leg).hi = ((s.b.leg leg).hi && (s.b.stage3 leg (s.b.stage2 leg pos)).1) ∧
         (t.b.leg leg).lo = ((s.b.leg leg).lo && (s.b.stage3 leg (s.b.stage2 leg pos)).2) ∧
         (∀ on off, (s.b.leg leg).chop = none → (s.b.leg leg).held = none → s.b.get LEG.LEG_CFG_FORM leg ≠ 2 →
           (s.b.active leg).shape (s.b.get LEG.LEG_CFG_FORM leg) = 1 →
           (s.b.placed leg (s.b.active leg) (s.b.leg leg).iActive).1 = (on, off) → on < off →
           (pos = off → (t.b.leg leg).hi = false) ∧ (pos = on → (t.b.leg leg).lo = false)) ∧
         (∀ n, n ≠ leg → t.b.leg n = s.b.leg n) ∧ t.mem = s.mem) ∧
     (∀ (pos : Nat) side dt kind, s.b.running = true → (s.b.leg leg).padWait = none → (s.b.leg leg).turnOn = some side →
       (s.b.leg leg).hi = false → (s.b.leg leg).lo = false → s.b.deadTime leg = some (dt, kind) →
       (∀ q, (s.b.leg leg).offOf side = some q → (dt : Int) ≤ pos - q) →
       (∀ e, s.b.onEnd leg side pos = some e → 16 * LEG.LEG_DT_MIN_PULSE.of (s.b.eff LEG.LEG_DT leg 0) ≤ e - pos) →
       ∃ t, exec (.interlockTurnOn leg pos) s = .next t ∧ (t.b.leg leg).turnOn = none ∧ (t.b.leg leg).hi = side ∧
         (t.b.leg leg).lo = (!side) ∧ t.b.get SC.DT_LAST_KIND (leg / 2) (leg % 2) = kind % 4 ∧ (∀ n, n ≠ leg → t.b.leg n = s.b.leg n) ∧
         SameBut [SC.DT_LAST.addr (leg / 2) (leg % 2)] (fun b => { b.noRegs with legs := [] }) s t) ∧
     (∀ (pos : Nat) since, s.b.running = true → (s.b.leg leg).padWait = some since → s.b.now < since + 6 → (s.b.leg leg).turnOn = none →
       exec (.interlockTurnOn leg pos) s = .next s) ∧
     (∀ pos, s.b.running = true →
       ∃ t, exec (.egaInterlock ⟨leg, pos⟩) s = .next t ∧ (t.b.leg leg).hi = false ∧ (t.b.leg leg).lo = false ∧ (t.b.leg leg).turnOn = none ∧
         ((s.b.leg leg).hi = true → (t.b.leg leg).offHi = some (pos : Int)) ∧ (t.b.leg leg).blanking = true ∧ t.b.mapBit HDR.EVT_STAT_BITS 2 0xF = true ∧
         (s.b.mode ≠ 5 → s.b.fenced (0x20 + leg) = false → t.b.wires = s.b.wires ++ [⟨0x11, 0x20 + leg, (0x20 + leg) * 4096, 7, 0⟩]) ∧
         SameBut [HDR.EVT_STAT.addr 0xF 0] (fun b => { b.noRegs with legs := [], wires := [] }) s t)) ∧
  (∀ s : State, s.b.running = true →
     (s.b.on EGA.EGA_CTL_DLL_EN = true →
       ∃ t, exec (.dllLock 0) s = .next t ∧ t.b.on EGA.EGA_STAT_DLL_LOCK0 = true ∧ t.b.on EGA.EGA_STAT_COARSE0 = false ∧
         OnlyRegs [EGA.EGA_STAT.addr 0 0] s t) ∧
     (s.b.on EGA.EGA_CTL_DLL_EN = true →
       ∃ t, exec (.dllLock 1) s = .next t ∧ t.b.on EGA.EGA_STAT_DLL_LOCK1 = true ∧ t.b.on EGA.EGA_STAT_COARSE1 = false ∧
         OnlyRegs [EGA.EGA_STAT.addr 0 0] s t) ∧
     (∃ t, exec (.dllUnlock 0) s = .next t ∧ t.b.on EGA.EGA_STAT_DLL_LOCK0 = false ∧ t.b.on EGA.EGA_STAT_COARSE0 = true ∧
         t.b.mapBit HDR.EVT_STAT_BITS 0 0xF = true ∧
         SameBut [EGA.EGA_STAT.addr 0 0, HDR.EVT_STAT.addr 0xF 0] (fun b => { b.noRegs with wires := [] }) s t) ∧
     (∃ t, exec (.dllUnlock 1) s = .next t ∧ t.b.on EGA.EGA_STAT_DLL_LOCK1 = false ∧ t.b.on EGA.EGA_STAT_COARSE1 = true ∧
         t.b.mapBit HDR.EVT_STAT_BITS 0 0xF = true ∧
         SameBut [EGA.EGA_STAT.addr 0 0, HDR.EVT_STAT.addr 0xF 0] (fun b => { b.noRegs with wires := [] }) s t) ∧
     (s.b.on EGA.EGA_CTL_DLL_EN = true → s.b.on EGA.EGA_STAT_DLL_LOCK0 = true → s.b.get EGA.DLL_CODE0_FINE < 63 →
       ∃ t, exec (.dllCodeUpdate 0 true) s = .next t ∧ t.b.get EGA.DLL_CODE0_FINE = s.b.get EGA.DLL_CODE0_FINE + 1 ∧
         t.b.get EGA.DLL_CODE0_COARSE = s.b.get EGA.DLL_CODE0_COARSE ∧ OnlyRegs [EGA.DLL_CODE0.addr 0 0] s t) ∧
     (∀ leg trim, leg < s.b.numLegs → -31 ≤ trim → trim ≤ 31 → s.b.tbRuns (s.b.legTb leg) = false →
       ∃ t, exec (.legTrimMeasure leg trim) s = .next t ∧ sx 6 (t.b.get LEG.LEG_TRIM_TRIM leg) = trim ∧
         OnlyRegs [LEG.LEG_TRIM.addr leg 0] s t) ∧
     (∀ leg trim, leg < s.b.numLegs → -31 ≤ trim → trim ≤ 31 → s.b.tbRuns (s.b.legTb leg) = true →
       ∃ t, exec (.legTrimMeasure leg trim) s = .next t ∧ (t.b.leg leg).trimNext = some (ux 6 trim) ∧
         (∀ n, n ≠ leg → t.b.leg n = s.b.leg n) ∧ SameBut [] (fun b => { b with legs := [] }) s t))

/-- Over-current, blanking and the hard limit of a leg (R149, R185, R186). The driver-fault input: its level is read, a fault holds the leg
OFF and raises its source, a release with the input high ends it (R152). The node sense of a leg: a crossing shows in NODE_STAT and is time-
stamped, the end of a window leaves the ringing, a node that does not settle is counted and raised, and a clear empties the leg's parallax
table, at the next local meridian where its constellation runs (R163 to R166, R173, R191). The measure of the ringing, and that a stuck node
is raised whether or not the servo is enabled, are the model's reading, log entry 60. -/
def Obligations.LegFaults : Prop :=
  (∀ (s : State) (leg : Nat), s.b.senses leg = true →
     (∀ positive i pos, (s.b.leg leg).blanking = false → s.b.on LEG.LEG_CFG_CHOP_EN leg = true → (s.b.leg leg).chop = none →
       s.b.beyond leg positive i = true → s.b.beyond leg (!positive) i = false →
       (if positive then (s.b.leg leg).hi else (s.b.leg leg).lo) = true →
       ∃ t, exec (.overcurrentTrip leg ⟨i, pos⟩) s = .next t ∧ (t.b.leg leg).chop = some positive ∧ t.b.on LEG.LEG_STAT_CHOPPING leg = true ∧
         (if positive then (t.b.leg leg).hi else (t.b.leg leg).lo) = false ∧ t.b.mapBit HDR.EVT_STAT_BITS 0 (0x20 + leg) = true ∧
         (∀ n, n ≠ leg → t.b.leg n = s.b.leg n) ∧
         SameBut [SC.OC_TRIP_CNT.addr (leg / 2) (leg % 2), HDR.EVT_STAT.addr (0xB0 + leg / 2) 0, LEG.LEG_STAT.addr leg 0,
           LEG.LEG_CHOP_CNT.addr leg 0, HDR.EVT_STAT.addr (0x20 + leg) 0] (fun b => { b.noRegs with legs := [], wires := [] }) s t) ∧
     (∀ i pos, (s.b.leg leg).blanking = true → (s.b.leg leg).tripPos = false → (s.b.leg leg).tripNeg = false →
       (s.b.leg leg).tripHard = false →
       ∃ t, exec (.blankingEnd leg i pos) s = .next t ∧ (t.b.leg leg).blanking = false ∧
         (∀ n, n ≠ leg → t.b.leg n = s.b.leg n) ∧ SameBut [] (fun b => { b with legs := [] }) s t) ∧
     (∀ i, (s.b.leg leg).blanking = true → s.b.beyondHard leg i = true →
       ∃ t, exec (.hardOvercurrentTrip ⟨leg, i⟩) s = .next t ∧ (t.b.leg leg).tripHard = true ∧
         (∀ n, n ≠ leg → t.b.leg n = s.b.leg n) ∧ SameBut [] (fun b => { b with legs := [] }) s t) ∧
     (∀ i, (s.b.leg leg).blanking = false → s.b.beyondHard leg i = true →
       ∃ t, exec (.hardOvercurrentTrip ⟨leg, i⟩) s = .next t ∧ t.b.mapBit HDR.EVT_STAT_BITS (2 + leg % 2) (0xB0 + leg / 2) = true ∧
         (s.b.mode ≠ 5 → s.b.fenced (0x20 + leg) = false → t.b.wires = s.b.wires ++ [⟨0x16, 0x20 + leg, (0x20 + leg) * 4096, 7, 0⟩]) ∧
         SameBut [SC.HARD_CNT.addr (leg / 2) (leg % 2), HDR.EVT_STAT.addr (0xB0 + leg / 2) 0]
           (fun b => { b.noRegs with wires := [] }) s t)) ∧
  (∀ (s : State) (leg : Nat), leg < s.b.numLegs →
     (∀ level, ∃ t, exec (.fltNChange leg level) s = .next t ∧ (t.b.leg leg).fltLow = !level ∧ (∀ n, n ≠ leg → t.b.leg n = s.b.leg n) ∧
       SameBut [] (fun b => { b with legs := [] }) s t) ∧
     (s.b.running = true → s.b.on LEG.LEG_FLT_EN leg = true → (s.b.leg leg).fltLow = true → s.b.on LEG.LEG_FLT_HELD leg = false →
       ∃ t, exec (.legDriverFault leg) s = .next t ∧ t.b.on LEG.LEG_FLT_HELD leg = true ∧ (t.b.override leg).isSome = true ∧
         t.b.mapBit HDR.EVT_STAT_BITS 5 (0x20 + leg) = true ∧
         (s.b.mode ≠ 5 → s.b.fenced (0x20 + leg) = false → t.b.wires = s.b.wires ++ [⟨0x13, 0x20 + leg, (0x20 + leg) * 4096, 7, 0⟩]) ∧
         (∀ n, n ≠ leg → t.b.leg n = s.b.leg n) ∧
         SameBut [LEG.LEG_FLT.addr leg 0, HDR.EVT_STAT.addr (0x20 + leg) 0] (fun b => { b.noRegs with legs := [], wires := [] }) s t) ∧
     (∀ m w, s.writable m (0x20 + leg) = true → (s.b.leg leg).fltLow = false →
       ∃ t, exec (.legFaultRelease m leg w) s = .next t ∧ t.b.on LEG.LEG_FLT_HELD leg = false ∧ t.mem = s.mem ∧ t.b.ts = s.b.ts) ∧
     (∀ m w, s.writable m (0x20 + leg) = true → (s.b.leg leg).fltLow = true →
       ∃ t, exec (.legFaultRelease m leg w) s = .next t ∧ t.b.on LEG.LEG_FLT_HELD leg = s.b.on LEG.LEG_FLT_HELD leg ∧
         t.b.rd HDR.REFUSAL (0x20 + leg) = BitVec.ofNat 32 (14 + 256 * LEG.LEG_FLT.off + Master.refusalCode m * 2 ^ 20) ∧
         OnlyRegs [HDR.REFUSAL.addr (0x20 + leg) 0, HDR.REFUSAL_CNT.addr (0x20 + leg) 0] s t)) ∧
  (∀ (s : State) (leg : Nat), s.b.senses leg = true →
     (∀ cmp up t', s.b.ns SC.NS_CFG_NS_EN leg = 0 → cmp ≠ .lo →
       ∃ t, exec (.nodeCrossing leg cmp up t') s = .next t ∧
         t.b.mapBit SC.NODE_STAT_CMP (cmpNum cmp) (leg / 2) (leg % 2) = up ∧ (t.b.leg leg).nodeTs = s.b.now ∧ (t.b.leg leg).nodeSeen = true ∧
         (∀ n, n ≠ leg → t.b.leg n = s.b.leg n) ∧
         SameBut [SC.NODE_STAT.addr (leg / 2) (leg % 2)] (fun b => { b.noRegs with legs := [] }) s t) ∧
     (∀ e t', (s.b.leg leg).edges = [e] → e.lag = 0 → e.live = true → e.mid = none → s.b.ns SC.NS_CFG_NS_EN leg = 1 →
       t' ≤ 32 * (s.b.ns SC.DT_MAX_ADAPT_MAX leg + 500) →
       ∃ t, exec (.nodeCrossing leg .mid (!e.falling) t') s = .next t ∧ (t.b.leg leg).edges = [{ e with mid := some t' }] ∧
         t.b.get SC.PX_LAST_DELAY (leg / 2) (leg % 2) = t' % 2 ^ SC.PX_LAST_DELAY.w ∧ (∀ n, n ≠ leg → t.b.leg n = s.b.leg n) ∧
         t.mem = s.mem ∧ t.b.wires = s.b.wires) ∧
     (∀ es e path, (s.b.leg leg).edges = es ++ [e] → e.live = true → e.mid ≠ none →
       ∃ t, exec (.edgeSenseWindowEnd ⟨leg, path⟩) s = .next t ∧ (t.b.leg leg).edges = es ∧
         (t.b.leg leg).rings = ((s.b.ringing leg e path).getD 0 :: (s.b.leg leg).rings).take 16 ∧ (∀ n, n ≠ leg → t.b.leg n = s.b.leg n) ∧
         SameBut [SC.RING.addr (leg / 2) (leg % 2)] (fun b => { b.noRegs with legs := [] }) s t) ∧
     (∀ e rest, (s.b.leg leg).edges = e :: rest → s.b.blind leg = false → e.left ≠ none → e.settle = none → e.stuck = false →
       ∃ t, exec (.nodeStuckTimeout leg) s = .next t ∧ (t.b.leg leg).edges = { e with stuck := true } :: rest ∧
         t.b.mapBit HDR.EVT_STAT_BITS (4 + leg % 2) (0xB0 + leg / 2) = true ∧ (∀ n, n ≠ leg → t.b.leg n = s.b.leg n) ∧
         SameBut [SC.STUCK_CNT.addr (leg / 2) (leg % 2), HDR.EVT_STAT.addr (0xB0 + leg / 2) 0]
           (fun b => { b.noRegs with legs := [], wires := [] }) s t) ∧
     (∀ m w, s.writable m (0xB0 + leg / 2) = true → s.b.tbRuns (s.b.legTb leg) = false →
       ∃ t, exec (.servoClear m leg w) s = .next t ∧ (∀ x, x < 16 → t.b.rd SC.PXT (leg / 2) (leg % 2 * 16 + x) = 0) ∧
         OnlyRegs ((List.range 16).map (fun x => SC.PXT.addr (leg / 2) (leg % 2 * 16 + x))) s t) ∧
     (∀ m w, s.writable m (0xB0 + leg / 2) = true → s.b.tbRuns (s.b.legTb leg) = true →
       ∃ t, exec (.servoClear m leg w) s = .next t ∧ 6 ∈ (t.b.leg leg).clears ∧ (∀ n, n ≠ leg → t.b.leg n = s.b.leg n) ∧
         SameBut [] (fun b => { b with legs := [] }) s t))

/-- The first hold of a sample numbers it and places its series: without a quiet window no hold closes and the sample is complete as HELD;
with one the holds of its series close one by one, and the last completes it with its time-stamp (R179 to R183). A current conversion leaves
its converter's queue with the corrected, saturated result in RES_A or RES_B; the only hold of a sample gives its result to the leg's input
latch (R176, R180). -/
def Obligations.Conversions : Prop :=
  (∀ (s : State) (a c : Nat) (anti : Bool) (g l : Int), a < s.b.numAxes → s.b.running = true → s.b.mode ≠ 0 →
     s.b.on SNS.SNS_CTL_EN = true → s.b.fenced 0x10 = false → s.b.liveAxes.contains a = true → s.b.tbRuns (s.b.axTb a) = true →
     s.b.curCtx a = some c → s.b.sampleSpan a (s.b.get LC.LC_SLOT_SLOT c) anti = some (g, l) →
     ((s.b.sample a).series = 0 → s.b.placeHold a g l = none →
       ∃ t, exec (.sampleHold a anti) s = .next t ∧ (t.b.sample a).sample = (s.b.sample a).sample + 1 ∧ (t.b.sample a).used = 0 ∧
         (t.b.sample a).placed = true ∧ (t.b.sample a).holdTs = s.b.now ∧ t.b.on SNS.AXS_REC_HELD 0 a = true ∧ t.b.convs = s.b.convs ∧
         t.mem = s.mem ∧ t.b.ts = s.b.ts) ∧
     (∀ w n rec, (s.b.sample a).series = 0 → s.b.placeHold a g l = some (w, n + 1, rec) →
       ∃ t, exec (.sampleHold a anti) s = .next t ∧ (t.b.sample a).sample = (s.b.sample a).sample + 1 ∧ (t.b.sample a).used = n + 1 ∧
         (t.b.sample a).series = n ∧ t.b.on SNS.AXS_REC_HELD 0 a = false ∧ t.b.on SNS.AXS_REC_RECON 0 a = rec.isSome ∧
         (n = 0 → (t.b.sample a).placed = true ∧ (t.b.sample a).holdTs = s.b.now) ∧ t.mem = s.mem ∧ t.b.ts = s.b.ts) ∧
     (∀ n, (s.b.sample a).series = n + 2 → (s.b.sample a).anti = anti →
       ∃ t, exec (.sampleHold a anti) s = .next t ∧ (t.b.sample a).sample = (s.b.sample a).sample ∧ (t.b.sample a).series = n + 1 ∧
         SameBut [] (fun b => { b with samples := [], convs := [] }) s t)) ∧
  (∀ (s : State) (k : Nat) (raw : BitVec 14) (h : HoldSt) (rest : List HoldSt), s.b.running = true → s.b.mode ≠ 0 → k < s.b.numConv →
     s.b.fenced (0xB0 + k) = false → s.b.conv k = h :: rest →
     ∃ t, exec (.conversionDone k raw) s = .next t ∧ t.b.conv k = rest ∧
       (h.leg % 2 = 0 →
         t.b.get SC.RES_A_VALUE k =
           ux 14 (satS 14 (corrected (sx 14 raw.toNat) (sx 10 (s.b.get SC.SC_CAL_OFFSET k)) (sx 10 (s.b.get SC.SC_CAL_GAIN k)))) ∧
         t.b.get SC.RES_A_SEQ k = (s.b.get SC.RES_A_SEQ k + 1) % 2 ^ SC.RES_A_SEQ.w ∧ t.b.rd SC.RES_B k = s.b.rd SC.RES_B k) ∧
       (h.leg % 2 = 1 →
         t.b.get SC.RES_B_VALUE k =
           ux 14 (satS 14 (corrected (sx 14 raw.toNat) (sx 10 (s.b.get SC.SC_CAL_OFFSET k)) (sx 10 (s.b.get SC.SC_CAL_GAIN k)))) ∧
         t.b.get SC.RES_B_SEQ k = (s.b.get SC.RES_B_SEQ k + 1) % 2 ^ SC.RES_B_SEQ.w ∧ t.b.rd SC.RES_A k = s.b.rd SC.RES_A k) ∧
       ((s.b.sample h.axis).sample = h.sample → (s.b.sample h.axis).used = 1 → (s.b.sample h.axis).recon = none →
         (s.b.sample h.axis).sums = [] →
         (t.b.leg h.leg).iLatch = satS 14 (corrected (sx 14 raw.toNat) (sx 10 (s.b.get SC.SC_CAL_OFFSET k)) (sx 10 (s.b.get SC.SC_CAL_GAIN k)))) ∧
       SameBut [SC.RES_A.addr k 0, SC.RES_B.addr k 0] (fun b => { b.noRegs with convs := [], samples := [], legs := [] }) s t)

/-- The self-test of a converter: within 16 LSB it passes, beyond it fails with CONV_FAULT; a skipped one passes (R178). A bus conversion
inside its thresholds is recorded, ends both states and forms the node thresholds of the legs on that bus (R160; the sum with the offset
trim is the model's reading, log entry 109); beyond OV for the filter's count it enters BUS_OV and raises SNS_BUS_OV. A housekeeping
conversion is recorded (R184; that it is corrected by R176's formula, clamped to 12 bits, and that the die channel 48 takes HK_CAL1 in
HK_RES while DIE_TEMP takes DIE_CAL, is the model's choice, log entry 66). -/
def Obligations.ConverterChecks : Prop :=
  (∀ (s : State) (k : Nat), s.b.running = true → s.b.mode ≠ 0 → k < s.b.numConv → s.b.on SC.SC_CTL_SELFTEST k = true → s.b.fenced (0xB0 + k) = false →
     (∀ d0 dh : Int, d0.natAbs ≤ 16 → dh.natAbs ≤ 16 →
       ∃ t, exec (.converterSelftest k d0 dh) s = .next t ∧ t.b.on SC.SC_STAT_SELF_OK k = true ∧ OnlyRegs [SC.SC_STAT.addr k 0] s t) ∧
     (∀ d0 dh : Int, 16 < d0.natAbs ∨ 16 < dh.natAbs →
       ∃ t, exec (.converterSelftest k d0 dh) s = .next t ∧ t.b.on SC.SC_STAT_SELF_OK k = false ∧
         t.b.mapBit HDR.EVT_STAT_BITS 8 (0xB0 + k) = true ∧
         (s.b.mode ≠ 5 → t.b.wires = s.b.wires ++ [⟨0x1B, 0xB0 + k, (0xB0 + k) * 4096, 7, 0⟩]) ∧
         SameBut [SC.SC_STAT.addr k 0, HDR.EVT_STAT.addr (0xB0 + k) 0] (fun b => { b.noRegs with wires := [] }) s t) ∧
     (∃ t, exec (.converterSelftestSkip k) s = .next t ∧ t.b.on SC.SC_STAT_SELF_OK k = true ∧ OnlyRegs [SC.SC_STAT.addr k 0] s t)) ∧
  (∀ s : State, s.b.running = true → s.b.mode ≠ 0 → s.b.on SNS.SNS_CTL_EN = true → s.b.fenced 0x10 = false →
     (∀ n raw v, n < 8 →
       v = (clampI 0 16383 (corrected raw.toNat (sx 10 (s.b.get SNS.VB_CAL_OFFSET 0 n)) (sx 10 (s.b.get SNS.VB_CAL_GAIN 0 n)))).toNat →
       s.b.get SNS.VB_CFG_UV 0 n ≤ v → v ≤ s.b.get SNS.VB_CFG_OV 0 n →
       ∃ t, exec (.busConversionDone n raw) s = .next t ∧ t.b.get SNS.VB_RES_VALUE 0 n = v ∧
         t.b.get SNS.VB_RES_SEQ 0 n = (s.b.get SNS.VB_RES_SEQ 0 n + 1) % 2 ^ SNS.VB_RES_SEQ.w ∧
         t.b.mapBit SNS.SNS_STAT_BUS_OV n = false ∧ t.b.mapBit SNS.SNS_STAT_BUS_UV n = false ∧
         (t.b.bus n).ov = 0 ∧ (t.b.bus n).uv = 0 ∧
         (∀ leg, leg < s.b.numLegs → s.b.ns SC.NS_CFG_BUS leg = n →
           (t.b.leg leg).th.mid =
             (125 * s.b.ns SC.NS_TH_TH_MID leg + 128 * sx 10 (s.b.get SNS.NCAL_OFFSET 0 (leg / 8)) : Int) * v * s.b.ns SC.NS_HYST_SCALE leg) ∧
         SameBut [SNS.VB_RES.addr 0 n, SNS.SNS_STAT.addr 0 0] (fun b => { b.noRegs with buses := [], legs := [] }) s t) ∧
     (∀ n raw v, n < 8 → s.b.mode ≠ 5 →
       v = (clampI 0 16383 (corrected raw.toNat (sx 10 (s.b.get SNS.VB_CAL_OFFSET 0 n)) (sx 10 (s.b.get SNS.VB_CAL_GAIN 0 n)))).toNat →
       s.b.get SNS.VB_CFG_UV 0 n ≤ v → s.b.get SNS.VB_CFG_OV 0 n < v → s.b.mapBit SNS.SNS_STAT_BUS_OV n = false →
       2 ^ s.b.get SNS.VB_CFG_FILT 0 n ≤ (s.b.bus n).ov + 1 →
       ∃ t, exec (.busConversionDone n raw) s = .next t ∧ t.b.get SNS.VB_RES_VALUE 0 n = v ∧ t.b.mapBit SNS.SNS_STAT_BUS_OV n = true ∧
         t.b.wires = s.b.wires ++ [⟨0x17, 0x10 + 0x1000 * n, 0x10000, 7, 0⟩] ∧
         SameBut [SNS.VB_RES.addr 0 n, SNS.SNS_STAT.addr 0 0, HDR.EVT_STAT.addr 0x10 0]
           (fun b => { b.noRegs with buses := [], wires := [], legs := [] }) s t) ∧
     (∀ ch raw, s.b.hkScanned ch = true → ch < 24 →
       ∃ t, exec (.hkConversionDone ch raw) s = .next t ∧
         t.b.get SNS.HK_RES_VALUE 0 ch =
           (clampI 0 4095 (corrected raw.toNat (sx 10 (s.b.get SNS.HK_CAL0_OFFSET)) (sx 10 (s.b.get SNS.HK_CAL0_GAIN)))).toNat ∧
         OnlyRegs [SNS.HK_RES.addr 0 ch] s t) ∧
     (∀ ch raw, s.b.hkScanned ch = true → 24 ≤ ch → ch < 49 →
       ∃ t, exec (.hkConversionDone ch raw) s = .next t ∧
         t.b.get SNS.HK_RES_VALUE 0 ch =
           (clampI 0 4095 (corrected raw.toNat (sx 10 (s.b.get SNS.HK_CAL1_OFFSET)) (sx 10 (s.b.get SNS.HK_CAL1_GAIN)))).toNat ∧
         OnlyRegs [SNS.HK_RES.addr 0 ch, SNS.DIE_TEMP.addr 0 0] s t))

/-- A command written to an idle mailbox by its master starts at once while the other mailbox is idle: the four operations begin their
checks, an operation code without a meaning is answered BAD_OP (R196, R197, R199, R213). Where its checks complete, DESTROY of a live axis
by force, and REFORM that gives up some of several live sets, are accepted and wait for the axis's meridian (R203, R207). -/
def Obligations.MailboxAdmits : Prop :=
  (∀ (s : State) (m : Master) (i : Nat), i < 2 → s.writable m 0xE = true → mbxMaster i m = true → (s.b.mbx i).stage = .idle →
     (s.b.mbx (1 - i)).stage = .idle →
     (1 ≤ s.b.mode → s.b.mode ≤ 3 →
       ∃ t, exec (.mbxCreate m i) s = .next t ∧ (t.b.mbx i).stage = .checking ∧ t.b.on CFU.MBX_RESULT_BUSY 0 i = true ∧
         t.b.get CFU.MBX_CMD_OP 0 i = 1 ∧ t.b.mbx (1 - i) = s.b.mbx (1 - i) ∧
         SameBut [CFU.MBX_CMD.addr 0 i, CFU.MBX_RESULT.addr 0 i] (fun b => { b.noRegs with mbxs := [] }) s t) ∧
     (1 ≤ s.b.mode → s.b.mode ≤ 4 →
       ∃ t, exec (.mbxCheck m i) s = .next t ∧ (t.b.mbx i).stage = .checking ∧ t.b.on CFU.MBX_RESULT_BUSY 0 i = true ∧
         t.b.get CFU.MBX_CMD_OP 0 i = 4 ∧ t.b.mbx (1 - i) = s.b.mbx (1 - i) ∧
         SameBut [CFU.MBX_CMD.addr 0 i, CFU.MBX_RESULT.addr 0 i] (fun b => { b.noRegs with mbxs := [] }) s t) ∧
     (1 ≤ s.b.mode → s.b.mode ≤ 4 →
       ∃ t, exec (.mbxDestroy m i) s = .next t ∧ (t.b.mbx i).stage = .checking ∧ t.b.on CFU.MBX_RESULT_BUSY 0 i = true ∧
         t.b.get CFU.MBX_CMD_OP 0 i = 2 ∧ t.b.mbx (1 - i) = s.b.mbx (1 - i) ∧
         SameBut [CFU.MBX_CMD.addr 0 i, CFU.MBX_RESULT.addr 0 i] (fun b => { b.noRegs with mbxs := [] }) s t) ∧
     (1 ≤ s.b.mode → s.b.mode ≤ 3 →
       ∃ t, exec (.mbxReform m i) s = .next t ∧ (t.b.mbx i).stage = .checking ∧ t.b.on CFU.MBX_RESULT_BUSY 0 i = true ∧
         t.b.get CFU.MBX_CMD_OP 0 i = 3 ∧ t.b.mbx (1 - i) = s.b.mbx (1 - i) ∧
         SameBut [CFU.MBX_CMD.addr 0 i, CFU.MBX_RESULT.addr 0 i] (fun b => { b.noRegs with mbxs := [] }) s t) ∧
     (∀ op, op % 16 = 0 ∨ 4 < op % 16 →
       ∃ t, exec (.mbxBadOp m i op) s = .next t ∧ (t.b.mbx i).stage = .idle ∧ t.b.on CFU.MBX_RESULT_BUSY 0 i = false ∧
         t.b.get CFU.MBX_RESULT_CODE 0 i = 3 ∧ t.b.mapBit HDR.EVT_STAT_BITS i 0xE = true ∧
         SameBut [CFU.MBX_CMD.addr 0 i, CFU.MBX_RESULT.addr 0 i, CFU.MBX_HANDLE.addr 0 i, HDR.EVT_STAT.addr 0xE 0]
           (fun b => { b.noRegs with mbxs := [] }) s t)) ∧
  (∀ (s : State) (i a : Nat), i < 2 → s.b.running = true → (s.b.mbx i).stage = .checking → a = s.b.get CFU.MBX_P0_P0 0 i % 65536 % 32 →
     s.b.handleCheck (s.b.get CFU.MBX_P0_P0 0 i % 65536) = none → s.b.axState a = 2 →
     (s.b.get CFU.MBX_CMD_OP 0 i = 2 → s.b.get CFU.MBX_P1_P1 0 i % 2 = 1 →
       ∃ t, exec (.mailboxChecksComplete i) s = .next t ∧ t.b.axState a = 5 ∧ t.b.mbx i = { stage := .waiting, axis := a } ∧
         SameBut [AX.AX_STATE.addr a 0] (fun b => { b.noRegs with mbxs := [] }) s t) ∧
     (s.b.get CFU.MBX_CMD_OP 0 i = 3 → 1 < s.b.get AX.AX_STATE_SETS a → [1, 2, 4].contains (s.b.axComm a) = true → s.b.get CFU.MBX_P1_P1 0 i % 8 ≠ 0 →
       s.b.get CFU.MBX_P1_P1 0 i % 8 &&& s.b.get AX.AX_STATE_SETS_LIVE a = s.b.get CFU.MBX_P1_P1 0 i % 8 →
       s.b.get CFU.MBX_P1_P1 0 i % 8 ≠ s.b.get AX.AX_STATE_SETS_LIVE a → (∀ j, j < 3 → (s.b.setLegs a j).length = 3 ∨ s.b.setLegs a j = []) →
       (∀ j, j < 3 → bit (s.b.get AX.AX_STATE_SETS_LIVE a) j = true → s.b.setLegs a j ≠ []) →
       ∃ t, exec (.mailboxChecksComplete i) s = .next t ∧ t.b.axState a = 3 ∧ t.b.mbx i = { stage := .waiting, axis := a } ∧
         t.mem = s.mem))

/-- What follows in a mailbox: a queued command starts, a CHECK that passes is answered OK and admits nothing, a CREATE that passes forms
the axis, and the answer after the meridian (R197, R198, R200). The meridians of an axis: FORMING becomes LIVE and its legs take their
owner, REFORMING becomes LIVE again, DESTROYING frees the slot, the legs and the memory of the contexts (R127, R200, R203, R206). -/
def Obligations.MailboxMeridians : Prop :=
  (∀ (s : State) (i : Nat), i < 2 → s.b.running = true →
     ((s.b.mbx i).stage = .queued → (s.b.mbx (1 - i)).stage = .idle → s.b.get CFU.MBX_CMD_OP 0 i = 4 → 1 ≤ s.b.mode → s.b.mode ≤ 4 →
       ∃ t, exec (.mbxQueuedStart i) s = .next t ∧ (t.b.mbx i).stage = .checking ∧ t.b.on CFU.MBX_RESULT_QUEUED 0 i = false ∧
         SameBut [CFU.MBX_RESULT.addr 0 i] (fun b => { b.noRegs with mbxs := [] }) s t) ∧
     (∀ ps, (s.b.mbx i).stage = .checking → s.b.createNo (s.b.mbxArgs i) = none → s.b.createPlace (s.b.mbxArgs i) = (ps, none) →
       s.b.get CFU.MBX_CMD_OP 0 i = 4 →
       ∃ t, exec (.mailboxChecksComplete i) s = .next t ∧ (t.b.mbx i).stage = .idle ∧ t.b.get CFU.MBX_RESULT_CODE 0 i = 0 ∧
         t.b.on CFU.MBX_RESULT_BUSY 0 i = false ∧
         SameBut [CFU.MBX_RESULT.addr 0 i, CFU.MBX_HANDLE.addr 0 i, HDR.EVT_STAT.addr 0xE 0] (fun b => { b.noRegs with mbxs := [] }) s t) ∧
     (∀ ps a, (s.b.mbx i).stage = .checking → s.b.createNo (s.b.mbxArgs i) = none → s.b.createPlace (s.b.mbxArgs i) = (ps, none) →
       s.b.get CFU.MBX_CMD_OP 0 i = 1 → s.b.freeSlot = some a →
       ∃ t, exec (.mailboxChecksComplete i) s = .next t ∧ t.b.mbx i = { stage := .waiting, axis := a } ∧ t.b.axState a = 1 ∧
         t.b.rd AX.AX_CFG a = s.b.rd CFU.MBX_P2 0 i ∧ t.mem = s.mem) ∧
     ((s.b.mbx i).stage = .passed → s.b.get CFU.MBX_CMD_OP 0 i ≠ 1 →
       ∃ t, exec (.mailboxDone i) s = .next t ∧ (t.b.mbx i).stage = .idle ∧ t.b.get CFU.MBX_RESULT_CODE 0 i = 0 ∧
         t.b.on CFU.MBX_RESULT_BUSY 0 i = false ∧ t.b.mapBit HDR.EVT_STAT_BITS i 0xE = true ∧
         SameBut [CFU.MBX_RESULT.addr 0 i, CFU.MBX_HANDLE.addr 0 i, HDR.EVT_STAT.addr 0xE 0] (fun b => { b.noRegs with mbxs := [] }) s t)) ∧
  (∀ (s : State) (a : Nat), a < s.b.numAxes → s.b.running = true → s.b.tbRuns (s.b.axTb a) = true →
     (s.b.axState a = 1 → (s.b.ax a).faults = [] →
       ∃ t, exec (.axisCommitMeridian a) s = .next t ∧ t.b.axState a = 2 ∧
         (∀ leg, leg ∈ s.b.axLegs a → t.b.legOwner leg = if s.b.axComm a = 0 then 2 else 1) ∧ t.mem = s.mem ∧ t.b.ts = s.b.ts) ∧
     (s.b.axState a = 3 →
       ∃ t, exec (.axisReformMeridian a) s = .next t ∧ t.b.axState a = 2 ∧ t.b.mapBit HDR.EVT_STAT_BITS 1 (0x60 + a) = true ∧
         (∀ c, s.b.curCtx a = some c → t.b.get LC.LC_CFG_SETS c = s.b.get AX.AX_STATE_SETS_LIVE a) ∧
         t.mem = s.mem ∧ t.b.ts = s.b.ts) ∧
     (s.b.axState a = 5 →
       ∃ t, exec (.axisDestroyMeridian a) s = .next t ∧ t.b.axState a = 0 ∧ (∀ leg, leg ∈ s.b.axLegs a → t.b.legOwner leg = 0) ∧
         (∀ c x, c ∈ s.b.axCtxs a → 0x490000 + 0x100 * c ≤ x → x < 0x490100 + 0x100 * c → memByte t.mem x = 0) ∧ t.b.ts = s.b.ts))

/-- Command pins: a PWM measurement in range is recorded as u, a loss is flagged, and a signal that recovers without a latch ends it
(R209 to R211; that the quotient of the measurement is rounded down is the model's choice, log entry 15). -/
def Obligations.CommandPins : Prop :=
  ∀ (s : State) (n : Nat), n < 24 → s.b.running = true → s.b.mode ≠ 0 → s.b.get CFU.CP_CFG_MODE 0 n = 2 →
    (∀ high period, 3125 ≤ period → period ≤ 1250000 →
      ∃ t, exec (.cmdPinMeasure n high period) s = .next t ∧ t.b.get CFU.CP_STAT_U 0 n = min 65535 (high * 65536 / period) ∧
        SameBut [CFU.CP_STAT.addr 0 n] (fun b => { b.noRegs with pinSp := [] }) s t) ∧
    (s.b.on CFU.CP_FLAGS_LOSS 0 n = false →
      ∃ t, exec (.cmdLoss n) s = .next t ∧ t.b.on CFU.CP_FLAGS_LOSS 0 n = true ∧ t.b.mapBit HDR.EVT_STAT_BITS 2 0xE = true ∧
        t.mem = s.mem ∧ t.b.ts = s.b.ts) ∧
    (s.b.on CFU.CP_FLAGS_LOSS 0 n = true → s.b.on CFU.CP_CFG_LATCH 0 n = false →
      ∃ t, exec (.cmdPinRecover n) s = .next t ∧ t.b.on CFU.CP_FLAGS_LOSS 0 n = false ∧ OnlyRegs [CFU.CP_FLAGS.addr 0 n] s t)

/-- The constructors of the axis commands by their operation code. -/
def axCommand (op : Nat) (m : Master) (a : Nat) (w : Word) : Instr :=
  match op with
  | 1 => .axCmdStart m a w
  | 2 => .axCmdStop m a w
  | 3 => .axCmdCoast m a w
  | 4 => .axCmdBrakeAsc m a w
  | _ => .axCmdBrakeDc m a w

/-- An axis command that passes every check is accepted: its code is OK and it waits to act. One that fails a check only leaves its code
(R258). The check of an axis command finds an operation code without a meaning before it looks at the axis's state (R258). -/
def Obligations.AxisCommands : Prop :=
  (∀ (s : State) (m : Master) (a : Nat) (w : Word), a < s.b.numAxes → s.writable m (0x60 + a) = true → s.b.axState a ≠ 0 →
     (∀ op, 1 ≤ op → op ≤ 5 → s.b.axCmdCheck a (AX.AX_CMD_OP.into (AX.AX_CMD_GO.into w 1) op) = 0 →
       ∃ t, exec (axCommand op m a w) s = .next t ∧ t.b.get AX.AX_CMD_RES_CODE a = 0 ∧ t.b.get AX.AX_CMD_RES_OP a = op ∧
         t.b.on AX.AX_DRV_CMD_PEND a = true ∧ (t.b.ax a).cmd = some (op, AX.AX_CMD_FORCE.of w == 1) ∧
         SameBut [AX.AX_CMD_RES.addr a 0, AX.AX_DRV.addr a 0] (fun b => { b.noRegs with axes := [] }) s t) ∧
     (s.b.axCmdCheck a (AX.AX_CMD_GO.into w 1) ≠ 0 →
       ∃ t, exec (.axCmdBadOp m a w) s = .next t ∧ t.b.get AX.AX_CMD_RES_CODE a = s.b.axCmdCheck a (AX.AX_CMD_GO.into w 1) % 256 ∧
         OnlyRegs [AX.AX_CMD_RES.addr a 0] s t)) ∧
  (∀ (b : Block) (a : Nat) (w : Word), b.handleCheck (AX.AX_CMD_HANDLE.of w) = none → AX.AX_CMD_HANDLE.of w % 32 = a →
     (AX.AX_CMD_OP.of w = 0 ∨ 5 < AX.AX_CMD_OP.of w) → b.axCmdCheck a w = 3)

/-- An accepted command acts and is pending no more; COAST in RUN leads to IDLE, masked (R258, R280, R286). The timers of the drive states
lead where R261 to R279 say. -/
def Obligations.DriveStates : Prop :=
  (∀ (s : State) (a : Nat), a < s.b.numAxes → s.b.running = true →
     (∀ op force, (s.b.ax a).cmd = some (op, force) →
       ∃ t, exec (.axisCommandAct a) s = .next t ∧ (t.b.ax a).cmd = none ∧ t.b.on AX.AX_DRV_CMD_PEND a = false ∧ t.mem = s.mem) ∧
     ((s.b.ax a).cmd = some (3, false) → s.b.drv a = 3 → s.b.on AX.AX_DRV_UCG a = false →
       ∃ t, exec (.axisCommandAct a) s = .next t ∧ t.b.drv a = 0 ∧ t.b.get AX.AX_DRV_PREV a = 3 ∧
         (∀ leg, leg ∈ s.b.liveLegs a → (t.b.leg leg).maskNext = some true) ∧ t.mem = s.mem)) ∧
  (∀ (s : State) (a : Nat), a < s.b.numAxes → s.b.running = true →
     (s.b.drv a = 1 → (s.b.ax a).catching.steps < 2 →
       ∃ t, exec (.catchTimeout a) s = .next t ∧ t.b.drv a = 2 ∧ t.b.get AX.AX_CATCH_RESULT a = 1 ∧ t.mem = s.mem) ∧
     (s.b.drv a = 2 → s.b.axComm a = 2 → (s.b.ax a).polarity = false →
       ∃ t, exec (.hfiTimeout a) s = .next t ∧ t.b.drv a = 0 ∧ t.b.get AX.AX_DRV_FAIL_CAUSE a = 1 ∧
         t.b.mapBit HDR.EVT_STAT_BITS 9 (0x60 + a) = true ∧ t.mem = s.mem) ∧
     (s.b.drv a = 2 → s.b.axComm a = 1 →
       ∃ t, exec (.alignDone a) s = .next t ∧ t.b.drv a = 3 ∧ t.b.on AX.AX_DRV_ALIGNED a = true ∧
         t.b.rd AX.AX_ALIGN_POS a = s.b.rd FB.FB_PX (s.b.axFb a) ∧ (t.b.ax a).zeroNext = true ∧ t.mem = s.mem) ∧
     (s.b.drv a = 4 → s.b.axGet AX.AX_START_RESTART a ≠ 1 →
       ∃ t, exec (.relockTimeout a) s = .next t ∧ t.b.drv a = 0 ∧ t.b.get AX.AX_DRV_FAIL_CAUSE a = 3 ∧ t.mem = s.mem) ∧
     (s.b.drv a = 4 → s.b.axGet AX.AX_START_RESTART a = 1 →
       ∃ t, exec (.relockTimeout a) s = .next t ∧ t.b.drv a = 1 ∧ t.b.get AX.AX_DRV_FAIL_CAUSE a = 3 ∧
         (t.b.ax a).catching = { start := s.b.now } ∧ t.mem = s.mem) ∧
     (s.b.drv a = 5 →
       ∃ t, exec (.rideTimeout a) s = .next t ∧ t.b.drv a = 6 ∧ t.b.on AX.AX_DRV_ASC_AUTO a = true ∧
         t.b.get AX.AX_DRV_FAIL_CAUSE a = 4 ∧ t.mem = s.mem) ∧
     (s.b.drv a = 3 ∨ s.b.drv a = 8 → (s.b.ax a).stalling = true → s.b.axGet AX.AX_START_STALL_ACT a ≠ 1 →
       ∃ t, exec (.cfuStall a) s = .next t ∧ t.b.on AX.AX_DRV_STALL a = true ∧ (t.b.ax a).stalling = false ∧ t.b.drv a = s.b.drv a ∧
         t.b.mapBit HDR.EVT_STAT_BITS 10 (0x60 + a) = true ∧
         SameBut [AX.AX_DRV.addr a 0, AX.AX_STALL_CNT.addr a 0, HDR.EVT_STAT.addr (0x60 + a) 0]
           (fun b => { b.noRegs with axes := [], wires := [] }) s t) ∧
     (s.b.drv a = 7 → (s.b.ax a).dcHold = false → s.b.axGet AX.AX_TIME2_T_DC a ≠ 0 →
       ∃ t, exec (.dcTimeout a) s = .next t ∧ t.b.drv a = 0 ∧ t.mem = s.mem) ∧
     (s.b.drv a = 7 → (s.b.ax a).dcHold = true →
       ∃ t, exec (.holdTimeout a) s = .next t ∧ t.b.drv a = 0 ∧ (t.b.ax a).dcHold = false ∧ t.mem = s.mem))

/-- Start-up in order: the array read decodes the lifecycle, the digests lead to the PLL or to a FAIL code that holds the block, and the
release of the core starts BOOT with the time-stamp at zero and the context memory clear; a program store that fails its digest check raises
LEA_ENGINE_FAULT (R9, R73 to R78, R220, R420; the last is the model's reading, log entry 102; that the context memory then reads zero is
the model's choice, log entry 33). -/
def Obligations.StartUp : Prop :=
  ∀ s : State,
    (s.b.crm.phase = .arrayRead → s.b.lifecycleFault = none →
      ∃ t, exec .startupArrayReadDone s = .next t ∧ t.b.crm.phase = .digests ∧ t.b.get OTP.LIFECYCLE_STATE = s.b.lifecycle.1 ∧
        t.b.get SEC.SEC_STAT_LC = s.b.lifecycle.1 ∧ t.b.otp = s.b.otp ∧ t.mem = s.mem) ∧
    (∀ code, s.b.crm.phase = .arrayRead → s.b.lifecycleFault = some code →
      ∃ t, exec .startupArrayReadDone s = .next t ∧ t.b.crm.phase = .bootHold ∧ t.b.get ⟨OTP.BOOT_STATUS, 4, 8⟩ = code ∧ t.mem = s.mem) ∧
    (s.b.crm.phase = .digests → s.b.startFault = none → s.b.crm.relocking = false →
      ∃ t, exec .startupDigestsDone s = .next t ∧ t.b.crm.phase = .pllWait ∧
        t.b.get OTP.FEAT_VARIANT = (if s.b.finalised 1 then (s.b.fuseVal 0x021).toNat % 256 else 0x64) ∧ t.mem = s.mem) ∧
    (∀ code unit, s.b.crm.phase = .digests → s.b.startFault = some (code, unit) →
      ∃ t, exec .startupDigestsDone s = .next t ∧ t.b.crm.phase = .bootHold ∧ t.b.get ⟨OTP.BOOT_STATUS, 4, 8⟩ = code ∧
        SameBut [OTP.BOOT_STATUS.addr 0 0] (fun b => { b.noRegs with crm := { b.crm with phase := .held } }) s t) ∧
    (s.b.crm.phase = .locked →
      ∃ t, exec .coreRelease s = .next t ∧ t.b.crm.phase = .run ∧ t.b.ts = 0 ∧ t.b.mode = s.b.mode ∧
        (∀ i, i < 4 → t.b.rd DIR.UID 0 i = s.b.fuseVal (1 + i)) ∧
        (∀ x, 0x490000 ≤ x → x < 0x49A000 → memByte t.mem x = 0) ∧
        (∀ x, x < 0x490000 → memByte t.mem x = memByte s.mem x) ∧
        (∀ e, e < s.b.numEng → bit s.b.draw.1.toNat e = true → s.b.mode = 0 → s.b.fenced (0x1E0 + e) = false →
          ⟨0x1F, 0x1E0 + e, (0x1E0 + e) * 4096, 7, 0⟩ ∈ t.b.wires) ∧
        t.pending = s.pending)

/-- A declared loss of the PLL in operation is recorded for the time after the reset, and resets the core: R28, R45, R46, R383. A reset of
the core, whatever its cause, puts every register at its reset value but those of SHL and the surviving ones, the ones that say how the
reset came about, and the events of legs whose pad changes with it; the count of PLL losses survives (R45, R420, R429). -/
def Obligations.CoreResets : Prop :=
  (∀ s : State, s.b.crm.phase = .run →
     ∃ t, exec .pllLoss s = .next t ∧ t.b.crm.phase = .arrayRead ∧ t.b.crm.relocking = true ∧ t.b.rd CRM.RST_CAUSE = 2 ∧
       t.b.on CRM.CLK_STAT_PLL_LOST = true ∧ t.b.rd FCR.SURV_SRC = 0x80100601#32 ∧
       t.b.rd FCR.SURV_TS_LO = BitVec.ofNat 32 s.b.now ∧ t.b.rd FCR.SURV_TS_HI = BitVec.ofNat 32 (s.b.now / 2 ^ 32) ∧
       t.b.mode = 0 ∧ t.b.ts = 0 ∧ t.mem = s.mem ∧ t.pending = s.pending) ∧
  (∀ (b : Block) (cause : Option Nat),
     (∀ (r : Reg) (i j : Nat), keptAddr (r.addr i j) = false →
       r.addr i j ∉ [CRM.CLK_STAT.addr 0 0, CRM.RST_CAUSE.addr 0 0, OTP.BOOT_STATUS.addr 0 0] →
       (∀ leg, leg < 64 → r.addr i j ≠ HDR.EVT_STAT.addr (0x20 + leg) 0) → (b.resetCore cause false).rd r i j = r.resetW i j) ∧
     (b.resetCore cause false).rd CRM.PLL_LOSS_CNT = b.rd CRM.PLL_LOSS_CNT)

/-- The OTP commands of the array by operation code. -/
def otpCommand (op : Nat) (m : Master) (key force : Byte) : Instr :=
  match op with
  | 1 => .otpRead m key
  | 2 => .otpProgram m key
  | 3 => .otpRestrike m key
  | 4 => .otpFinalise m key force
  | _ => .otpAdvance m key

/-- An OTP command that passes every check runs with what the registers hold at its GO, and the lifecycle arm is spent (R64, R65, R418; the
next command is read as the next one that runs, the model's reading, log entry 101). An OTP command that fails a check only leaves the first
failing check's code; one with an operation code that has no meaning is answered with code 4 (R65; that a refused command leaves the arm is
the model's reading, log entry 101). The end of an OTP command: READ puts the decoded datum into RDATA; PROGRAM sets in the fuses the bits
that the reads show, a bit that reads 1 at a level at every level below too, and no other word changes; one that does not verify has had
every retry of the RETRY that stands at its completion (R64, R67, R71, R72; that RETRY is taken there is the model's choice, log entry 131).
-/
def Obligations.OtpCommands : Prop :=
  (∀ (s : State) (m : Master) (key force : Byte) (op : Nat), s.writable m 2 = true → 1 ≤ op → op ≤ 5 → (op = 4 ∨ force = 0) →
     s.b.otpCheck op (s.b.get OTP.ADDR_WORD) (s.b.get OTP.ADDR_UNIT) (s.b.rd OTP.WDATA) key.toNat force.toNat = 0 →
     ∃ t, exec (otpCommand op m key force) s = .next t ∧ t.b.on OTP.STATUS_BUSY = true ∧ t.b.on SEC.LC_ARM_ARMED = false ∧
       t.b.otp.run = some ⟨op, s.b.get OTP.ADDR_WORD, s.b.get OTP.ADDR_MARGIN, s.b.get OTP.ADDR_UNIT, s.b.rd OTP.WDATA, force.toNat,
         s.b.otpTargets op (s.b.get OTP.ADDR_WORD) (s.b.get OTP.ADDR_UNIT) (s.b.rd OTP.WDATA) force.toNat⟩ ∧
       t.b.otp.fuses = s.b.otp.fuses ∧
       SameBut [OTP.CMD.addr 0 0, OTP.STATUS.addr 0 0, SEC.LC_ARM.addr 0 0] (fun b => { b.noRegs with otp := {} }) s t) ∧
  (∀ (s : State) (m : Master) (key force : Byte), s.writable m 2 = true →
     (∀ op code, 1 ≤ op → op ≤ 5 → (op = 4 ∨ force = 0) → code ≠ 0 →
       s.b.otpCheck op (s.b.get OTP.ADDR_WORD) (s.b.get OTP.ADDR_UNIT) (s.b.rd OTP.WDATA) key.toNat force.toNat = code →
       ∃ t, exec (otpCommand op m key force) s = .next t ∧ t.b.get OTP.STATUS_RESULT = code ∧ t.b.get OTP.STATUS_OP = op ∧
         t.b.get OTP.STATUS_SEQ = (s.b.get OTP.STATUS_SEQ + 1) % 256 ∧ OnlyRegs [OTP.STATUS.addr 0 0] s t) ∧
     (∀ op, (op % 16 = 0 ∨ 5 < op % 16) → s.b.on OTP.STATUS_BUSY = false →
       ∃ t, exec (.otpUnknownOp m op key) s = .next t ∧ t.b.get OTP.STATUS_RESULT = 4 ∧ t.b.get OTP.STATUS_OP = op % 16 ∧
         t.b.get OTP.STATUS_SEQ = (s.b.get OTP.STATUS_SEQ + 1) % 256 ∧ OnlyRegs [OTP.STATUS.addr 0 0] s t)) ∧
  (∀ (s : State) (reads : List FuseRaw) (n : Nat) (r : OtpRun), s.b.otp.run = some r → s.b.running = true →
     (∀ d x, r.op = 1 → r.margin = 0 → fuseDecode (s.b.fuse r.word).normal = some (d, x) →
       ∃ t, exec (.otpCommandDone reads n) s = .next t ∧ t.b.rd OTP.RDATA = d ∧ t.b.on OTP.STATUS_BUSY = false ∧
         t.b.get OTP.STATUS_RESULT = 0 ∧ t.b.otp.run = none ∧ t.b.otp.fuses = s.b.otp.fuses ∧
         SameBut [OTP.RDATA.addr 0 0, OTP.RCHECK.addr 0 0, OTP.STATUS.addr 0 0] (fun b => { b.noRegs with otp := {} }) s t) ∧
     (∀ w cw f hi mid, r.op = 2 → hi = (s.b.fuse w).high ||| (f.high &&& cw) → mid = (s.b.fuse w).normal ||| (f.normal &&& cw) ||| hi → r.targets = [(w, cw)] → reads = [f] → s.b.otp.lost = false →
       ∃ t, exec (.otpCommandDone reads n) s = .next t ∧ t.b.on OTP.STATUS_BUSY = false ∧ t.b.otp.run = none ∧
         t.b.fuse w = ⟨mid, (s.b.fuse w).low ||| (f.low &&& cw) ||| mid, hi⟩ ∧
         (∀ k, k ≠ w → t.b.fuse k = s.b.fuse k) ∧
         t.b.get OTP.STATUS_RESULT = (if hi &&& cw = cw then 0 else 14) ∧
         t.b.get OTP.STATUS_PULSES = (if hi &&& cw = cw then min n (s.b.get OTP.PROG_CFG_RETRY) else s.b.get OTP.PROG_CFG_RETRY) ∧
         t.mem = s.mem))

/-- The registers of the HSP page that the end of every frame writes. -/
def frameRegs : List Nat :=
  [HSP.LAST_FRAME, HSP.LAST_ADDR, HSP.WORDS, HSP.FRAME_CNT, HSP.ERR_CNT, HSP.DISCARD_CNT].map (fun r => r.addr 0 0)

/-- Frames carry 32-bit data words and full addresses and have no trailer. -/
def Sys2Proof.Machine.Block.plainFrames (b : Block) : Bool :=
  !b.on HSP.FRAME_CFG_CRC_EN && b.get HSP.FRAME_CFG_WIDTH == 2 && b.on HSP.FRAME_CFG_ADDR24

/-- The address of a frame's first data word. -/
def frameAddr (h : HspHdr) : Nat := h.addr.toNat / 4 * 4

/-- READ, WRITE and WRITE_MASKED of one word do to the addressed word what the bus does for the host, and the frame records the flags of
that access; a word of a read that is not ready in time goes out as ones, with UNDERRUN (R94 to R98, R107). -/
def Obligations.WordFrames : Prop :=
  ∀ (s : State) (h : HspHdr), s.served = true → s.b.plainFrames = true →
    (∃ t, exec (.hspRead h 1 []) s = .next t ∧ t.b.hsp.data = [(s.busRead .hsp (frameAddr h) 1).1] ∧
      t.b.get HSP.LAST_FRAME_CODE = 0 ∧ t.b.on HSP.LAST_FRAME_UNMAPPED = (s.busRead .hsp (frameAddr h) 1).2.1.unmapped ∧
      t.b.on HSP.LAST_FRAME_FENCED = (s.busRead .hsp (frameAddr h) 1).2.1.fenced ∧
      SameBut frameRegs (fun b => { b.noRegs with hsp := {} }) (s.busRead .hsp (frameAddr h) 1).2.2.2 t) ∧
    (∃ t, exec (.hspRead h 1 [0]) s = .next t ∧ t.b.hsp.data = [0xFFFFFFFF#32] ∧ t.b.get HSP.LAST_FRAME_CODE = 7 ∧
      SameBut frameRegs (fun b => { b.noRegs with hsp := {}, wires := [] }) s t) ∧
    (∀ w u, s.b.mode ≠ 0 → u = s.busWrite .hsp (frameAddr h) w 0xFFFFFFFF#32 → u.2.served = true →
      ∃ t, exec (.hspWrite h [w]) s = .next t ∧ t.b.get HSP.LAST_FRAME_CODE = 0 ∧ t.b.on HSP.LAST_FRAME_REFUSED = u.1.refused ∧
        t.b.on HSP.LAST_FRAME_UNMAPPED = u.1.unmapped ∧ t.b.on HSP.LAST_FRAME_FENCED = u.1.fenced ∧
        t.b.on HSP.LAST_FRAME_LOCKED = u.1.locked ∧ SameBut frameRegs (fun b => { b.noRegs with hsp := {} }) u.2 t) ∧
    (∀ mask w u, s.b.mode ≠ 0 → u = s.busWrite .hsp (frameAddr h) w mask → u.2.served = true →
      ∃ t, exec (.hspWriteMasked h [(mask, w)]) s = .next t ∧ t.b.get HSP.LAST_FRAME_CODE = 0 ∧
        t.b.on HSP.LAST_FRAME_REFUSED = u.1.refused ∧ SameBut frameRegs (fun b => { b.noRegs with hsp := {} }) u.2 t)

/-- Ring frames of one whole entry: a push reaches the ring, a pop answers the head entry and releases it (R101, R345, R346). Debug frames:
an end of the session, a level granted before SEALED, and an answer to a challenge taken for verification (R426, R427). -/
def Obligations.RingAndDebugFrames : Prop :=
  (∀ (s : State) (h : HspHdr) (n : Nat), s.served = true → s.b.plainFrames = true → h.late = [] → s.b.mode ≠ 0 → n = h.addr.toNat % 65536 % 64 →
     s.b.ringState n = 1 → s.b.qreServes = true → (∀ r, r < s.b.numRings → (s.b.ring r).staged = []) → 0 < s.b.esize n →
     (∀ entry u, s.b.frameRing (h.addr.toNat % 65536) RG.RG_ENDS_PROD = 0 → entry.length = s.b.esize n → s.pushEntry n entry = (0, u) →
       ∃ t, exec (.hspRingPush h entry) s = .next t ∧ t.b.get HSP.LAST_FRAME_CODE = 0 ∧
         SameBut frameRegs (fun b => { b.noRegs with hsp := {} }) u t) ∧
     (∀ ws u, s.b.frameRing (h.addr.toNat % 65536) RG.RG_ENDS_CONS = 0 → s.b.occ n ≠ 0 → s.headEntry n .hsp = (ws, u) →
       ∃ t, exec (.hspRingPop h (s.b.esize n)) s = .next t ∧ t.b.get HSP.LAST_FRAME_CODE = 0 ∧ t.b.hsp.data = ws ∧
         t.b.ridx n = (s.b.ridx n + 1) % 65536 ∧ t.mem = u.mem)) ∧
  (∀ (s : State) (h : HspHdr), s.served = true → s.b.plainFrames = true → s.b.on SEC.SEC_STAT_LOCKOUT = false → s.b.sec.response = none →
     (∀ level, level = h.addr.toNat % 4 → level ≤ s.b.maxLevel → s.b.lc0 ≠ 2 →
       ∃ t, exec (.debugEnter h) s = .next t ∧ t.b.get SEC.SEC_STAT_LEVEL = level ∧ t.b.get SEC.DBG_STAT_REQ = level ∧
         t.b.get SEC.DBG_STAT_CODE = 0 ∧ t.b.get HSP.LAST_FRAME_CODE = 0 ∧ t.b.sec.chal = false ∧
         SameBut (SEC.SEC_STAT.addr 0 0 :: SEC.DBG_STAT.addr 0 0 :: HDR.EVT_STAT.addr 3 0 :: frameRegs)
           (fun b => { b.noRegs with hsp := {}, sec := {} }) s t) ∧
     (∀ (data : List Word), data.length = 32 → s.b.sec.chal = true → s.b.get SEC.DBG_STAT_SEQ = h.addr.toNat % 65536 →
       ∃ t, exec (.debugChallenge h data) s = .next t ∧ t.b.sec = { s.b.sec with response := some data } ∧
         t.b.get HSP.LAST_FRAME_CODE = 0 ∧ SameBut frameRegs (fun b => { b.noRegs with hsp := {}, sec := {} }) s t))

/-- STATUS and IDENT answer with their words, then zeros, after the status word of the frame before, and change nothing but the frame's own
record (R94, R95, R107). A frame with a code that no row of R94 has, one that ends before its data phase and one that the select timeout
cuts there take no effect: only the frame's own record, and a source on its way to FCR (R94, R102, R103, R104, R105). -/
def Obligations.StatusAndBadFrames : Prop :=
  (∀ (s : State) (h : HspHdr) (n : Nat), s.served = true → s.b.plainFrames = true → 0 < n → h.late = [] →
     (∃ t, exec (.hspStatus h n) s = .next t ∧ t.b.hsp.status = s.b.frameStatus ∧
       t.b.hsp.data = (List.range n).map (fun k => [s.b.rd OTP.BOOT_STATUS, s.b.devStatus].getD k 0) ∧ t.b.get HSP.LAST_FRAME_CODE = 0 ∧
       SameBut frameRegs (fun b => { b.noRegs with hsp := {} }) s t) ∧
     (∃ t, exec (.hspIdent h n) s = .next t ∧ t.b.hsp.status = s.b.frameStatus ∧
       t.b.hsp.data = (List.range n).map (fun k => s.b.identWords.getD k 0) ∧ t.b.get HSP.LAST_FRAME_CODE = 0 ∧
       SameBut frameRegs (fun b => { b.noRegs with hsp := {} }) s t)) ∧
  (∀ (s : State) (h : HspHdr) (code : Byte), s.served = true →
     (∀ data, code.toNat ∉ hspCodes →
       ∃ t, exec (.hspBadCommand h code data) s = .next t ∧ t.b.get HSP.LAST_FRAME_CODE = 1 ∧
         SameBut frameRegs (fun b => { b.noRegs with hsp := {}, wires := [] }) s t) ∧
     (code.toNat ∈ hspCodes → s.b.mode ≠ 0 →
       (∃ t, exec (.hspShortFrame h code [] false) s = .next t ∧ t.b.get HSP.LAST_FRAME_CODE = 3 ∧ t.b.on HSP.LAST_FRAME_DISCARD = true ∧
         SameBut frameRegs (fun b => { b.noRegs with hsp := {}, wires := [] }) s t) ∧
       (∃ t, exec (.hspSelectTimeout h code [] false) s = .next t ∧ t.b.get HSP.LAST_FRAME_CODE = 4 ∧
         (s.b.fenced 4 = false → ⟨0x08, 4, 4 * 4096, 7, 0⟩ ∈ t.b.wires) ∧
         SameBut frameRegs (fun b => { b.noRegs with hsp := {}, wires := [] }) s t)))

/-- In BOOT the host writes nothing: every frame that would write a word or move a ring, however it is addressed and however it ends, leaves
memory and every register but the frame's own record as they were, and answers MODE_DENIED (R76, R94, R104; a frame of the
row for unknown codes that carries a known one acts as that command: the model's choice, log entry 46). -/
def Obligations.BootShutsOutHost : Prop :=
  ∀ (s : State) (h : HspHdr) (c : Instr), s.served = true → s.b.mode = 0 →
    ((∃ data, c = .hspWrite h data) ∨ (∃ pairs, c = .hspWriteMasked h pairs) ∨ (∃ data, c = .hspRingPush h data) ∨
      (∃ n, c = .hspRingPop h n) ∨
      (∃ code data w, BitVec.toNat code ∈ [0x20, 0x24, 0x40, 0x41] ∧
        (c = .hspBadCommand h code data ∨ c = .hspShortFrame h code data w ∨ c = .hspSelectTimeout h code data w))) →
    ∃ t, exec c s = .next t ∧ t.b.get HSP.LAST_FRAME_CODE = 2 ∧
      SameBut frameRegs (fun b => { b.noRegs with hsp := {}, wires := [] }) s t

/-- A write leaves alone the read-only bits, the bits of a locked page that only an unlocked one takes, and the reserved bits; every other
bit takes the written value, and a write-one-to-clear bit is cleared by a one. -/
def Obligations.AccessCodes : Prop :=
  ∀ (r : Reg) (locked : Bool) (old w : Word) (k : Nat), k < 32 →
    (r.merge locked old w).getLsbD k =
      if (BitVec.ofNat 32 r.w1c).getLsbD k && w.getLsbD k then false
      else if (BitVec.ofNat 32 r.rw).getLsbD k || ((BitVec.ofNat 32 r.rwl).getLsbD k && !locked) then w.getLsbD k
      else old.getLsbD k

/-- The body of a fenced page: a write of any master is discarded with FENCED and counts as no refusal, a read answers with the word as it
stood at the fence (R85). A page that does not exist and the gap at the end of a page header behave alike: a read gives zero, a write is
discarded, both with UNMAPPED and with no other effect; at an offset of a fenced page's body where no register stands FENCED shows too (R2,
R82, R83, R85). -/
def Obligations.ClosedPages : Prop :=
  (∀ (s : State) (m : Master) (a : Nat) (x : Place), s.b.placeAt (a / 4 * 4) = some x → 0x40 ≤ x.reg.off → s.b.fenced (x.reg.page + x.i) = true →
     (∀ w mask, s.busWrite m a w mask = ({ fenced := true }, s)) ∧
     (∀ access, x.reg ≠ SEC.TRACE →
       s.busRead m (a / 4 * 4) access = (Tab.get 0 s.b.snap (x.reg.addr x.i x.j), { fenced := true }, false, s))) ∧
  (∀ (s : State) (m : Master) (a : Nat), a < 0x200000 →
     (s.b.pageExists (a / 4096) = false ∨ 0x24 ≤ a % 4096 ∧ a % 4096 < 0x40 →
       (∀ w mask, s.busWrite m a w mask = ({ unmapped := true }, s)) ∧
       (∀ access, s.busRead m a access = (0, { unmapped := true }, false, s))) ∧
     (s.b.pageExists (a / 4096) = true → s.b.fenced (a / 4096) = true → 0x40 ≤ a % 4096 → s.b.placeAt (a / 4 * 4) = none →
       (∀ w mask, s.busWrite m a w mask = ({ unmapped := true, fenced := true }, s)) ∧
       (∀ access, s.busRead m (a / 4 * 4) access = (0, { unmapped := true, fenced := true }, false, s))))

/-- A register write by a master to a register of the page of the feedback channels' global block stores by the access codes; one to an
existing page's lock locks it with the right key and is refused with any other (R6, R8, R84, R86). A read of the low word of a 64-bit
counter latches its high word for the master; the next read of the high word by that master returns the latched value, whatever the counter
holds then, and empties the latch (R89). -/
def Obligations.RegisterWrites : Prop :=
  (∀ (s : State) (m : Master), s.b.busOpen m = true →
     (∀ a w r j, s.b.placeAt (a % 2 ^ 24 / 4 * 4) = some ⟨r, 0, j⟩ → r.page = 0x11 → 0x40 ≤ r.off → s.b.fenced 0x11 = false →
       ∃ t, exec (.registerWrite m a w) s = .next t ∧ t.b.rd r 0 j = r.merge (s.b.locked 0x11) (s.b.rd r 0 j) w ∧
         OnlyRegs [r.addr 0 j] s t) ∧
     (∀ page w, s.b.pageExists page = true → HDR.PAGE_LOCK_LOCK.of w = 1 → HDR.PAGE_LOCK_KEY.of w = 0xA5 →
       ∃ t, exec (.pageLock m page w) s = .next t ∧ t.b.locked page = true ∧
         (page ≠ 0x13 → OnlyRegs [HDR.PAGE_STAT.addr page 0] s t) ∧ (page = 0x13 → t.b.shl.checking = true ∧ t.mem = s.mem)) ∧
     (∀ page w, s.b.pageExists page = true → HDR.PAGE_LOCK_LOCK.of w = 1 → HDR.PAGE_LOCK_KEY.of w ≠ 0xA5 →
       ∃ t, exec (.pageLock m page w) s = .next t ∧ t.b.locked page = s.b.locked page ∧ t.b.get HDR.REFUSAL_CODE page = 0xFF ∧
         t.b.get HDR.REFUSAL_OFFSET page = 8 ∧ t.b.get HDR.REFUSAL_MASTER page = Master.refusalCode m ∧
         OnlyRegs [HDR.REFUSAL.addr page 0, HDR.REFUSAL_CNT.addr page 0] s t)) ∧
  (∀ (s : State) (m : Master) (a : Nat) (x : Place) (hi : Reg) (flag : Option Reg), s.b.placeAt (a % 2 ^ 24 / 4 * 4) = some x →
     (x.reg, hi, flag) ∈ counters64 → s.b.readOpen m = true → s.b.fenced (x.reg.page + x.i) = false →
     Tab.get none s.b.latches (latchKey m (x.reg.addr x.i x.j)) = none →
     ∃ t, exec (.counterLowRead m a) s = .next t ∧ t.mem = s.mem ∧ t.b.regs = s.b.regs ∧
       Tab.get none t.b.latches (latchKey m (hi.addr x.i x.j)) = some (s.b.live hi x.i x.j) ∧
       (∀ (b : Block), b.latches = t.b.latches → b.fenced (hi.page + x.i) = false →
         (b.readBy m ⟨hi, x.i, x.j⟩).1 = s.b.live hi x.i x.j ∧
         Tab.get none (b.readBy m ⟨hi, x.i, x.j⟩).2.latches (latchKey m (hi.addr x.i x.j)) = none))

/-- A bank that is not READY serves no master: a read gives zero with UNMAPPED, a write is discarded and refused with BANK_NOT_READY whoever
makes it, and an access of the SPU takes an access fault. -/
def Obligations.BankNotReady : Prop :=
  ∀ (s : State) (a n : Nat), bankOf a = some n → s.b.bankReady n = false →
    (∀ m access, s.busRead m a access = (0, { unmapped := true }, false, s)) ∧
    (∀ m w mask, (s.busWrite m a w mask).1 = { refused := true } ∧ (s.busWrite m a w mask).2.mem = s.mem ∧
      (s.busWrite m a w mask).2.b.get HDR.REFUSAL_CODE (bankPage n) = 2 ∧
      OnlyRegs [HDR.REFUSAL.addr (bankPage n) 0, HDR.REFUSAL_CNT.addr (bankPage n) 0] s (s.busWrite m a w mask).2) ∧
    (∀ (h : HspHdr), s.served = true → s.b.plainFrames = true → frameAddr h = a →
      ∃ t, exec (.hspRead h 1 []) s = .next t ∧ t.b.hsp.data = [0] ∧ t.b.on HSP.LAST_FRAME_UNMAPPED = true) ∧
    (∀ width w seen, s.b.busOpen .spu = true →
      (∃ t, exec (.spuBankAccess false width a w seen) s = .next t ∧ t.b.spu.fault = true) ∧
      (∃ t, exec (.spuBankAccess true width a w seen) s = .next t ∧ t.b.spu.fault = true ∧ t.mem = s.mem))

/-- An access of the SPU within one word of a READY bank, of one, two or four bytes: a load of a word without an upset returns its bytes, a store to
a bank of the SPU writes exactly its bytes, whether a stripe protects them or not, and a store to a bank of another owner is refused (R334,
R338). That the lowest address holds the least significant byte is the model's reading, log entry 51. -/
def Obligations.SpuBankWords : Prop :=
  ∀ (s : State) (a n : Nat) (w : Word) (width : SpuWidth), s.b.busOpen .spu = true → a % 4 + spuBytes width ≤ 4 → bankOf a = some n →
    s.b.bankReady n = true →
    (s.b.upsetAt (a / 4 * 4) = 0 →
      ∃ t, exec (.spuBankAccess false width a w .clean) s = .next t ∧ t.b.spu.fault = false ∧
        (∀ i, i < spuBytes width → byteOf t.b.spu.data i = memByte s.mem (a + i)) ∧ (∀ i, spuBytes width ≤ i → byteOf t.b.spu.data i = 0) ∧
        t.b.spu = { s.b.spu with data := t.b.spu.data, fault := false } ∧ SameBut [] (fun b => { b with spu := {} }) s t) ∧
    (s.b.bankOwner n = 0 → s.b.upsetAt (a / 4 * 4) ≠ 2 →
      ∃ t, exec (.spuBankAccess true width a w .clean) s = .next t ∧ t.b.spu.fault = false ∧ t.b.upsetAt (a / 4 * 4) = 0 ∧
        (∀ i, i < spuBytes width → memByte t.mem (a + i) = byteOf w i) ∧
        (∀ x, x < 0x1000000 → (x < a ∨ a + spuBytes width ≤ x) → memByte t.mem x = memByte s.mem x)) ∧
    (s.b.bankOwner n ≠ 0 →
      ∃ t, exec (.spuBankAccess true width a w .clean) s = .next t ∧ t.mem = s.mem ∧ t.b.get HDR.REFUSAL_CODE (bankPage n) = 1)

/-- What happens to banks: initialisation clears, a handover waits and then changes the owner, twilight and wake, the end of the scrub of a
seized bank (R329, R335, R339). -/
def Obligations.BankLife : Prop :=
  ∀ (s : State) (n : Nat), n < 44 →
    (s.b.running = true → s.b.bankPwr n = 4 → s.b.on BK.BANK_PWR_TWI n = false →
      ∃ t, exec (.bankInitDone n) s = .next t ∧ t.b.bankReady n = true ∧ t.b.bankPwr n = 0 ∧
        (∀ x, (bankRange n).1 ≤ x → x < (bankRange n).2 → memByte t.mem x = 0) ∧
        (∀ x, x < (bankRange n).1 ∨ (bankRange n).2 ≤ x → memByte t.mem x = memByte s.mem x)) ∧
    (∀ w, s.writable .spu (0x110 + n) = true → s.b.bankOwner n ≠ 4 → BK.BANK_OWN_OWNER.of w < 4 → s.b.bankRings n = [] →
      s.b.bankSessions n = [] →
      ∃ t, exec (.bankHandover .spu n w) s = .next t ∧ Tab.get none t.b.handover n = some (BK.BANK_OWN_OWNER.of w) ∧
        t.b.bankOwner n = s.b.bankOwner n ∧ SameBut [] (fun b => { b with handover := [] }) s t) ∧
    (∀ o, s.b.running = true → Tab.get none s.b.handover n = some o → s.b.bankOwner n ≠ 4 →
      ∃ t, exec (.bankHandoverTakeEffect n) s = .next t ∧ t.b.bankOwner n = o % 8 ∧ Tab.get none t.b.handover n = none ∧
        SameBut [BK.BANK_OWN.addr n 0] (fun b => { b.noRegs with handover := [] }) s t) ∧
    (∀ m w, s.writable m (0x110 + n) = true → s.b.bankRings n = [] → s.b.bankSessions n = [] → s.b.bankPwr n = 0 ∨ s.b.bankPwr n = 2 →
      s.b.wakeWait = 0 →
      ∃ t, exec (.bankTwilight m n w) s = .next t ∧ t.b.bankPwr n = 1 ∧ t.b.bankReady n = false ∧ t.b.on BK.BANK_PWR_TWI n = true ∧
        SameBut [BK.BANK_PWR.addr n 0, BK.BANK_STAT.addr n 0] (fun b => { b.noRegs with wakeWait := 0 }) s t) ∧
    (∀ m w, s.writable m (0x110 + n) = true → s.b.bankPwr n = 1 → s.b.wakeWait = 0 →
      ((List.range 44).filter (fun i => s.b.bankPwr i == 2)).length < 8 →
      ∃ t, exec (.bankWake m n w) s = .next t ∧ t.b.bankPwr n = 2 ∧ t.b.on BK.BANK_PWR_TWI n = false ∧ t.b.wakeWait = 0 ∧
        OnlyRegs [BK.BANK_PWR.addr n 0, BK.BANK_STAT.addr n 0] s t) ∧
    (s.b.running = true → s.b.bankPwr n = 2 → s.b.wakeWait = 0 →
      ∃ t, exec (.bankReady n) s = .next t ∧ t.b.bankReady n = true ∧ t.b.bankPwr n = 0 ∧
        t.b.mapBit HDR.EVT_STAT_BITS 2 (bankPage n) = true ∧ OnlyRegs [BK.BANK_STAT.addr n 0, HDR.EVT_STAT.addr (bankPage n) 0] s t) ∧
    (s.b.running = true → s.b.bankOwner n = 4 → s.b.bankRings n = [] →
      ∃ t, exec (.quarantineScrubDone n) s = .next t ∧ t.b.bankOwner n = 0 ∧ t.b.on BK.BANK_STAT_OFFERED n = true ∧
        (∀ x, (bankRange n).1 ≤ x → x < (bankRange n).2 → memByte t.mem x = 0) ∧
        (∀ x, x < 0x1000000 → x < (bankRange n).1 ∨ (bankRange n).2 ≤ x → memByte t.mem x = memByte s.mem x))

/-- The scrubber rewrites a word with a correctable upset and rebuilds one that is lost from the other words of its intact stripe (R330,
R332, R340). The end of a stripe's parity recompute makes every parity byte at the offsets it had still to pass the exclusive or of the
eight banks' bytes there, and ends the stripe's BUSY. A write of STRIPE_EN starts one at offset 0 for each stripe that it newly enables, and
ends at once the protection of each that it clears; while a recompute runs, a write that changes STRIPE_EN is refused with STRIPE_BUSY
(R331, R333; that one which leaves it as it is is none, log entry 54). -/
def Obligations.ParityHeals : Prop :=
  (∀ (s : State) (a n : Nat), s.b.running = true → s.b.on MEM.MEM_CTL_SCRUB_EN = true → a % 4 = 0 → bankOf a = some n →
     s.b.bankReady n = true →
     (s.b.upsetAt a = 0 →
       ∃ t, exec (.bankScrub a .single) s = .next t ∧ t.b.upsetAt a = 0 ∧ t.mem = s.mem ∧
         SameBut [MEM.CORR_CNT.addr 0 0, BK.BANK_CORR.addr n 0] (fun b => { b.noRegs with upset := [] }) s t) ∧
     (s.b.striped n a = true → s.b.stripeReady (n / 8) = true → (∀ x, x ∈ stripeMates n a → s.b.upsetAt x ≠ 2) →
       ∃ t, exec (.bankScrub a .double) s = .next t ∧ t.b.upsetAt a = 0 ∧
         memWord t.mem a = (stripeMates n a).foldl (fun x p => x ^^^ memWord s.mem p) 0 ∧
         (∀ x, x < 0x1000000 → (x < a ∨ a + 4 ≤ x) → memByte t.mem x = memByte s.mem x))) ∧
  (∀ s : State,
     (∀ k, k < 5 → Memory.wf s.mem = true → s.b.running = true → s.b.mapBit MEM.MEM_STAT_STRIPE_BUSY k = true →
       (∀ i, i < 8 → s.b.bankPwr (8 * k + i) ≠ 4) →
       ∃ t, exec (.stripeRecomputeDone k) s = .next t ∧ t.b.mapBit MEM.MEM_STAT_STRIPE_BUSY k = false ∧
         (∀ x, 4 * s.b.passedTo k ≤ x → x < 0x10000 → memByte t.mem (parityBase k + x) =
           (List.range 8).foldl (fun v i => v ^^^ memByte s.mem (0x200000 + (8 * k + i) * 0x10000 + x)) 0) ∧
         (∀ x, x < 0x1000000 ∨ (parityBase k ≤ x ∧ x < parityBase k + 4 * s.b.passedTo k) → memByte t.mem x = memByte s.mem x)) ∧
     (∀ m w, s.writable m 0xA = true → s.b.get MEM.MEM_STAT_STRIPE_BUSY = 0 →
       ∃ t, exec (.stripeEnable m w) s = .next t ∧ t.b.get MEM.MEM_CTL_STRIPE_EN = MEM.MEM_CTL_STRIPE_EN.of w ∧
         (∀ k, k < 5 → t.b.mapBit MEM.MEM_STAT_STRIPE_BUSY k = (bit (MEM.MEM_CTL_STRIPE_EN.of w) k && !s.b.mapBit MEM.MEM_CTL_STRIPE_EN k) ∧
           (t.b.mapBit MEM.MEM_STAT_STRIPE_BUSY k = true → t.b.passedTo k = 0)) ∧
         (∀ n a, n < 40 → bit (MEM.MEM_CTL_STRIPE_EN.of w) (n / 8) = false → t.b.striped n a = false) ∧
         SameBut [MEM.MEM_CTL.addr 0 0, MEM.MEM_STAT.addr 0 0] (fun b => { b.noRegs with passed := [] }) s t) ∧
     (∀ m w, s.writable m 0xA = true → s.b.get MEM.MEM_STAT_STRIPE_BUSY ≠ 0 → MEM.MEM_CTL_STRIPE_EN.of w ≠ s.b.get MEM.MEM_CTL_STRIPE_EN →
       ∃ t, exec (.stripeEnable m w) s = .next t ∧ t.b.get HDR.REFUSAL_CODE 0xA = 6 ∧
         OnlyRegs [HDR.REFUSAL.addr 0xA 0, HDR.REFUSAL_CNT.addr 0xA 0] s t))

/-- A ring is created empty and LIVE, thawed from FROZEN, and destroyed with its generation advanced, so that no handle of it is good any
more (R342, R344, R349, R350). An entry at a ring without room: under WAIT it is refused and nothing changes, under OVERWRITE the oldest
entry gives way, under KEEP_FIRST the first that is lost leaves the marker in the reserved slot and sets MARK, and behind the marker an
entry is lost and counted (R346; that the marker carries the lost entry's time-stamp is the model's reading, log entry 118). An entry whose
bank is not READY or not QRE's is refused on the bank's page and written nowhere (R334, R341; that RING_FULL answers it is the model's
choice, log entry 129). -/
def Obligations.RingLife : Prop :=
  (∀ (s : State) (m : Master) (n : Nat) (w : Word), n < s.b.numRings → s.writable m (0xD0 + n) = true →
     (s.b.ringState n = 0 → 1 ≤ s.b.get RG.RG_CFG_DLOG n → s.b.get RG.RG_CFG_DLOG n ≤ 12 → 1 ≤ s.b.esize n → s.b.esize n ≤ 512 →
       ringTypeOk (s.b.ringType n) (s.b.policy n) (s.b.esize n) (s.b.get RG.RG_ENDS_PROD n) (s.b.get RG.RG_ENDS_CONS n) = true →
       s.b.storageOk n = true →
       ∃ t, exec (.rgCreate m n w) s = .next t ∧ t.b.ringState n = 1 ∧ t.b.occ n = 0 ∧ t.b.ringCheck (t.b.get RG.RG_HANDLE_HANDLE n) = 0 ∧
         t.b.ringGen n = s.b.ringGen n ∧ t.b.on RG.RG_HANDLE_VALID n = true ∧
         SameBut [RG.RG_WIDX.addr n 0, RG.RG_RIDX.addr n 0, RG.RG_STAT.addr n 0, RG.RG_HANDLE.addr n 0]
           (fun b => { b.noRegs with rings := [] }) s t) ∧
     (s.b.rgHandle n w = 0 → s.b.on RG.RG_STAT_ATTACHED n = false →
       ∃ t, exec (.rgDestroy m n w) s = .next t ∧ t.b.ringState n = 0 ∧ t.b.ringGen n = (s.b.ringGen n + 1) % 1024 ∧
         t.b.ring n = {} ∧ t.mem = s.mem) ∧
     (s.b.rgHandle n w = 0 → s.b.ringState n = 2 → s.b.ringFenced n = false →
       ∃ t, exec (.rgThaw m n w) s = .next t ∧ t.b.ringState n = 1 ∧ OnlyRegs [RG.RG_STAT.addr n 0] s t)) ∧
  (∀ (s : State) (n : Nat) (entry : List Word), n < 64 →
     (s.b.policy n = 2 → s.b.on RG.RG_STAT_MARK n = false → s.b.occ n + 1 = s.b.depth n → s.b.slotRefusal n = none → 3 ≤ s.b.esize n →
       s.b.ringType n ≠ 6 → s.b.entryAddr n (s.b.widx n) + 4 * s.b.esize n ≤ 0x490000 →
       (s.pushEntry n entry).1 = 0 ∧ (s.pushEntry n entry).2.b.on RG.RG_STAT_MARK n = true ∧
       (s.pushEntry n entry).2.b.get RG.RG_LOST_COUNT n = min 65535 (s.b.get RG.RG_LOST_COUNT n + 1) ∧
       (s.pushEntry n entry).2.b.widx n = (s.b.widx n + 1) % 65536 ∧ (s.pushEntry n entry).2.b.ridx n = s.b.ridx n ∧
       memWord (s.pushEntry n entry).2.mem (s.b.entryAddr n (s.b.widx n)) = 0x80000000#32 ∧
       (∀ i, 0 < i → i < s.b.esize n → memWord (s.pushEntry n entry).2.mem (s.b.entryAddr n (s.b.widx n) + 4 * i) =
         if i ≤ 2 then entry.getD i 0 else 0)) ∧
     (s.b.occ n = s.b.depth n →
     (s.b.policy n = 0 → s.pushEntry n entry = (10, s)) ∧
     (∀ k c a, s.b.policy n = 1 → s.b.slotRefusal n = some (k, c, a) →
       (s.pushEntry n entry).1 = 10 ∧ (s.pushEntry n entry).2.mem = s.mem ∧ (s.pushEntry n entry).2.b.get HDR.REFUSAL_CODE (bankPage k) = c ∧
       (s.pushEntry n entry).2.b.widx n = s.b.widx n ∧ (s.pushEntry n entry).2.b.ridx n = s.b.ridx n) ∧
     (s.b.policy n = 1 → s.b.slotRefusal n = none → s.b.spuPop = none →
       (s.pushEntry n entry).1 = 0 ∧ (s.pushEntry n entry).2.b.occ n = s.b.occ n ∧
       (s.pushEntry n entry).2.b.ridx n = (s.b.ridx n + 1) % 65536 ∧ (s.pushEntry n entry).2.b.widx n = (s.b.widx n + 1) % 65536) ∧
     (s.b.policy n = 2 → s.b.on RG.RG_STAT_MARK n = true →
       (s.pushEntry n entry).1 = 0 ∧ OnlyRegs [RG.RG_LOST.addr n 0, HDR.EVT_STAT.addr (ringPage n) 0] s (s.pushEntry n entry).2)))

/-- The ring port of the SPU: the handle, a word of an entry that is not yet whole, the first word of a pop; and an entry that QRE writes
for a hardware producer, which counts for a network controller as taken or lost (R126, R345, R346; that the words of an entry are gathered and the first is answered RING_FULL is the model's reading, log
entry 56). -/
def Obligations.RingPort : Prop :=
  ∀ s : State,
    (∀ w, s.writable .spu 0xB = true →
      ∃ t, exec (.spuRhWrite .spu w) s = .next t ∧ t.b.get QRE.SPU_RH_HANDLE = QRE.SPU_RH_HANDLE.of w ∧ t.b.spuPush = [] ∧
        t.b.spuPop = none ∧ SameBut [QRE.SPU_RH.addr 0 0, QRE.SPU_RSTAT.addr 0 0] (fun b => { b.noRegs with spuPush := [], spuPop := none }) s t) ∧
    (∀ w n, s.writable .spu 0xB = true → n = s.b.get QRE.SPU_RH_HANDLE % 64 → (∀ r, r < s.b.numRings → (s.b.ring r).staged = []) →
      s.b.portCheck RG.RG_ENDS_PROD = 0 → s.b.spuPush ≠ [] →
      s.b.spuPush.length + 1 < s.b.esize n →
      ∃ t, exec (.spuRingPushWord .spu w) s = .next t ∧ t.b.spuPush = s.b.spuPush ++ [w] ∧ t.b.get QRE.SPU_RSTAT_CODE = 0 ∧
        SameBut [QRE.SPU_RSTAT.addr 0 0] (fun b => { b.noRegs with spuPush := [] }) s t) ∧
    (∀ n ws u, s.writable .spu 0xB = true → n = s.b.get QRE.SPU_RH_HANDLE % 64 → (∀ r, r < s.b.numRings → (s.b.ring r).staged = []) →
      s.b.portCheck RG.RG_ENDS_CONS = 0 → s.b.spuPop = none → s.b.qreServes = true → s.b.occ n ≠ 0 → s.headEntry n .spu = (ws, u) → 1 < ws.length →
      ∃ t, exec (.spuRingPopWord .spu) s = .next t ∧ t.b.rd QRE.SPU_RDATA = ws.getD 0 0 ∧ t.b.spuPop = some ⟨n, s.b.ridx n, ws, 1⟩ ∧
        t.b.get QRE.SPU_RSTAT_WORD = 1 ∧ t.b.get QRE.SPU_RSTAT_CODE = 0 ∧ t.mem = u.mem) ∧
    (∀ n e rest, n < s.b.numRings → (s.b.ring n).staged = e :: rest → s.b.qreServes = true → s.b.ringState n = 1 →
      e.length = s.b.esize n → s.b.slotRefusal n = none → s.b.policy n = 2 → s.b.on RG.RG_STAT_MARK n = false → s.b.occ n + 1 < s.b.depth n →
      s.b.entryAddr n (s.b.widx n) + 4 * s.b.esize n ≤ 0x490000 → s.b.ringType n ≠ 0 →
      ∃ t, exec (.ringStagedEntryWrite n) s = .next t ∧ (t.b.ring n).staged = rest ∧ t.b.widx n = (s.b.widx n + 1) % 65536 ∧
        (∀ i, i < s.b.esize n → memWord t.mem (s.b.entryAddr n (s.b.widx n) + 4 * i) = e.getD i 0) ∧
        (s.b.ringType n = 3 → s.b.get RG.RG_ENDS_PROD n = 3 →
          t.b.get ETH.ETH_RX_FRAMES_COUNT = min (2 ^ 31 - 1) (s.b.get ETH.ETH_RX_FRAMES_COUNT + 1)) ∧
        (∀ c, c < 2 → s.b.ringType n = 3 → s.b.get RG.RG_ENDS_PROD n = 4 + c →
          t.b.get CAN.CAN_RX_FRAMES_COUNT c = min (2 ^ 31 - 1) (s.b.get CAN.CAN_RX_FRAMES_COUNT c + 1))) ∧
    (∀ n e rest, n < s.b.numRings → (s.b.ring n).staged = e :: rest → s.b.qreServes = true → s.b.ringState n = 1 →
      e.length = s.b.esize n → s.b.policy n = 2 → s.b.on RG.RG_STAT_MARK n = true → s.b.occ n ≤ s.b.depth n → s.b.ringType n = 3 →
      s.b.get RG.RG_ENDS_PROD n = 3 →
      ∃ t, exec (.ringStagedEntryWrite n) s = .next t ∧ (t.b.ring n).staged = rest ∧
        t.b.get ETH.ETH_RX_DROP_COUNT = min (2 ^ 31 - 1) (s.b.get ETH.ETH_RX_DROP_COUNT + 1) ∧
        SameBut [ETH.ETH_RX_DROP.addr 0 0, RG.RG_LOST.addr n 0, HDR.EVT_STAT.addr (ringPage n) 0] (fun b => { b.noRegs with rings := [] }) s t)

/-- Boot: an image read from flash or loaded by the debug master goes into verification; one that passes every check runs and starts
COMMISSION, one that fails leaves its code and the wait for firmware; the timer of that wait only has flash read again (R75, R422, R423).
Firmware swap by the SPU: CHECK starts the verification, a good image is CHECKED, and GO in that state opens the window and switches (R412,
R432, R433). -/
def Obligations.ImagesAndSwap : Prop :=
  (∀ s : State, s.b.running = true → s.b.mode = 0 →
     (∀ header payload ok, s.b.sec.auth = none → s.b.fwWait = false →
       ∃ t, exec (.firmwareLoad header payload ok) s = .next t ∧ t.b.sec.auth = some ⟨0, header, 0, ok⟩ ∧
         t.b.get ⟨OTP.BOOT_STATUS, 0, 4⟩ = 5 ∧ t.b.mode = 0 ∧ (magicOk header = false → t.mem = s.mem)) ∧
     (s.b.sec.auth = none → s.b.fwWait = true →
       exec .flashRetry s = .next { s with b := { s.b with sec := { s.b.sec with rereads := true } } }) ∧
     (∀ w, s.writable .debug 3 = true → s.b.sec.auth = none → s.b.fwWait = true → SEC.BOOT_LOAD_GO.of w = 1 →
       ∃ t, exec (.bootLoad .debug w) s = .next t ∧ t.b.sec.auth = some ⟨1, [], SEC.BOOT_LOAD_ADDR.of w, true⟩ ∧
         SameBut [OTP.BOOT_STATUS.addr 0 0] (fun b => { b.noRegs with sec := {} }) s t) ∧
     (∀ a h u, s.b.sec.auth = some a → s.authCheck a = (0, h, u) →
       ∃ t, exec .authDone s = .next t ∧ t.b.mode = 1 ∧ t.b.get SEC.AUTH_STAT_CODE = 0 ∧ t.b.sec.auth = none ∧
         t.b.sec.entry = some (hdrLoad h + hdrEntry h) ∧ t.b.on SEC.SEC_STAT_UNAUTH = !u.b.mustAuth ∧ t.mem = u.mem) ∧
     (∀ a code h u, s.b.sec.auth = some a → s.authCheck a = (code, h, u) → code ≠ 0 →
       ∃ t, exec .authDone s = .next t ∧ t.b.mode = 0 ∧ t.b.get SEC.AUTH_STAT_CODE = code ∧ t.b.fwWait = true ∧
         t.b.sec = { s.b.sec with auth := none } ∧
         SameBut [SEC.AUTH_STAT.addr 0 0, OTP.BOOT_STATUS.addr 0 0] (fun b => { b.noRegs with sec := {} }) u t)) ∧
  (∀ s : State,
     (∀ w, s.writable .spu 3 = true → SEC.SWAP_CMD_KEY.of w = 0x5C → s.b.get SEC.SWAP_STAT_STATE ≠ 1 → s.b.get SEC.SWAP_STAT_STATE ≠ 3 →
       ∃ t, exec (.swapCheck .spu w) s = .next t ∧ t.b.get SEC.SWAP_STAT_STATE = 1 ∧
         t.b.sec.swap = some ⟨2, [], s.b.get SEC.SWAP_SRC_ADDR, true⟩ ∧
         SameBut [SEC.SWAP_STAT.addr 0 0] (fun b => { b.noRegs with sec := {} }) s t) ∧
     (∀ a h u, s.b.running = true → s.b.mode ≠ 5 → s.b.get SEC.SWAP_STAT_STATE = 1 → s.b.sec.swap = some a → s.authCheck a = (0, h, u) →
       ∃ t, exec .swapCheckDone s = .next t ∧ t.b.get SEC.SWAP_STAT_STATE = 2 ∧ t.b.get SEC.SWAP_STAT_CODE = 0 ∧ t.b.sec.swap = none ∧
         t.b.sec.image = some ⟨a.addr, 0x100 + hdrLen h, hdrLoad h + hdrEntry h, hdrKey h, u.b.mustAuth⟩ ∧
         SameBut [SEC.SWAP_STAT.addr 0 0, HDR.EVT_STAT.addr 3 0] (fun b => { b.noRegs with sec := {} }) u t) ∧
     (∀ w x, s.writable .spu 3 = true → s.b.mode ≠ 0 → SEC.SWAP_CMD_KEY.of w = 0x5C → s.b.get SEC.SWAP_STAT_STATE = 2 →
       s.b.windowAllowed = true → s.b.sec.image = some x →
       ∃ t, exec (.swapGo .spu w) s = .next t ∧ t.b.get SEC.SWAP_STAT_STATE = 3 ∧ t.b.on SHL.SHL_STAT_SWAP_WINDOW = true ∧
         t.b.sec.entry = some x.entry ∧ t.b.on SEC.SEC_STAT_UNAUTH = !x.auth ∧ t.b.spuPush = [] ∧ t.b.spu = { trace := s.b.spu.trace } ∧
         SameBut [SHL.SHL_STAT.addr 0 0, HDR.EVT_STAT.addr 0x13 0, SEC.SWAP_STAT.addr 0 0, SEC.AUTH_STAT.addr 0 0, SEC.SEC_STAT.addr 0 0,
           QRE.SPU_RSTAT.addr 0 0]
           (fun b => { b.noRegs with sec := {}, spuPush := [], spu := {}, shl := { b.shl with windowCheck := false } }) s t))

/-- Lifecycle arm and debug responses: the arm stands for the next step only, a response that verifies grants the level of its challenge and
clears the count of failures, one that does not counts, the third locks debug out; an expired challenge is no more (R418, R427, R434). The
test access port selects its instruction and scans the data register of IDCODE, DTMCS and BYPASS; EXTEST, CLAMP and HIGHZ only up to OPEN
and BYPASS instead past it, in reset too; a debug module access at any level reads the status (the words scanned, and what a debug module
holds, are the model's presumption, log entries 30 and 88); the debug master at FULL halts and resumes the SPU and resets the core, its
level staying (R45, R425, R431). -/
def Obligations.DebugAccess : Prop :=
  (∀ s : State,
     (∀ m w, s.writable m 3 = true → SEC.LC_ARM_ARM.of w = 1 → SEC.LC_ARM_KEY.of w = 0x7E → SEC.LC_ARM_TARGET.of w = s.b.lc0 + 1 →
       ∃ t, exec (.lifecycleArm m w) s = .next t ∧ t.b.on SEC.LC_ARM_ARMED = true ∧ t.b.get SEC.LC_ARM_TARGET = s.b.lc0 + 1 ∧
         OnlyRegs [SEC.LC_ARM.addr 0 0] s t) ∧
     (∀ d, s.b.running = true → s.b.mode ≠ 5 → s.b.sec.response = some d →
       (s.b.responseCode d = 0 →
         ∃ t, exec .debugVerifyDone s = .next t ∧ t.b.get SEC.SEC_STAT_LEVEL = s.b.sec.chalLevel ∧ t.b.get SEC.DBG_STAT_FAILS = 0 ∧
           t.b.get SEC.DBG_STAT_CODE = 0 ∧ t.b.sec = { s.b.sec with response := none, byChal := true, chal := false } ∧
           SameBut [SEC.SEC_STAT.addr 0 0, SEC.DBG_STAT.addr 0 0, HDR.EVT_STAT.addr 3 0] (fun b => { b.noRegs with sec := {} }) s t) ∧
       (s.b.responseCode d ≠ 0 → s.b.responseCode d ≠ 2 →
         ∃ t, exec .debugVerifyDone s = .next t ∧ t.b.get SEC.DBG_STAT_CODE = s.b.responseCode d ∧
           t.b.get SEC.DBG_STAT_FAILS = (s.b.get SEC.DBG_STAT_FAILS + 1) % 16 ∧
           (s.b.get SEC.DBG_STAT_FAILS = 2 → t.b.on SEC.SEC_STAT_LOCKOUT = true) ∧
           t.b.get SEC.SEC_STAT_LEVEL = s.b.get SEC.SEC_STAT_LEVEL ∧ t.b.sec = { s.b.sec with response := none } ∧
           SameBut [SEC.SEC_STAT.addr 0 0, SEC.DBG_STAT.addr 0 0, HDR.EVT_STAT.addr 3 0] (fun b => { b.noRegs with sec := {} }) s t)) ∧
     (exec .challengeExpire s = .next { s with b := { s.b with sec := { s.b.sec with chal := false } } })) ∧
  (∀ s : State,
     (∀ (code : Nat) (p : Instr × Nat × Word),
       p ∈ [(.jtagIdcode, 0x01, s.b.idcode), (.jtagSamplePreload, 0x02, s.b.sec.scan), (.jtagDtmcs, 0x10, dtmcsWord), (.jtagBypass code, 0x1F, 0)] →
       exec p.1 s = .next { s with b := { s.b with sec := { s.b.sec with ir := p.2.1, scan := p.2.2 } } }) ∧
     (∀ p : Instr × Nat, p ∈ [(.jtagExtest, 0x03), (.jtagClamp, 0x04), (.jtagHighz, 0x05)] →
       exec p.1 s = .next { s with b := { s.b with sec := { s.b.sec with ir := if s.b.lcHeld ≤ 1 then p.2 else 0x1F } } }) ∧
     (∀ w, exec (.jtagDmi false 0x11 w) s =
       .next { s with b := { s.b with sec := { s.b.sec with ir := 0x11, scan := s.b.dmstatus } } }) ∧
     (s.b.running = true → s.b.get SEC.SEC_STAT_LEVEL = 2 →
       (s.b.fenced 9 = false →
         ∃ t, exec .debugHalt s = .next t ∧ t.b.on SEC.SEC_STAT_HALTED = true ∧ OnlyRegs [SEC.SEC_STAT.addr 0 0] s t) ∧
       (∃ t, exec .debugResume s = .next t ∧ t.b.on SEC.SEC_STAT_HALTED = false ∧ OnlyRegs [SEC.SEC_STAT.addr 0 0] s t) ∧
       (∃ t, exec .ndmreset s = .next t ∧ t.b.crm.phase = .arrayRead ∧ t.b.rd CRM.RST_CAUSE = 8 ∧ t.b.get SEC.SEC_STAT_LEVEL = 2 ∧
         t.mem = s.mem ∧ t.pending = s.pending)))

/-- An occurrence of a source whose reaction is RECORD: counted for itself and in all, and the first one since the record was cleared fills
it with its number, unit, address and time (R371, R372, R373, R375). The reactions that reach further: HALT stops a machine in RUN and names
its cause, FENCE fences the unit and shows it, LIMP sets the source's DEGRADE bit and takes RUN to LIMP; AXIS_SAFE, of a source that is no
set fault, puts the safe pattern on every live leg of the axis named, or of every axis on the bus named, and holds it; RING_FREEZE freezes
the ring named. Here no escalation is set (R37, R38, R260, R349, R371, R372, R375, R377, R453). A source with ESC_N set counts its
occurrences; before the ESC_Nth it receives its own reaction, from the ESC_Nth on ESC_REACT, here HALT (R371, R375). -/
def Obligations.SourceReactions : Prop :=
  (∀ (s : State) (r : Raised), s.b.running = true → s.b.mode = 1 → s.b.crm.haltReq = false → (srcRow r.src).isSome = true →
     r ∈ s.b.wires → r.src ≠ 0x38 → s.b.get FCR.SRC_CFG_REACT 0 r.src = 0 → (Tab.get (0, false) s.b.fcr.esc r.src).2 = false →
     s.b.get FCR.SRC_CFG_ESC_N 0 r.src = 0 → s.b.on FCR.FIRST_SRC_VALID = false → s.b.get FCR.SRC_CNT_COUNT 0 r.src < 65535 →
     ∃ t, exec (.fcrSourceRaised r) s = .next t ∧ t.b.wires = s.b.wires.erase r ∧
       t.b.get FCR.SRC_CNT_COUNT 0 r.src = s.b.get FCR.SRC_CNT_COUNT 0 r.src + 1 ∧
       t.b.get FCR.ERR_TOTAL_COUNT = min 65535 (s.b.get FCR.ERR_TOTAL_COUNT + 1) ∧
       t.b.on FCR.ERR_TOTAL_OVF = (s.b.on FCR.ERR_TOTAL_OVF || decide (s.b.get FCR.ERR_TOTAL_COUNT = 65535)) ∧ t.b.on FCR.FIRST_SRC_VALID = true ∧
       t.b.get FCR.FIRST_SRC_SOURCE = r.src ∧ t.b.get FCR.FIRST_SRC_UNIT = r.unit % 512 ∧ t.b.get FCR.FIRST_SRC_REACT = 0 ∧
       t.b.get FCR.FIRST_SRC_MASTER = r.master % 8 ∧ t.b.rd FCR.FIRST_ADDR = BitVec.ofNat 32 (r.addr % 2 ^ 24) ∧
       t.b.rd FCR.FIRST_TS_LO = BitVec.ofNat 32 s.b.now ∧ t.b.rd FCR.FIRST_TS_HI = BitVec.ofNat 32 (s.b.now / 2 ^ 32) ∧
       t.b.mode = 1 ∧ t.mem = s.mem) ∧
  (∀ (s : State) (r : Raised), s.b.running = true → s.b.mode = 2 → s.b.on CRM.MODE_BUSY = false → s.b.crm.haltReq = false →
     (srcRow r.src).isSome = true → r ∈ s.b.wires → r.src ≠ 0x38 → (Tab.get (0, false) s.b.fcr.esc r.src).2 = false →
     s.b.get FCR.SRC_CFG_ESC_N 0 r.src = 0 →
     (s.b.get FCR.SRC_CFG_REACT 0 r.src = 4 → s.b.on FCR.HALT_CAUSE_PENDING = false →
       ∃ t, exec (.fcrSourceRaised r) s = .next t ∧ t.b.mode = 4 ∧ t.b.get CRM.MODE_PREV = 2 ∧ t.b.on FCR.HALT_CAUSE_PENDING = true ∧
         t.b.get FCR.HALT_CAUSE_SOURCE = r.src ∧ t.b.mapBit HDR.EVT_STAT_BITS 2 0x12 = true) ∧
     (s.b.get FCR.SRC_CFG_REACT 0 r.src = 3 →
       ∃ t, exec (.fcrSourceRaised r) s = .next t ∧ t.b.mode = 3 ∧ t.b.degraded = true ∧
         (∀ src, src < 96 →
           bit (t.b.rd (if src < 32 then FCR.DEGRADE_LO else if src < 64 then FCR.DEGRADE_HI else FCR.DEGRADE_X)).toNat (src % 32) =
             (bit (s.b.rd (if src < 32 then FCR.DEGRADE_LO else if src < 64 then FCR.DEGRADE_HI else FCR.DEGRADE_X)).toNat (src % 32) ||
               decide (src = r.src)))) ∧
     (s.b.get FCR.SRC_CFG_REACT 0 r.src = 2 → r.src ≠ 0x31 → r.unit % 0x1000 ∈ s.b.unitPages → s.b.fenced (r.unit % 0x1000) = false →
       s.b.get FCR.ESC_CFG_FENCE_MAX = 0 →
       ∃ t, exec (.fcrSourceRaised r) s = .next t ∧ t.b.fenced (r.unit % 0x1000) = true ∧ t.b.mode = 3 ∧
         t.b.mapBit HDR.EVT_STAT_BITS 1 0x12 = true) ∧
     (∀ a, s.b.get FCR.SRC_CFG_REACT 0 r.src = 1 → a < s.b.numAxes → 2 ≤ s.b.axState a → s.b.liveLegs a ≠ [] →
       (r.src ∉ [0x12, 0x13, 0x15, 0x16, 0x17, 0x18, 0x19, 0x1A] ∧ r.unit % 0x1000 = 0x60 + a) ∨
         ((r.src = 0x17 ∨ r.src = 0x18) ∧ s.b.axBus a = r.unit / 0x1000) →
       ∃ t, exec (.fcrSourceRaised r) s = .next t ∧ t.b.mapBit FCR.AX_SAFE_MAP_SLOT a = true ∧ t.b.drv a = 9 ∧
         (∀ leg, leg ∈ s.b.liveLegs a → (t.b.leg leg).fcrPat = some (s.b.get LEG.LEG_CFG_SAFE_PAT leg) ∧
           (s.b.padOff leg = false → (s.b.leg leg).shl = none → (s.b.leg leg).failPat = none →
             t.b.pad leg = (s.b.get LEG.LEG_CFG_SAFE_PAT leg + 1, 2)))) ∧
     (∀ n, s.b.get FCR.SRC_CFG_REACT 0 r.src = 5 → r.unit % 0x1000 = 0xD0 + n → n < 64 → s.b.ringState n = 1 →
       ∃ t, exec (.fcrSourceRaised r) s = .next t ∧ t.b.ringState n = 2 ∧ t.b.get RG.RG_STAT_FRZ_SRC n = r.src % 256)) ∧
  (∀ (s : State) (r : Raised) (k : Nat), s.b.running = true → s.b.mode = 2 → s.b.on CRM.MODE_BUSY = false → s.b.crm.haltReq = false →
     (srcRow r.src).isSome = true → r ∈ s.b.wires → r.src ≠ 0x38 → s.b.fencedUnits = [] → s.b.degraded = false →
     s.b.get FCR.SRC_CFG_ESC_N 0 r.src ≠ 0 → s.b.get FCR.SRC_CFG_REACT 0 r.src = 0 → s.b.get FCR.SRC_CFG_ESC_REACT 0 r.src = 4 →
     s.b.on FCR.HALT_CAUSE_PENDING = false →
     (Tab.get (0, false) s.b.fcr.esc r.src = (k, false) → k + 1 < s.b.get FCR.SRC_CFG_ESC_N 0 r.src → r.src ≠ 0x13 →
       ∃ t, exec (.fcrSourceRaised r) s = .next t ∧ t.b.mode = 2 ∧ t.b.on FCR.HALT_CAUSE_PENDING = false ∧
         Tab.get (0, false) t.b.fcr.esc r.src = (k + 1, false)) ∧
     (Tab.get (0, false) s.b.fcr.esc r.src = (k, true) ∨
         (Tab.get (0, false) s.b.fcr.esc r.src = (k, false) ∧ s.b.get FCR.SRC_CFG_ESC_N 0 r.src ≤ k + 1) →
       ∃ t, exec (.fcrSourceRaised r) s = .next t ∧ t.b.mode = 4 ∧ t.b.on FCR.HALT_CAUSE_PENDING = true ∧
         t.b.get FCR.HALT_CAUSE_SOURCE = r.src ∧ Tab.get (0, false) t.b.fcr.esc r.src = (k + 1, true) ∧
         t.b.mapBit HDR.EVT_STAT_BITS 5 0x12 = true))

/-- A pair of cores that differ, the watchdog and software raise their sources; the watchdog is kicked by the SPU only; the escalation
window and the clears of counts and of the first-error record (R369, R373, R375, R384, R430; the window's end ends the count alone and the
clear of the record takes VALID alone: the model's readings, log entry 80). A fence asked for by software is answered OK and raises its
source towards FCR; a unit's return is checked before it is live again, a converter's two results may lie 16 LSB from what is expected, and
a check that fails leaves the fence; HALT's cause is cleared once its sources are quiet; DEGRADE bits are cleared by ones (R371, R377, R380,
R381, R384; that these outcomes are no refusals of the page and name their unit, and that the clear of HALT's cause leaves an escalation
that waits, are the model's choices, log entries 78 and 110). -/
def Obligations.FaultHandling : Prop :=
  (∀ s : State,
     (s.b.running = true → s.b.mode ≠ 5 → s.b.fenced 9 = false →
       exec .spuLockstep s = .next { s with b := { s.b with wires := s.b.wires ++ [⟨0x33, 9, 0x9000, 7, 0⟩] } } ∧
       (s.b.on FCR.SPU_WDOG_EN = true → s.b.on SEC.SEC_STAT_HALTED = false →
         exec .spuWatchdog s = .next { s with b := { s.b with wires := s.b.wires ++ [⟨0x34, 9, 0x9000, 7, 0⟩] } }) ∧
       (s.b.on SEC.SEC_STAT_HALTED = true → exec .spuWatchdog s = .next s)) ∧
     (∀ w, s.writable .spu 0x12 = true →
       ∃ t, exec (.watchdogKick .spu w) s = .next t ∧ t.b.wires = s.b.wires ∧ OnlyRegs [FCR.SPU_WDOG.addr 0 0] s t) ∧
     (∀ m w, m ≠ .spu → s.writable m 0x12 = true →
       ∃ t, exec (.watchdogKick m w) s = .next t ∧ t.b.get HDR.REFUSAL_CODE 0x12 = 14 ∧
         OnlyRegs [HDR.REFUSAL.addr 0x12 0, HDR.REFUSAL_CNT.addr 0x12 0] s t) ∧
     (∀ m w, s.writable m 0x12 = true → s.b.fenced 0x12 = false → FCR.SW_RAISE_GO.of w = 1 →
       ∃ t, exec (.swRaise m w) s = .next t ∧ t.b.wires = s.b.wires ++ [⟨0x37, 0x12, FCR.SW_RAISE_DETAIL.of w, Master.code m, 2⟩] ∧
         SameBut [] (fun b => { b with wires := [] }) s t) ∧
     (∀ src, ∃ t, exec (.escWindowExpire src) s = .next t ∧
       Tab.get (0, false) t.b.fcr.esc src = (0, (Tab.get (0, false) s.b.fcr.esc src).2) ∧
       SameBut [] (fun b => { b with fcr := { b.fcr with esc := [] } }) s t) ∧
     (∀ m src w, s.writable m 0x12 = true → (srcRow src).isSome = true →
       ∃ t, exec (.srcCountClear m src w) s = .next t ∧ t.b.rd FCR.SRC_CNT 0 src = 0 ∧ Tab.get (0, false) t.b.fcr.esc src = (0, false) ∧
         SameBut [FCR.SRC_CNT.addr 0 src] (fun b => { b.noRegs with fcr := { b.fcr with esc := [] } }) s t) ∧
     (∀ m w, s.writable m 0x12 = true → FCR.FIRST_CLR_CLR.of w = 1 →
       ∃ t, exec (.firstClear m w) s = .next t ∧ t.b.on FCR.FIRST_SRC_VALID = false ∧
         t.b.get FCR.FIRST_SRC_SOURCE = s.b.get FCR.FIRST_SRC_SOURCE ∧ OnlyRegs [FCR.FIRST_SRC.addr 0 0] s t)) ∧
  (∀ (s : State) (m : Master) (w : Word), s.writable m 0x12 = true →
     (FCR.FENCE_REQ_GO.of w = 1 → s.b.fenceReqCode w = 0 →
       ∃ t, exec (.fenceRequest m w) s = .next t ∧ t.b.get FCR.FENCE_RES_CODE = 0 ∧ t.b.get FCR.FENCE_RES_UNIT = FCR.FENCE_REQ_UNIT.of w ∧
         t.b.wires = s.b.wires ++ [⟨0x36, FCR.FENCE_REQ_UNIT.of w, FCR.FENCE_REQ.addr 0 0, Master.code m, 2⟩] ∧
         SameBut [FCR.FENCE_RES.addr 0 0] (fun b => { b.noRegs with wires := [] }) s t) ∧
     (FCR.UNFENCE_GO.of w = 1 → s.b.unfenceCode w = 0 →
       ∃ t, exec (.unfence m w) s = .next t ∧ t.b.on FCR.FENCE_RES_BUSY = true ∧ t.b.fcr.unfence = some (FCR.UNFENCE_UNIT.of w) ∧
         t.b.fenced (FCR.UNFENCE_UNIT.of w) = true ∧ SameBut [FCR.FENCE_RES.addr 0 0] (fun b => { b.noRegs with fcr := {} }) s t) ∧
     (∀ (p : Nat) (res : ReturnCheck) (pass : Bool), s.b.fcr.unfence = some p → p ∈ s.b.unitPages → s.b.mode ≠ 0 →
       pass = (if 0xB0 ≤ p ∧ p < 0xD0 then decide (res.devZero.natAbs ≤ 16) && decide (res.devHalf.natAbs ≤ 16)
         else [5, 6, 7, 8, 0xD].contains p || res.sound) →
       (pass = true → ∃ t, exec (.unfenceCheckDone res) s = .next t ∧ t.b.fenced p = false ∧ t.b.get FCR.FENCE_RES_CODE = 0 ∧
         t.b.on FCR.FENCE_RES_BUSY = false ∧ t.b.fcr.unfence = none ∧ t.mem = s.mem) ∧
       (pass = false → ∃ t, exec (.unfenceCheckDone res) s = .next t ∧ t.b.get FCR.FENCE_RES_CODE = 9 ∧ t.b.on FCR.FENCE_RES_BUSY = false ∧
         t.b.fcr.unfence = none ∧
         SameBut [FCR.FENCE_RES.addr 0 0, HDR.EVT_STAT.addr 0x12 0] (fun b => { b.noRegs with fcr := {} }) s t)) ∧
     (FCR.HALT_CLR_CLR.of w = 1 → FCR.HALT_CLR_KEY.of w = 0x3C → s.b.on FCR.HALT_CAUSE_PENDING = true → s.b.haltActive = false →
       ∃ t, exec (.haltClear m w) s = .next t ∧ t.b.on FCR.HALT_CAUSE_PENDING = false ∧ OnlyRegs [FCR.HALT_CAUSE.addr 0 0] s t) ∧
     (s.b.mode = 1 → s.b.crm.haltReq = false →
       ∀ (n : Nat) (r : Reg), r = (if n = 0 then FCR.DEGRADE_LO else if n = 1 then FCR.DEGRADE_HI else FCR.DEGRADE_X) →
         ∃ t, exec (.degradeClear m n w) s = .next t ∧ t.b.rd r = s.b.rd r &&& ~~~w ∧ OnlyRegs [r.addr 0 0] s t))

/-- A write of AXREL with the handle of an axis under AXIS_SAFE releases that reaction: the axis leaves HELD for IDLE unless another override
still holds one of its live legs; a handle that names no axis, or an axis not held by it, is refused. -/
def Obligations.AxisReleases : Prop :=
  ∀ (s : State) (m : Master) (w : Word) (a : Nat), s.writable m 0x12 = true → FCR.AXREL_GO.of w = 1 → a = FCR.AXREL_HANDLE.of w % 32 →
    (s.b.handleCheck (FCR.AXREL_HANDLE.of w) = none → s.b.mapBit FCR.AX_SAFE_MAP_SLOT a = true → 2 ≤ s.b.axState a → s.b.drv a = 9 →
      ∃ t, exec (.axisRelease m w) s = .next t ∧ t.b.mapBit FCR.AX_SAFE_MAP_SLOT a = false ∧
        (∀ leg, leg ∈ s.b.axLegs a → (t.b.leg leg).fcrPat = none) ∧ t.b.drv a = (if t.b.heldSrc a = 0 then 0 else 9) ∧ t.mem = s.mem) ∧
    (∀ code, s.b.handleCheck (FCR.AXREL_HANDLE.of w) = some code →
      ∃ t, exec (.axisRelease m w) s = .next t ∧ t.b.get HDR.REFUSAL_CODE 0x12 = (if code = 18 then 12 else 13) ∧
        OnlyRegs [HDR.REFUSAL.addr 0x12 0, HDR.REFUSAL_CNT.addr 0x12 0] s t) ∧
    (s.b.handleCheck (FCR.AXREL_HANDLE.of w) = none → s.b.mapBit FCR.AX_SAFE_MAP_SLOT a = false →
      ∃ t, exec (.axisRelease m w) s = .next t ∧ t.b.get HDR.REFUSAL_CODE 0x12 = 11 ∧
        OnlyRegs [HDR.REFUSAL.addr 0x12 0, HDR.REFUSAL_CNT.addr 0x12 0] s t)

/-- Count and revolution count after a step of channel `f` (R296): up from CPR - 1 gives 0 and one revolution more, down from 0 gives CPR - 1 and
one less. -/
def countStep (s : State) (f : Nat) (up : Bool) : Nat × Nat :=
  let c := s.b.get FB.FB_POS_COUNT f
  let r := s.b.get FB.FB_REV_REV f
  if up then (if c + 1 = s.b.cpr f then (0, (r + 1) % 65536) else (c + 1, r))
  else if c = 0 then (s.b.cpr f - 1, (r + 65535) % 65536) else (c - 1, r)

/-- The count of a feedback channel: a step of A and B moves it by one round its turn, up or down as the step runs and DIR_INV says, with the
revolution count; a jump of both is an error that leaves it, a Hall step in mode 3 moves it likewise, and an SSI reading puts it at the single-turn bits of the frame (R295, R296, R298 to R300). -/
def Obligations.FeedbackCounts : Prop :=
  ∀ (s : State) (f : Nat), f < 24 → s.b.fbRuns f = true → s.b.get FB.FB_POS_COUNT f < s.b.cpr f →
    (∀ a bl fwd up, (s.b.fbMode f = 1 ∨ s.b.fbMode f = 2) → s.b.on FB.FB_STAT_WIRE_A f = false → s.b.on FB.FB_STAT_WIRE_B f = false →
      quadPhase a bl = (quadPhase (s.b.fb f).a (s.b.fb f).b + if fwd then 1 else 3) % 4 → up = (fwd != s.b.on FB.FB_CFG_DIR_INV f) →
      ∃ t, exec (.quadCount f a bl) s = .next t ∧ (t.b.get FB.FB_POS_COUNT f, t.b.get FB.FB_REV_REV f) = countStep s f up ∧
        (t.b.fb f).a = a ∧ (t.b.fb f).b = bl ∧ (t.b.fb f).edges = (s.b.now, up) :: (s.b.fb f).edges.take 15 ∧ t.b.on FB.FB_STAT_STILL f = false ∧ t.mem = s.mem ∧
        ((∀ u, u < 32 → s.b.get PC.PC_CFG_FB u = f → s.b.on PC.PC_STAT_ARMED u = false) →
          SameBut [FB.FB_POS.addr f 0, FB.FB_REV.addr f 0, FB.FB_PX.addr f 0, FB.FB_STAT.addr f 0, HDR.EVT_STAT.addr (0x78 + f) 0]
            (fun b => { b.noRegs with fbs := [] }) s t)) ∧
    (∀ a bl, (s.b.fbMode f = 1 ∨ s.b.fbMode f = 2) → s.b.on FB.FB_STAT_WIRE_A f = false → s.b.on FB.FB_STAT_WIRE_B f = false →
      quadPhase a bl = (quadPhase (s.b.fb f).a (s.b.fb f).b + 2) % 4 →
      ∃ t, exec (.quadCount f a bl) s = .next t ∧ t.b.rd FB.FB_POS f = s.b.rd FB.FB_POS f ∧ t.b.rd FB.FB_PX f = s.b.rd FB.FB_PX f ∧
        t.b.on FB.FB_ERR_QUAD_ERR f = true ∧ t.b.on FB.FB_STAT_SUSPECT f = true ∧ t.b.on FB.FB_STAT_VALID f = false ∧ t.mem = s.mem) ∧
    (∀ h i fwd up, s.b.fbMode f = 3 → hallIndex (s.b.fb f).hall = some i → hallIndex h = some ((i + if fwd then 1 else 5) % 6) →
      up = (fwd != s.b.on FB.FB_CFG_DIR_INV f) →
      ∃ t, exec (.hallTransition f h) s = .next t ∧ (t.b.fb f).hall = h ∧ t.b.on FB.FB_STAT_HALL_ERR f = false ∧
        (t.b.get FB.FB_POS_COUNT f, t.b.get FB.FB_REV_REV f) = countStep s f up ∧ t.mem = s.mem) ∧
    (∀ h, s.b.fbMode f = 3 → hallIndex h = none → (s.b.fb f).hall ≠ h →
      ∃ t, exec (.hallTransition f h) s = .next t ∧ t.b.on FB.FB_STAT_HALL_ERR f = true ∧ t.b.on FB.FB_STAT_SUSPECT f = true ∧
        t.b.on FB.FB_STAT_VALID f = false ∧ t.b.rd FB.FB_POS f = s.b.rd FB.FB_POS f ∧ t.mem = s.mem) ∧
    (s.b.fbMode f = 4 → s.b.on FB.FB_SSI_TRIG_EN f = true → (s.b.fb f).busy = false →
      ∃ t, exec (.ssiTrigger f) s = .next t ∧ (t.b.fb f).busy = true ∧ (t.b.fb f).readTs = s.b.now - s.b.get FB.FB_RD_LAT_COMP f ∧
        SameBut [] (fun b => { b with fbs := [] }) s t) ∧
    (∀ frame, s.b.fbMode f = 4 → (s.b.fb f).busy = true → s.b.get FB.FB_SER_ERR_MASK f = 0 → s.b.on FB.FB_SER_GRAY f = false →
      s.b.get FB.FB_SER_ST_BITS f ≤ 24 →
      ∃ t, exec (.ssiReadingDone f frame) s = .next t ∧ (t.b.fb f).busy = false ∧ (t.b.fb f).fresh = true ∧
        t.b.get FB.FB_POS_COUNT f = frame / 2 ^ s.b.get FB.FB_SER_ERR_BITS f % 2 ^ s.b.get FB.FB_SER_ST_BITS f ∧
        t.b.rd FB.FB_RD_RAW f = BitVec.ofNat 32 (frame % 2 ^ s.b.frameBits f) ∧ t.b.on FB.FB_STAT_SER_ERR f = false ∧ t.b.on FB.FB_STAT_STALE f = false ∧
        t.mem = s.mem) ∧
    (∀ frame, s.b.fbMode f = 4 → (s.b.fb f).busy = true → s.b.on FB.FB_SER_ERR_POL f = false →
      frame % 2 ^ s.b.get FB.FB_SER_ERR_BITS f &&& s.b.get FB.FB_SER_ERR_MASK f ≠ 0 →
      ∃ t, exec (.ssiReadingDone f frame) s = .next t ∧ (t.b.fb f).busy = false ∧ t.b.on FB.FB_STAT_SER_ERR f = true ∧
        SameBut [FB.FB_RD_RAW.addr f 0, FB.FB_STAT.addr f 0, FB.FB_ERR.addr f 0, FB.FB_SERR_CNT.addr f 0]
          (fun b => { b.noRegs with fbs := [], wires := [] }) s t)

/-- What a feedback channel does beside counting: the index event in each ZMODE, whichever way the count moves, a wire disagreement and its end, the latch of a channel that no axis has,
the end of motion, and the commands that arm it again (R294, R297, R302, R304). -/
def Obligations.FeedbackEvents : Prop :=
  ∀ (s : State) (f : Nat), f < 24 →
    (s.b.fbRuns f = true → (s.b.fbMode f = 1 ∨ s.b.fbMode f = 2) → s.b.on FB.FB_STAT_WIRE_Z f = false →
      ∃ t, exec (.indexEvent f) s = .next t ∧ t.b.get FB.FB_Z_LAST_COUNT f = s.b.get FB.FB_POS_COUNT f ∧
        t.b.mapBit HDR.EVT_STAT_BITS 2 (0x78 + f) = true ∧
        (s.b.get FB.FB_CFG_ZMODE f = 1 → (s.b.fb f).zDone = false →
          t.b.get FB.FB_POS_COUNT f = s.b.get FB.FB_Z_Z_POS f ∧ t.b.on FB.FB_STAT_HOMED f = true ∧ (t.b.fb f).zDone = true) ∧
        (s.b.get FB.FB_CFG_ZMODE f = 0 →
          OnlyRegs [FB.FB_Z_LAST.addr f 0, HDR.EVT_STAT.addr (0x78 + f) 0] s t) ∧
        (s.b.get FB.FB_CFG_ZMODE f = 1 → (s.b.fb f).zDone = true →
          OnlyRegs [FB.FB_Z_LAST.addr f 0, HDR.EVT_STAT.addr (0x78 + f) 0] s t) ∧
        (∀ out : Bool, out = decide (s.b.get FB.FB_Z_Z_TOL f < turnDist (s.b.cpr f) (s.b.get FB.FB_POS_COUNT f) (s.b.get FB.FB_Z_Z_POS f)) →
          (s.b.get FB.FB_CFG_ZMODE f = 2 →
            t.b.rd FB.FB_POS f = s.b.rd FB.FB_POS f ∧ t.b.rd FB.FB_REV f = s.b.rd FB.FB_REV f ∧
            (out = true → t.b.on FB.FB_ERR_INDEX_ERR f = true ∧ t.b.on FB.FB_STAT_SUSPECT f = true ∧ t.b.on FB.FB_STAT_VALID f = false) ∧
            (out = false → t.b.on FB.FB_ERR_INDEX_ERR f = s.b.on FB.FB_ERR_INDEX_ERR f ∧ t.b.on FB.FB_STAT_SUSPECT f = s.b.on FB.FB_STAT_SUSPECT f)) ∧
          (s.b.get FB.FB_CFG_ZMODE f = 3 →
            t.b.get FB.FB_POS_COUNT f = s.b.get FB.FB_Z_Z_POS f ∧ t.b.get FB.FB_REV_REV f = s.b.get FB.FB_REV_REV f ∧
            t.b.on FB.FB_STAT_SUSPECT f = false ∧ (out = true → t.b.on FB.FB_ERR_INDEX_ERR f = true) ∧
            (out = false → t.b.on FB.FB_ERR_INDEX_ERR f = s.b.on FB.FB_ERR_INDEX_ERR f))) ∧
        t.mem = s.mem) ∧
    (∀ pair, pair ≤ 2 → s.b.fbRuns f = true → (s.b.fbMode f = 1 ∨ s.b.fbMode f = 2 ∨ s.b.fbMode f = 4 ∧ pair = 1) →
      s.b.on FB.FB_CFG_WIRE_EN f = true →
      (s.b.on ⟨FB.FB_STAT, 4 + pair, 1⟩ f = false →
        ∃ t, exec (.wireDisagree f pair true) s = .next t ∧ t.b.on ⟨FB.FB_STAT, 4 + pair, 1⟩ f = true ∧
          t.b.on ⟨FB.FB_ERR, 4 + pair, 1⟩ f = true ∧ t.b.on FB.FB_STAT_VALID f = false ∧
          t.b.rd FB.FB_POS f = s.b.rd FB.FB_POS f ∧ t.mem = s.mem) ∧
      ∃ t, exec (.wireDisagree f pair false) s = .next t ∧ t.b.on ⟨FB.FB_STAT, 4 + pair, 1⟩ f = false ∧
        t.b.rd FB.FB_POS f = s.b.rd FB.FB_POS f ∧ t.mem = s.mem) ∧
    (s.b.fbRuns f = true → s.b.on FB.FB_STAT_ATTACHED f = false → 1 ≤ s.b.fbMode f → s.b.fbMode f ≤ 3 →
      s.b.get FB.FB_POS_COUNT f < s.b.cpr f →
      ∃ t, exec (.fbFreeLatch f) s = .next t ∧ (t.b.fb f).latCount = s.b.get FB.FB_POS_COUNT f ∧
        (t.b.fb f).latRev = s.b.get FB.FB_REV_REV f ∧
        (t.b.fb f).latPx = ux 32 (sx 16 (s.b.get FB.FB_REV_REV f) * s.b.cpr f + s.b.get FB.FB_POS_COUNT f) ∧
        (t.b.fb f).latValid = s.b.on FB.FB_STAT_VALID f ∧
        t.b.get FB.FB_ANGLE_THETA_M f = s.b.get FB.FB_POS_COUNT f * 65536 / s.b.cpr f ∧
        (t.b.fb f).hist.head? = some (s.b.now, s.b.px f) ∧
        SameBut [FB.FB_SPEED.addr f 0, FB.FB_SPEED_N.addr f 0, FB.FB_ANGLE.addr f 0, FB.FB_STAT.addr f 0, HDR.EVT_STAT.addr (0x78 + f) 0]
          (fun b => { b.noRegs with fbs := [], free := 0 }) s t) ∧
    (s.b.fbRuns f = true → 1 ≤ s.b.fbMode f → s.b.fbMode f ≤ 3 →
      ∃ t, exec (.speedZeroTimeout f) s = .next t ∧ t.b.on FB.FB_STAT_STILL f = true ∧
        (s.b.on FB.FB_STAT_METHOD f = false → t.b.rd FB.FB_SPEED f = 0 ∧ t.b.rd FB.FB_SPEED_N f = 0) ∧
        (s.b.on FB.FB_STAT_METHOD f = true → t.b.rd FB.FB_SPEED f = s.b.rd FB.FB_SPEED f ∧ t.b.rd FB.FB_SPEED_N f = s.b.rd FB.FB_SPEED_N f) ∧ OnlyRegs [FB.FB_SPEED.addr f 0, FB.FB_SPEED_N.addr f 0, FB.FB_STAT.addr f 0] s t) ∧
    (∀ m w, s.writable m (0x78 + f) = true → s.b.fbMode f ≠ 0 → s.b.on FB.FB_STAT_WIRE_A f = false → s.b.on FB.FB_STAT_WIRE_B f = false →
      s.b.on FB.FB_STAT_WIRE_Z f = false → s.b.on FB.FB_STAT_STALE f = false → s.b.on FB.FB_STAT_HALL_ERR f = false →
      ∃ t, exec (.fbRearm m f w) s = .next t ∧ t.b.on FB.FB_STAT_SUSPECT f = false ∧ t.b.on FB.FB_STAT_VALID f = true ∧
        t.b.rd FB.FB_POS f = s.b.rd FB.FB_POS f ∧ t.mem = s.mem ∧ t.b.ts = s.b.ts) ∧
    (∀ m w, s.writable m (0x78 + f) = true → (s.b.fbMode f = 0 ∨ s.b.on FB.FB_STAT_WIRE_A f = true ∨ s.b.on FB.FB_STAT_STALE f = true) →
      ∃ t, exec (.fbRearm m f w) s = .next t ∧ t.b.get HDR.REFUSAL_CODE (0x78 + f) = 6 ∧
        OnlyRegs [HDR.REFUSAL.addr (0x78 + f) 0, HDR.REFUSAL_CNT.addr (0x78 + f) 0] s t) ∧
    (∀ m w, s.writable m (0x78 + f) = true → FB.FB_CTL_REARM.of w = 0 →
      ∃ t, exec (.fbHomeArm m f w) s = .next t ∧ t.b.on FB.FB_STAT_HOMED f = false ∧ (t.b.fb f).homeArmed = true ∧
        (t.b.fb f).zDone = false ∧ SameBut [FB.FB_STAT.addr f 0] (fun b => { b.noRegs with fbs := [] }) s t)

/-- The target lies behind: below PX by more than the hysteresis for DIR 0, above for DIR 1, and for DIR 2 against the direction of motion (R306). -/
def pcBehind (s : State) (u f : Nat) (d : Int) : Prop :=
  let h : Int := s.b.get PC.PC_CFG_HYST u
  let v := if s.b.on FB.FB_STAT_STILL f then 0 else sx 32 (s.b.rd FB.FB_SPEED f).toNat
  (s.b.get PC.PC_CFG_DIR u = 0 ∧ d < -h) ∨ (s.b.get PC.PC_CFG_DIR u = 1 ∧ h < d) ∨
    (s.b.get PC.PC_CFG_DIR u = 2 ∧ ((0 < v ∧ d < -h) ∨ (v < 0 ∧ h < d)))

/-- A write of a target arms a position-compare unit where it is enabled; the check at the write fires it inside its hysteresis, and behind it
calls it late, which fires it with LATE_FIRE and disarms it without; a single unit disarms with its firing, a periodic one moves its target by STEP,
and past every target that a reading has passed; a disarm disarms, and a pulse of a pin ends (R305 to R308, R314). -/
def Obligations.PositionCompare : Prop :=
  ∀ (s : State) (u : Nat), u < 32 →
    (∀ m w, s.writable m (0x90 + u) = true →
      (s.b.on PC.PC_CTL_EN u = false →
        ∃ t, exec (.pcTargetWrite m u w) s = .next t ∧ t.b.rd PC.PC_TARGET u = w ∧ OnlyRegs [PC.PC_TARGET.addr u 0] s t) ∧
      (∀ f d, s.b.on PC.PC_CTL_EN u = true → f = s.b.get PC.PC_CFG_FB u → f < 24 → d = diff32 w.toNat (s.b.px f) → s.b.get PC.PC_CFG_DIR u ≤ 2 →
        (s.b.on FB.FB_STAT_VALID f = false ∨ (s.b.get PC.PC_CFG_HYST u < d.natAbs ∧ ¬pcBehind s u f d)) →
        ∃ t, exec (.pcTargetWrite m u w) s = .next t ∧ t.b.rd PC.PC_TARGET u = w ∧ t.b.on PC.PC_STAT_ARMED u = true ∧
          SameBut [PC.PC_TARGET.addr u 0, PC.PC_STAT.addr u 0] (fun b => { b.noRegs with fbs := [] }) s t) ∧
      (s.b.on PC.PC_CTL_EN u = true → s.b.on FBI.FBI_CTL_EN = true → s.b.get PC.PC_CFG_FB u < 24 →
        s.b.on FB.FB_STAT_VALID (s.b.get PC.PC_CFG_FB u) = true → s.b.on PC.PC_CFG_PERIODIC u = false →
        (diff32 w.toNat (s.b.px (s.b.get PC.PC_CFG_FB u))).natAbs ≤ s.b.get PC.PC_CFG_HYST u →
        ∃ t, exec (.pcTargetWrite m u w) s = .next t ∧ t.b.on PC.PC_STAT_ARMED u = false ∧ t.b.on PC.PC_STAT_FIRED u = true ∧
          t.b.rd PC.PC_FIRE_PX u = s.b.rd FB.FB_PX (s.b.get PC.PC_CFG_FB u) ∧ t.b.mapBit FBI.FIRED_MAP_PC u = true ∧
          t.b.mapBit HDR.EVT_STAT_BITS 0 (0x90 + u) = true ∧ t.mem = s.mem) ∧
      (∀ f, s.b.on PC.PC_CTL_EN u = true → s.b.on FBI.FBI_CTL_EN = true → f = s.b.get PC.PC_CFG_FB u → f < 24 → s.b.fbMode f < 4 →
        s.b.on FB.FB_STAT_VALID f = true → s.b.on PC.PC_CFG_PERIODIC u = true →
        (diff32 w.toNat (s.b.px f)).natAbs ≤ s.b.get PC.PC_CFG_HYST u →
        ∃ t, exec (.pcTargetWrite m u w) s = .next t ∧ t.b.on PC.PC_STAT_ARMED u = true ∧ t.b.on PC.PC_STAT_FIRED u = true ∧
          t.b.rd PC.PC_TARGET u = w + s.b.rd PC.PC_STEP u ∧ t.b.rd PC.PC_FIRE_PX u = s.b.rd FB.FB_PX f ∧
          t.b.mapBit HDR.EVT_STAT_BITS 0 (0x90 + u) = true ∧ t.mem = s.mem) ∧
      (∀ f d, s.b.on PC.PC_CTL_EN u = true → s.b.on FBI.FBI_CTL_EN = true → f = s.b.get PC.PC_CFG_FB u → f < 24 →
        d = diff32 w.toNat (s.b.px f) → s.b.on FB.FB_STAT_VALID f = true → s.b.get PC.PC_CFG_HYST u < d.natAbs → pcBehind s u f d →
        (s.b.on PC.PC_CFG_LATE_FIRE u = false →
          ∃ t, exec (.pcTargetWrite m u w) s = .next t ∧ t.b.on PC.PC_STAT_ARMED u = false ∧ t.b.on PC.PC_STAT_LATE u = true ∧
            t.b.mapBit HDR.EVT_STAT_BITS 1 (0x90 + u) = true ∧
            SameBut [PC.PC_TARGET.addr u 0, PC.PC_STAT.addr u 0, HDR.EVT_STAT.addr (0x90 + u) 0] (fun b => { b.noRegs with fbs := [] }) s t) ∧
        (s.b.on PC.PC_CFG_LATE_FIRE u = true →
          ∃ t, exec (.pcTargetWrite m u w) s = .next t ∧ t.b.on PC.PC_STAT_LATE u = true ∧ t.b.on PC.PC_STAT_FIRED u = true ∧
            t.b.rd PC.PC_FIRE_PX u = s.b.rd FB.FB_PX f ∧ t.b.mapBit HDR.EVT_STAT_BITS 0 (0x90 + u) = true ∧
            t.b.on PC.PC_STAT_ARMED u = s.b.on PC.PC_CFG_PERIODIC u ∧ (s.b.on PC.PC_CFG_PERIODIC u = false → t.b.rd PC.PC_TARGET u = w) ∧
            (∀ k step, s.b.on PC.PC_CFG_PERIODIC u = true → 4 ≤ s.b.fbMode f → s.b.get PC.PC_CFG_DIR u = 0 → step = (s.b.rd PC.PC_STEP u).toNat →
              0 < step → step < 2 ^ 31 → -(2 ^ 31) < d → k = d.natAbs / step →
              t.b.rd PC.PC_TARGET u = w + BitVec.ofNat 32 ((k + 1) * step) ∧
              t.b.get PC.PC_SKIP_CNT_COUNT u = min 65535 (s.b.get PC.PC_SKIP_CNT_COUNT u + k)) ∧ t.mem = s.mem))) ∧
    (∀ m w, s.writable m (0x90 + u) = true →
      ∃ t, exec (.pcDisarm m u w) s = .next t ∧ t.b.on PC.PC_STAT_ARMED u = false ∧
        OnlyRegs [PC.PC_CTL.addr u 0, PC.PC_STAT.addr u 0] s t) ∧
    (∀ pin, pin < 8 → s.b.running = true →
      exec (.pcoPulseEnd pin) s = .next { s with b := { s.b with pcoPulse := setBit s.b.pcoPulse pin false } })

/-- The commands of a tuning session: ARM that passes its checks arms, or is refused with the code of its check and leaves a session that is
not active IDLE; the host's trigger ends a session without POST records; STOP and CLEAR (R323 to R325, R327; the order of the checks and a
trigger with POST = 0 ending the session at once are the model's choices, log entry 17). A staged record is written to its place in the
session's buffer, where TCU owns the bank, and only there (R322, R323). -/
def Obligations.TuningUnit : Prop :=
  (∀ (s : State) (m : Master) (j : Nat) (w : Word), j < 4 → s.writable m 0xD = true →
     (s.b.armCheck j = 0 → s.b.get TCU.SES_CFG_TRIG_SRC 0 j ≠ 0 →
       ∃ t, exec (.sesArm m j w) s = .next t ∧ t.b.sesState j = 1 ∧ t.b.get TCU.SES_STAT_CAUSE 0 j = 0 ∧ t.b.get TCU.SES_WPTR_NEXT 0 j = 0 ∧
         t.b.on TCU.SES_STAT_WRAPPED 0 j = false ∧ t.b.get TCU.SES_STAT_STEP 0 j = 0 ∧
         (t.b.ses j).queue = [] ∧ (t.b.ses j).gen = (s.b.on TCU.SES_CFG_INJ_EN 0 j && !s.b.on TCU.SES_CFG_GEN_START 0 j) ∧
         SameBut [TCU.SES_STAT.addr 0 j, TCU.SES_WPTR.addr 0 j, TCU.SES_PRE.addr 0 j, TCU.SES_TRIG_REC.addr 0 j]
           (fun b => { b.noRegs with sess := [] }) s t) ∧
     (s.b.armCheck j ≠ 0 →
       ∃ t, exec (.sesArm m j w) s = .next t ∧ t.b.get HDR.REFUSAL_CODE 0xD = s.b.armCheck j ∧
         t.b.sesState j = (if s.b.sesActive j then s.b.sesState j else 0) ∧
         OnlyRegs [HDR.REFUSAL.addr 0xD 0, HDR.REFUSAL_CNT.addr 0xD 0, TCU.SES_STAT.addr 0 j] s t) ∧
     (TCU.SES_CMD_ARM.of w = 0 → s.b.get TCU.SES_CFG_TRIG_SRC 0 j = 3 → s.b.sesState j = 1 →
       (s.b.get TCU.SES_POST_POST 0 j ≠ 0 →
         ∃ t, exec (.sesTrig m j w) s = .next t ∧ t.b.sesState j = 2 ∧ (t.b.ses j).mark = true ∧
           t.b.mapBit HDR.EVT_STAT_BITS j 0xD = true ∧
           SameBut [TCU.SES_STAT.addr 0 j, TCU.SES_PRE.addr 0 j, HDR.EVT_STAT.addr 0xD 0] (fun b => { b.noRegs with sess := [] }) s t) ∧
       (s.b.get TCU.SES_POST_POST 0 j = 0 →
         ∃ t, exec (.sesTrig m j w) s = .next t ∧ t.b.sesState j = 3 ∧ t.b.mapBit HDR.EVT_STAT_BITS (4 + j) 0xD = true ∧
           SameBut [TCU.SES_STAT.addr 0 j, TCU.SES_PRE.addr 0 j, HDR.EVT_STAT.addr 0xD 0] (fun b => { b.noRegs with sess := [] }) s t)) ∧
     (TCU.SES_CMD_ARM.of w = 0 → TCU.SES_CMD_TRIG.of w = 0 → s.b.sesActive j = true →
       ∃ t, exec (.sesStop m j w) s = .next t ∧ t.b.sesState j = 4 ∧ t.b.get TCU.SES_STAT_CAUSE 0 j = 1 ∧ (t.b.ses j).ending = true ∧
         t.b.mapBit HDR.EVT_STAT_BITS (8 + j) 0xD = true ∧
         SameBut [TCU.SES_STAT.addr 0 j, HDR.EVT_STAT.addr 0xD 0] (fun b => { b.noRegs with sess := [] }) s t) ∧
     (TCU.SES_CMD_ARM.of w = 0 → TCU.SES_CMD_TRIG.of w = 0 → TCU.SES_CMD_STOP.of w = 0 → s.b.sesActive j = false →
       ∃ t, exec (.sesClear m j w) s = .next t ∧ t.b.sesState j = 0 ∧ OnlyRegs [TCU.SES_STAT.addr 0 j] s t)) ∧
  (∀ (s : State) (j idx k : Nat) (ws : List Word) (rest : List (Nat × List Word)) (a : Nat), j < 4 → s.b.running = true → s.b.fenced 0xD = false →
     (s.b.ses j).queue = (idx, ws) :: rest → a = s.b.get TCU.SES_BUF_BASE 0 j + 4 * ws.length * idx → bankOf a = some k →
     s.b.bankReady k = true → s.b.bankOwner k = 3 → a % 4 = 0 → (∀ i, i < ws.length → bankOf (a + 4 * i) = some k) →
     ∃ t, exec (.tcuRecordWrite j) s = .next t ∧ (t.b.ses j).queue = rest ∧
       t.b.get TCU.SES_WPTR_NEXT 0 j = (idx + 1) % max 1 (s.b.get TCU.SES_LEN_LEN 0 j) % 2 ^ TCU.SES_WPTR_NEXT.w ∧
       (∀ i, i < ws.length → memWord t.mem (a + 4 * i) = ws.getD i 0) ∧
       (∀ x, x < 0x1000000 → (x < a ∨ a + 4 * ws.length ≤ x) → memByte t.mem x = memByte s.mem x))

/-- The expansion port: a descriptor is armed where its windows stay clear, fires when its instant comes or counts a miss, and a software
transfer waits for a gap and then starts (R111 to R114). That the oldest waiting transfer starts first is the model's choice, log entry 136,
and that GO starts a descriptor whatever its EN is its reading, log entry 75. The end of a transfer of the expansion port: a write is done,
a read with a bad CRC delivers nothing, a good one fills the buffer or is a reading of its feedback channel (R110, R111, R114, R300). -/
def Obligations.ExpansionPort : Prop :=
  (∀ s : State,
     (∀ m n w b, s.writable m 5 = true → n < 16 → s.b.on XSP.XD_TRIG_EN 0 n = false → s.b.destOk n = true →
       b = s.b.wr XSP.XD_TRIG (XSP.XD_TRIG.merge false (s.b.rd XSP.XD_TRIG 0 n) (XSP.XD_TRIG_EN.into w 1)) 0 n →
       (XSP.XD_TRIG_SRC.of w ≠ 2 ∨ b.xspFits (b.xspPeriod (b.get XSP.CTL_TRIG_TB)) = true) →
       exec (.xspDescriptorArm m n w) s = .next { s with b := b }) ∧
     (∀ m n w, s.writable m 5 = true → n < 16 → s.b.on XSP.XD_TRIG_EN 0 n = true →
       ∃ t, exec (.xspDescriptorArm m n w) s = .next t ∧ t.b.get HDR.REFUSAL_CODE 5 = 2 ∧
         OnlyRegs [HDR.REFUSAL.addr 5 0, HDR.REFUSAL_CNT.addr 5 0] s t) ∧
     (∀ n, n < 16 → s.b.running = true → s.b.mode ≠ 0 → s.b.on XSP.CTL_EN = true → s.b.xdArmed n = true →
       s.b.tbRuns (s.b.get XSP.CTL_TRIG_TB) = true → (s.b.tb (s.b.get XSP.CTL_TRIG_TB)).starting = false →
       (s.b.fenced 5 = false → s.b.destFenced n = false → s.b.on XSP.STAT_BUSY = false →
         ∃ t, exec (.xspEphemerisFire n) s = .next t ∧ t.b.on XSP.STAT_BUSY = true ∧ t.b.get XSP.STAT_DESC = n ∧
           t.b.get XSP.STAT_SEL = s.b.get XSP.XD_FRAME_SEL 0 n ∧ t.b.xsp.out = s.b.xdOut n ∧ t.b.xsp.wait = s.b.xsp.wait ∧
           t.b.xsp.trailer = (if s.b.on XSP.XD_FRAME_CRC_EN 0 n then some (BitVec.ofNat 8 (crc8 (s.b.xdDriven n))) else none) ∧
           t.b.rd XSP.XD_TS_LO 0 n = BitVec.ofNat 32 ((s.b.now + 3) / 4 * 4) ∧
           t.b.rd XSP.XD_TS_HI 0 n = BitVec.ofNat 32 ((s.b.now + 3) / 4 * 4 / 2 ^ 32) ∧
           SameBut [XSP.STAT.addr 0 0, XSP.XD_TS_LO.addr 0 n, XSP.XD_TS_HI.addr 0 n] (fun b => { b.noRegs with xsp := {} }) s t) ∧
       (s.b.fenced 5 = true ∨ s.b.destFenced n = true ∨ s.b.on XSP.STAT_BUSY = true →
         ∃ t, exec (.xspEphemerisFire n) s = .next t ∧
           t.b.get XSP.XD_STAT_MISS 0 n = min 255 (s.b.get XSP.XD_STAT_MISS 0 n + 1) ∧
           SameBut [XSP.XD_STAT.addr 0 n] (fun b => { b.noRegs with wires := [] }) s t)) ∧
     (∀ m n w, s.writable m 5 = true → n = XSP.GO_DESC.of w → s.b.get XSP.XD_TRIG_SRC 0 n = 1 → s.b.on XSP.CTL_EN = true →
       (s.b.xsp.wait.contains n = false → s.b.xdRunning n = false → s.b.destOk n = true →
         (s.b.tbRuns (s.b.get XSP.CTL_TRIG_TB) = true → ∀ g,
           longestGap (s.b.period (s.b.get XSP.CTL_TRIG_TB)) (s.b.firings (s.b.period (s.b.get XSP.CTL_TRIG_TB))) = some g →
           256 * s.b.xdWindow n ≤ g) →
         ∃ t, exec (.xspGo m w) s = .next t ∧ t.b.xsp.wait = s.b.xsp.wait ++ [n] ∧ t.b.on XSP.STAT_SW_WAIT = true ∧
           SameBut [XSP.STAT.addr 0 0] (fun b => { b.noRegs with xsp := {} }) s t) ∧
       (s.b.xsp.wait.contains n = true →
         ∃ t, exec (.xspGo m w) s = .next t ∧ t.b.get HDR.REFUSAL_CODE 5 = 6 ∧
           OnlyRegs [HDR.REFUSAL.addr 5 0, HDR.REFUSAL_CNT.addr 5 0] s t)) ∧
     (∀ n rest, s.b.xsp.wait = n :: rest → n < 16 → s.b.running = true → s.b.mode ≠ 0 → s.b.fenced 5 = false → s.b.on XSP.CTL_EN = true →
       s.b.on XSP.STAT_BUSY = false →
       ∃ t, exec .xspSwTransferStart s = .next t ∧ t.b.xsp.wait = rest ∧ t.b.xsp.out = s.b.xdOut n ∧ t.b.on XSP.STAT_BUSY = true ∧ t.b.get XSP.STAT_DESC = n ∧
         t.b.on XSP.STAT_SW_WAIT = !rest.isEmpty ∧
         SameBut [XSP.STAT.addr 0 0, XSP.XD_TS_LO.addr 0 n, XSP.XD_TS_HI.addr 0 n] (fun b => { b.noRegs with xsp := {} }) s t)) ∧
  (∀ (s : State) (n : Nat), s.b.running = true → s.b.fenced 5 = false → s.b.on XSP.STAT_BUSY = true → n = s.b.get XSP.STAT_DESC →
     (∀ head data crc, s.b.on XSP.XD_FRAME_DIR 0 n = true →
       ∃ t, exec (.xspTransferDone data ⟨head, crc⟩) s = .next t ∧ t.b.on XSP.STAT_BUSY = false ∧ t.b.on XSP.XD_STAT_DONE 0 n = true ∧
         OnlyRegs [XSP.STAT.addr 0 0, XSP.XD_STAT.addr 0 n] s t) ∧
     (∀ head data crc, s.b.on XSP.XD_FRAME_DIR 0 n = false → s.b.on XSP.XD_FRAME_CRC_EN 0 n = true →
       crc8 (head ++ (data.take (s.b.xdWords n)).flatMap (fun w => bitsMsb (s.b.xdWidth n) w.toNat)) ≠ crc.toNat →
       ∃ t, exec (.xspTransferDone data ⟨head, crc⟩) s = .next t ∧ t.b.on XSP.STAT_BUSY = false ∧
         t.b.get XSP.XD_STAT_CRC_ERR 0 n = min 255 (s.b.get XSP.XD_STAT_CRC_ERR 0 n + 1) ∧
         SameBut [XSP.STAT.addr 0 0, XSP.XD_STAT.addr 0 n] (fun b => { b.noRegs with wires := [] }) s t) ∧
     (∀ head data crc, s.b.on XSP.XD_FRAME_DIR 0 n = false → s.b.get XSP.XD_FRAME_DEST 0 n ≠ 1 →
       (s.b.on XSP.XD_FRAME_CRC_EN 0 n = false ∨
         crc8 (head ++ (data.take (s.b.xdWords n)).flatMap (fun w => bitsMsb (s.b.xdWidth n) w.toNat)) = crc.toNat) →
       ∃ t, exec (.xspTransferDone data ⟨head, crc⟩) s = .next t ∧ t.b.on XSP.STAT_BUSY = false ∧ t.b.on XSP.XD_STAT_DONE 0 n = true ∧
         (∀ k, k < s.b.xdWords n → k < data.length →
           t.b.rd XSP.XBUF 0 (16 * n + k) = BitVec.ofNat 32 ((data.getD k 0).toNat % 2 ^ s.b.xdWidth n)) ∧
         OnlyRegs ([XSP.STAT.addr 0 0, XSP.XD_STAT.addr 0 n] ++ (List.range 16).map (fun k => XSP.XBUF.addr 0 (16 * n + k))) s t) ∧
     (∀ head data crc f, s.b.on XSP.XD_FRAME_DIR 0 n = false → s.b.get XSP.XD_FRAME_DEST 0 n = 1 → f = s.b.get XSP.XD_ADDR_DEST_IDX 0 n →
       s.b.fbRuns f = true → s.b.fbMode f = 5 →
       (s.b.on XSP.XD_FRAME_CRC_EN 0 n = false ∨
         crc8 (head ++ (data.take (s.b.xdWords n)).flatMap (fun w => bitsMsb (s.b.xdWidth n) w.toNat)) = crc.toNat) →
       ∃ t, exec (.xspTransferDone data ⟨head, crc⟩) s = .next t ∧ t.b.on XSP.XD_STAT_DONE 0 n = true ∧
         t.b.rd FB.FB_RD_RAW f = BitVec.ofNat 32 (joinWords (s.b.xdWidth n) (data.take (s.b.xdWords n))) ∧ t.mem = s.mem))

/-- Ethernet: a damaged frame, a PAUSE frame and a frame that no filter takes are counted; a frame that matches is staged for the first filter's
ring; the next frame of the transmit ring is taken, padded and given its FCS, and counted when sent; while the polled link is down the ring
keeps it; an MDIO frame of the host waits for a poll that runs (R116 to R118, R126, R364). The bytes of the FCS least significant first, and that a
link that is not polled counts as up, are the model's choices, log entries 132 and 133. -/
def Obligations.Ethernet : Prop :=
  ∀ s : State, s.b.macRuns = true →
    (∀ f, s.b.on ETH.MAC_CTL_EN = true → s.b.on ETH.MAC_CTL_RX_EN = true →
      (f.fcs ≠ crc32 f.bytes ∨ f.bytes.length < 60 ∨ 1518 < f.bytes.length →
        ∃ t, exec (.ethFrameReceived f) s = .next t ∧ t.b.get ETH.ETH_RX_ERR_COUNT = min (2 ^ 31 - 1) (s.b.get ETH.ETH_RX_ERR_COUNT + 1) ∧
          OnlyRegs [ETH.ETH_RX_ERR.addr 0 0] s t) ∧
      (f.fcs = crc32 f.bytes → 60 ≤ f.bytes.length → f.bytes.length ≤ 1518 → isPause f.bytes = true →
        ∃ t, exec (.ethFrameReceived f) s = .next t ∧ t.b.get ETH.ETH_PAUSE_COUNT = min (2 ^ 31 - 1) (s.b.get ETH.ETH_PAUSE_COUNT + 1) ∧
          OnlyRegs [ETH.ETH_PAUSE.addr 0 0] s t) ∧
      (f.fcs = crc32 f.bytes → 60 ≤ f.bytes.length → f.bytes.length ≤ 1518 → isPause f.bytes = false → (∀ j, j < 8 → s.b.ethMatch j f.bytes = false) →
        ∃ t, exec (.ethFrameReceived f) s = .next t ∧ t.b.get ETH.ETH_RX_DROP_COUNT = min (2 ^ 31 - 1) (s.b.get ETH.ETH_RX_DROP_COUNT + 1) ∧
          OnlyRegs [ETH.ETH_RX_DROP.addr 0 0] s t) ∧
      (∀ j n, f.fcs = crc32 f.bytes → 60 ≤ f.bytes.length → f.bytes.length ≤ 1518 → isPause f.bytes = false →
        j < 8 → (∀ i, i < j → s.b.ethMatch i f.bytes = false) → s.b.ethMatch j f.bytes = true → s.b.on ETH.ETH_FLT_EN 0 j = true →
        n = s.b.get ETH.ETH_FLT_RING_HANDLE 0 j % 64 → s.b.ringCheck (s.b.get ETH.ETH_FLT_RING_HANDLE 0 j) = 0 →
        f.bytes.length ≤ 4 * (s.b.esize n - 3) → s.b.ringState n = 1 →
        (s.b.ring n).staged.length < 2 →
        ∃ t, exec (.ethFrameReceived f) s = .next t ∧ (t.b.ring n).staged = (s.b.ring n).staged ++
            [[BitVec.ofNat 32 (f.bytes.length + 2 ^ 24 * j), BitVec.ofNat 32 s.b.now, BitVec.ofNat 32 (s.b.now / 2 ^ 32)] ++ packBytes f.bytes] ∧
          SameBut [] (fun b => { b with rings := [] }) s t)) ∧
    (∀ ws u body, s.b.on ETH.MAC_CTL_EN = true → s.b.on ETH.MAC_CTL_TX_EN = true → s.b.eth.tx = none → s.b.linkDown = false →
      s.netTake (s.b.get ETH.ETH_TX_RING_HANDLE) 3 = some (ws, u) → body = (unpackBytes (ws.drop 3)).take ((ws.getD 0 0).toNat % 65536) →
      ∃ t, exec .ethTransmitStart s = .next t ∧ t.mem = u.mem ∧
        ∃ fcs, fcs.length = 4 ∧ t.b.eth.tx = some (body ++ List.replicate (60 - body.length) 0 ++ fcs) ∧
          crc32 (body ++ List.replicate (60 - body.length) 0) = wordOf (fcs.getD 0 0) (fcs.getD 1 0) (fcs.getD 2 0) (fcs.getD 3 0)) ∧
    (s.b.on ETH.MDIO_CTL_POLL = true → s.b.on ETH.ETH_STAT_LINK = false → exec .ethTransmitStart s = .next s) ∧
    (∀ fr, s.b.eth.tx = some fr →
      ∃ t, exec .ethTransmitDone s = .next t ∧ t.b.eth.tx = none ∧
        t.b.get ETH.ETH_TX_FRAMES_COUNT = min (2 ^ 31 - 1) (s.b.get ETH.ETH_TX_FRAMES_COUNT + 1) ∧
        SameBut [ETH.ETH_TX_FRAMES.addr 0 0] (fun b => { b.noRegs with eth := {} }) s t) ∧
    (∀ m w x, s.writable m 6 = true → s.b.eth.mdioHost = none →
      x = ⟨false, ETH.MDIO_CTL_WRITE.of w == 1, ETH.MDIO_CTL_PHY.of w, ETH.MDIO_CTL_REG.of w, BitVec.ofNat 32 (s.b.get ETH.MDIO_DATA_DATA)⟩ →
      (s.b.eth.mdio = none →
        ∃ t, exec (.mdioGo m w) s = .next t ∧ t.b.on ETH.MDIO_CTL_BUSY = true ∧ t.b.eth.mdio = some x ∧ t.b.eth.mdioHost = none ∧
          SameBut [ETH.MDIO_CTL.addr 0 0] (fun b => { b.noRegs with eth := {} }) s t) ∧
      (∀ p, s.b.eth.mdio = some p → p.poll = true →
        ∃ t, exec (.mdioGo m w) s = .next t ∧ t.b.on ETH.MDIO_CTL_BUSY = true ∧ t.b.eth.mdio = some p ∧ t.b.eth.mdioHost = some x ∧
          SameBut [ETH.MDIO_CTL.addr 0 0] (fun b => { b.noRegs with eth := {} }) s t)) ∧
    (s.b.on ETH.MDIO_CTL_POLL = true → s.b.eth.mdio = none →
      ∃ t, exec .mdioPoll s = .next t ∧ t.b.on ETH.MDIO_CTL_BUSY = true ∧
        t.b.eth = { s.b.eth with mdio := some ⟨true, false, s.b.get ETH.MDIO_CTL_PHY, 1, 0⟩ } ∧
        SameBut [ETH.MDIO_CTL.addr 0 0] (fun b => { b.noRegs with eth := {} }) s t) ∧
    (∀ data mf, s.b.eth.mdio = some mf → mf.poll = true →
      ∃ t, exec (.mdioFrameDone data) s = .next t ∧ t.b.on ETH.ETH_STAT_LINK = bit data.toNat 2 ∧
        t.b.eth.mdio = s.b.eth.mdioHost ∧ t.b.on ETH.MDIO_CTL_BUSY = s.b.eth.mdioHost.isSome ∧
        SameBut [ETH.MDIO_CTL.addr 0 0, ETH.ETH_STAT.addr 0 0, HDR.EVT_STAT.addr 6 0] (fun b => { b.noRegs with eth := {}, wires := [] }) s t) ∧
    (∀ data mf, s.b.eth.mdio = some mf → mf.poll = false →
      ∃ t, exec (.mdioFrameDone data) s = .next t ∧ t.b.on ETH.MDIO_CTL_BUSY = s.b.eth.mdioHost.isSome ∧ t.b.eth.mdio = s.b.eth.mdioHost ∧
        (mf.write = false → t.b.get ETH.MDIO_DATA_DATA = data.toNat) ∧
        SameBut [ETH.MDIO_CTL.addr 0 0, ETH.MDIO_DATA.addr 0 0, HDR.EVT_STAT.addr 6 0] (fun b => { b.noRegs with eth := {} }) s t)

/-- CAN: a frame whose CRC does not match is a bus error, a remote frame is counted and dropped, a data frame is staged for the ring of the first
filter that matches, the priority ring is sent first, and the error counters run to bus-off and back (R119, R121, R380). The counters' steps and
the CRC are the standard's, log entries 22 and 132; that an entry which asks for FD or BRS against the setting is sent, cut to the setting, is
the model's choice, log entry 106. -/
def Obligations.CanControllers : Prop :=
  ∀ (s : State) (c : Nat), c < 2 →
    (s.b.canOnBus c = true →
      (∀ f, s.b.get CAN.CAN_CTL_OPMODE c = 0 → (f.fd = true → s.b.on CAN.CAN_CTL_FD_EN c = true) → f.crc ≠ canCrc f →
        ∃ t, exec (.canFrameReceived c f) s = .next t ∧ (t.b.can c).rec' = min 255 ((s.b.can c).rec' + 1) ∧
          SameBut [CAN.CAN_STAT.addr c 0, HDR.EVT_STAT.addr (7 + c) 0] (fun b => { b.noRegs with can0 := {}, can1 := {}, wires := [] }) s t) ∧
      (∀ f, s.b.get CAN.CAN_CTL_OPMODE c ≠ 2 → (f.fd = true → s.b.on CAN.CAN_CTL_FD_EN c = true) → f.crc = canCrc f → (s.b.can c).rec' ≤ 127 →
        (f.remote = true →
          ∃ t, exec (.canFrameReceived c f) s = .next t ∧
            t.b.get CAN.CAN_REMOTE_COUNT c = min (2 ^ 31 - 1) (s.b.get CAN.CAN_REMOTE_COUNT c + 1) ∧ (t.b.can c).rec' = (s.b.can c).rec' - 1 ∧
            SameBut [CAN.CAN_REMOTE.addr c 0, CAN.CAN_STAT.addr c 0, HDR.EVT_STAT.addr (7 + c) 0]
              (fun b => { b.noRegs with can0 := {}, can1 := {}, wires := [] }) s t) ∧
        (∀ j n, f.remote = false → j < 16 →
          (∀ i, i < j → s.b.on CAN.CAN_FLT_ID_EN c i = false ∧ bit (s.b.can c).dead i = false) → s.b.on CAN.CAN_FLT_ID_EN c j = true →
          (s.b.get CAN.CAN_FLT_ID_ID c j ^^^ f.id.toNat) &&& s.b.get CAN.CAN_FLT_MASK_MASK c j = 0 → s.b.on CAN.CAN_FLT_ID_IDE c j = f.ide →
          n = s.b.get CAN.CAN_FLT_RING_HANDLE c j % 64 → s.b.ringCheck (s.b.get CAN.CAN_FLT_RING_HANDLE c j) = 0 →
          f.data.length ≤ 4 * (s.b.esize n - 4) → s.b.ringState n = 1 →
          (s.b.ring n).staged.length < 2 →
          ∃ t, exec (.canFrameReceived c f) s = .next t ∧ (t.b.ring n).staged = (s.b.ring n).staged ++
              [[BitVec.ofNat 32 (canHead f c j), BitVec.ofNat 32 s.b.now, BitVec.ofNat 32 (s.b.now / 2 ^ 32),
                BitVec.ofNat 32 f.id.toNat] ++ packBytes f.data] ∧
            SameBut [CAN.CAN_STAT.addr c 0, HDR.EVT_STAT.addr (7 + c) 0]
              (fun b => { b.noRegs with can0 := {}, can1 := {}, wires := [], rings := [] }) s t)) ∧
      ((s.b.can c).tx = none → s.b.get CAN.CAN_CTL_OPMODE c ≠ 1 →
        (∀ ws u, s.netTake (s.b.get CAN.CAN_TX_PRIO_HANDLE c) (4 + c) = some (ws, u) →
          ∃ t, exec (.canTransmitStart c) s = .next t ∧ (t.b.can c).tx = some (s.b.frameOfEntry c ws) ∧ t.mem = u.mem) ∧
        (∀ ws u, s.netTake (s.b.get CAN.CAN_TX_PRIO_HANDLE c) (4 + c) = none →
          s.netTake (s.b.get CAN.CAN_TX_NORM_HANDLE c) (4 + c) = some (ws, u) →
          ∃ t, exec (.canTransmitStart c) s = .next t ∧ (t.b.can c).tx = some (s.b.frameOfEntry c ws) ∧ t.mem = u.mem)) ∧
      (∀ fr, (s.b.can c).tx = some fr →
        (s.b.get CAN.CAN_CTL_OPMODE c ≠ 2 →
          ∃ t, exec (.canTransmitDone c true) s = .next t ∧ (t.b.can c).tx = none ∧ (t.b.can c).tec = (s.b.can c).tec - 1 ∧
            t.b.get CAN.CAN_TX_FRAMES_COUNT c = min (2 ^ 31 - 1) (s.b.get CAN.CAN_TX_FRAMES_COUNT c + 1) ∧ t.mem = s.mem) ∧
        ∃ t, exec (.canTransmitDone c false) s = .next t ∧ (t.b.can c).tx = some fr ∧ (t.b.can c).tec = (s.b.can c).tec + 8 ∧
          t.b.get CAN.CAN_STAT_TEC c = min 255 ((s.b.can c).tec + 8) ∧
          (255 < (s.b.can c).tec + 8 → t.b.get CAN.CAN_STAT_STATE c = 2) ∧
          SameBut [CAN.CAN_STAT.addr c 0, HDR.EVT_STAT.addr (7 + c) 0] (fun b => { b.noRegs with can0 := {}, can1 := {}, wires := [] }) s t) ∧
      (∀ primary, s.b.get CAN.CAN_CTL_OPMODE c ≠ 1 →
        ∃ t, exec (.canBusError c primary) s = .next t ∧ (t.b.can c).rec' = min 255 ((s.b.can c).rec' + if primary then 8 else 1) ∧
          SameBut [CAN.CAN_STAT.addr c 0, HDR.EVT_STAT.addr (7 + c) 0] (fun b => { b.noRegs with can0 := {}, can1 := {}, wires := [] }) s t)) ∧
    (s.b.canRuns c = true → s.b.get CAN.CAN_STAT_STATE c = 2 → (s.b.on CAN.CAN_CTL_AUTO_REC c = true ∨ (s.b.can c).recovering = true) →
      ∃ t, exec (.canBusOffRecovery c) s = .next t ∧ t.b.get CAN.CAN_STAT_STATE c = 0 ∧ t.b.get CAN.CAN_STAT_TEC c = 0 ∧
        t.b.get CAN.CAN_STAT_REC c = 0 ∧ (t.b.can c).recovering = false ∧
        SameBut [CAN.CAN_STAT.addr c 0] (fun b => { b.noRegs with can0 := {}, can1 := {} }) s t) ∧
    (s.b.canRuns c = true → exec (.canBusIntegration c) s = .next { s with b := s.b.setCan c { s.b.can c with integrated := true } }) ∧
    (∀ m w, s.writable m (7 + c) = true → s.b.on CAN.CAN_CTL_EN c = true → CAN.CAN_CTL_EN.of w = 1 → s.b.get CAN.CAN_STAT_STATE c = 2 →
      ∃ t, exec (.canRecover m c w) s = .next t ∧ (t.b.can c).recovering = true ∧
        SameBut [CAN.CAN_CTL.addr c 0] (fun b => { b.noRegs with can0 := {}, can1 := {} }) s t)

/-- A start of a loop context: it runs and is counted, takes a pending swap of its coefficient banks and a pending transfer, holds LC_TM.EN as it
stands, and writes only its input latch and, for OBS_HFI, the state of a handed-over angle; in HALT only observers run (R18, R222, R227, R231,
R237, R240, R278). -/
def Obligations.LoopRunStarts : Prop :=
  ∀ (s : State) (c : Nat), s.b.canStart c = true →
    ((s.b.mode ≠ 4 ∨ s.b.get LC.LC_CFG_ROLE c = 1) →
      ∃ t, exec (.loopRunStart c) s = .next t ∧ (t.b.lc c).busy = true ∧ (t.b.lc c).ran = true ∧ (t.b.lc c).stopped = false ∧
        (t.b.lc c).tm = s.b.on LC.LC_TM_EN c ∧
        t.b.get LC.LC_RUNS_COUNT c = min 65535 (s.b.get LC.LC_RUNS_COUNT c + 1) ∧
        t.b.rd LC.LC_TS_LO c = BitVec.ofNat 32 s.b.now ∧
        t.b.on LC.LC_STAT_SWAP_PEND c = false ∧
        (s.b.on LC.LC_STAT_SWAP_PEND c = true →
          memWords t.mem (ctxBase c + 0x40) 16 = memWords s.mem (ctxBase c + 0x80) 16 ∧
          memWords t.mem (ctxBase c + 0x80) 16 = memWords s.mem (ctxBase c + 0x40) 16 ∧
          t.b.get LC.LC_STAT_SWAP_SEQ c = (s.b.get LC.LC_STAT_SWAP_SEQ c + 1) % 256) ∧
        (s.b.on LC.LC_STAT_SWAP_PEND c = false → ∀ a, ctxBase c + 0x40 ≤ a → a < ctxBase c + 0xC0 → memByte t.mem a = memByte s.mem a) ∧
        (∀ man preset, (s.b.lc c).xfer = some (man, preset) →
          t.b.on LC.LC_STAT_MODE c = man ∧ t.b.on LC.LC_STAT_XFER_PEND c = false ∧ (t.b.lc c).xfer = none) ∧
        (∀ a, (a < ctxBase c ∨ ctxBase c + 0x40 ≤ a ∨ s.b.get LC.LC_CFG_PROG c ≠ 0x12) → (a < ctxBase c + 0x40 ∨ ctxBase c + 0xE0 ≤ a) →
          memByte t.mem a = memByte s.mem a)) ∧
    (s.b.mode = 4 → s.b.get LC.LC_CFG_ROLE c ≠ 1 →
      exec (.loopRunStart c) s = .next { s with b := s.b.setLc c { s.b.lc c with ran := true } })

/-- The completion of a run: what it gave at its start is its result, its 40-bit state values stand in two words each, nothing but its state
and output words is written, a current program's pairs become the compare values of its legs with their GO, and a run whose two engines
disagree writes nothing, is counted twice and raises 0x20 (R18, R222, R224, R237, R238; a quotient is rounded down, and what the values are
where the spec prints no equation is the model's choice, log entries 15 and 95). PLAUS completes: its residual and threshold are shown; the
run after a ramp start is left out; a residual above the threshold counts, and the one that fills N_CONSEC sets the exceedance, counts it
and raises 0x21; N_CONSEC runs at or below it clear it. A temperature that is out of range, not scanned, or of a sensor whose record is
defaulted, is not taken (R241, R242). -/
def Obligations.LoopRunCompletes : Prop :=
  (∀ (s : State) (c : Nat) (r : RunResult), s.b.running = true → c < s.b.numCtx → s.b.ctxSt c = 2 → (s.b.lc c).busy = true →
     ((s.b.dualNow c = false ∨ r.agree = true) →
       ∃ t, exec (.loopRunComplete c r) s = .next t ∧ (t.b.lc c).busy = false ∧ (t.b.lc c).done = true ∧
         (t.b.lc c).last = s.finish c r (s.b.lc c).cur ∧ t.b.on LC.LC_STAT_LIMITED c = (s.finish c r (s.b.lc c).cur).limited ∧
         ((s.b.lc c).cur.accOvf = true → t.b.on LC.LC_STAT_ACC_OVF c = true) ∧
         (s.b.get LC.LC_CFG_PROG c ≠ 0x10 → s.b.get LC.LC_CFG_PROG c ≠ 0x11 → s.b.get LC.LC_CFG_PROG c ≠ 0x24 →
           ∀ (k : Nat) (v : Int), k < 8 → (s.b.lc c).cur.state[k]? = some v → memWord t.mem (ctxBase c + 8 * k) = BitVec.ofInt 32 v ∧
             (-(2 ^ 39) ≤ v → v < 2 ^ 39 → memWord t.mem (ctxBase c + 8 * k + 4) = BitVec.ofInt 32 (v / 2 ^ 32))) ∧
         (∀ a, (a < ctxBase c ∨ ctxBase c + 0x40 ≤ a) → (a < ctxBase c + 0xE0 ∨ ctxBase c + 0x100 ≤ a) → memByte t.mem a = memByte s.mem a) ∧
         (1 ≤ s.b.get LC.LC_CFG_PROG c → s.b.get LC.LC_CFG_PROG c ≤ 6 → (s.b.ctxLegs c).Nodup →
           t.b.on LC.LC_STAT_BUS_LOW c = (s.b.lc c).cur.busLow ∧
           ∀ (i leg : Nat) (p : CmpPair), (s.b.ctxLegs c)[i]? = some leg → (s.b.lc c).cur.pairs[i]? = some p →
           t.b.rd LEG.LEG_CMP1 leg = p.c1 ∧ t.b.rd LEG.LEG_CMP2 leg = p.c2 ∧
           (((t.b.leg leg).staged.map CmpPair.c1) = some p.c1 ∨ ((t.b.leg leg).pending.map CmpPair.c1) = some p.c1))) ∧
     (s.b.dualNow c = true → r.agree = false →
       ∃ t, exec (.loopRunComplete c r) s = .next t ∧ (t.b.lc c).busy = false ∧
         t.b.get LC.LC_DUAL_CNT_COUNT c = min 65535 (s.b.get LC.LC_DUAL_CNT_COUNT c + 1) ∧ (t.b.lc c).last = (s.b.lc c).last ∧
         t.b.get LEA.DUAL_CNT_COUNT = min 65535 (s.b.get LEA.DUAL_CNT_COUNT + 1) ∧
         (s.b.fenced (0x140 + c) = false → s.b.mode ≠ 5 → ∃ x, x ∈ t.b.wires ∧ x.src = 0x20 ∧ x.unit = 0x140 + c) ∧
         t.b.mapBit HDR.EVT_STAT_BITS 4 (0x140 + c) = true ∧ t.mem = s.mem)) ∧
  (∀ (s : State) (c : Nat) (r : RunResult), s.b.running = true → c < s.b.numCtx → s.b.ctxSt c = 2 → (s.b.lc c).busy = true →
     s.b.get LC.LC_CFG_PROG c = 0x18 → s.b.get LC.LC_CFG_ROLE c ≠ 0 → s.b.get LC.LC_CFG_ROLE c ≠ 3 → s.b.dualNow c = false →
     (∃ t, exec (.loopRunComplete c r) s = .next t ∧ t.b.get LC.LC_PL_RESID c = ux 16 (s.b.lc c).cur.resid ∧
       t.b.get LC.LC_PL_TH c = ux 16 (s.b.lc c).cur.th ∧
       ((s.b.lc c).cur.skip = true → (t.b.lc c).plOver = (s.b.lc c).plOver ∧
         t.b.on LC.LC_STAT_PL_EXCEED c = s.b.on LC.LC_STAT_PL_EXCEED c) ∧
       ((s.b.lc c).cur.skip = false → (s.b.lc c).cur.th < (s.b.lc c).cur.resid → max 1 (s.coef c 12 % 256) ≤ (s.b.lc c).plOver + 1 →
         s.b.on LC.LC_STAT_PL_EXCEED c = false →
         t.b.on LC.LC_STAT_PL_EXCEED c = true ∧ t.b.get LC.LC_PL_CNT_COUNT c = min 65535 (s.b.get LC.LC_PL_CNT_COUNT c + 1) ∧
           (s.b.fenced (0x140 + c) = false → s.b.mode ≠ 5 → ∃ x, x ∈ t.b.wires ∧ x.src = 0x21 ∧ x.unit = 0x140 + c)) ∧
       ((s.b.lc c).cur.skip = false → (s.b.lc c).cur.th < (s.b.lc c).cur.resid → (s.b.lc c).plOver + 1 < max 1 (s.coef c 12 % 256) →
         (t.b.lc c).plOver = (s.b.lc c).plOver + 1 ∧ t.b.on LC.LC_STAT_PL_EXCEED c = s.b.on LC.LC_STAT_PL_EXCEED c) ∧
       ((s.b.lc c).cur.skip = false → (s.b.lc c).cur.resid ≤ (s.b.lc c).cur.th → max 1 (s.coef c 12 % 256) ≤ (s.b.lc c).plUnder + 1 →
         t.b.on LC.LC_STAT_PL_EXCEED c = false ∧ (t.b.lc c).plOver = 0)) ∧
     (∀ x, s.plausTemp c = some x → -160 ≤ x ∧ x ≤ 800 ∧
       ((s.coef c 13 < 16 ∧ s.b.hkScanned (24 + s.coef c 13) = true ∧
           x = s.coefS c 15 + s.coefS c 14 * s.b.get SNS.HK_RES_VALUE 0 (24 + s.coef c 13) / 256) ∨
         (s.coef c 13 = 16 ∧ s.b.hkScanned 48 = true ∧ s.b.mapBit OTP.CAL_STAT_DEFAULTED 3 = false ∧ x = sx 12 (s.b.get SNS.DIE_TEMP_TEMP)))))

/-- The arithmetic of a loop engine: a MAC adds the exact product or ends at the nearer end of the range and says so, a word write-back is
the nearest word with ties to even, the limiter stays within its bounds with the upper one first, the reciprocal and the square root keep
their 2^-15, and a reciprocal of zero or below is the largest value (R216 to R219). The rules by which set-points and bounds move: a ramp
goes by at most its rate, never past its target, starts at the measured value, and without EN is the target; the braking factor is whole at
V, nothing at VMAX and above, and in between lies within its 0 to 1; the frequency of a VF run moves by at most RATE, is held above I_MAX
and is nothing under DC (R239, R274, R278, R284). That the frequency is state value 0 and that I_MAX is held against the largest current of
the sets is the model's choice (log entry 95). -/
def Obligations.EngineArithmetic : Prop :=
  ((∀ (a : Acc) (x y : Int), -(2 ^ 39) ≤ a.v → a.v ≤ accMax → -32768 ≤ x → x ≤ 32767 → -32768 ≤ y → y ≤ 32767 →
     -(2 ^ 39) ≤ (a.mac x y).v ∧ (a.mac x y).v ≤ accMax ∧
     (-(2 ^ 39) ≤ a.v + 2 * x * y → a.v + 2 * x * y ≤ accMax → a.mac x y = ⟨a.v + 2 * x * y, a.ovf⟩) ∧
     (accMax < a.v + 2 * x * y → a.mac x y = ⟨accMax, true⟩) ∧ (a.v + 2 * x * y < -(2 ^ 39) → a.mac x y = ⟨-(2 ^ 39), true⟩)) ∧
   (∀ v : Int, -32768 * 65536 ≤ v → v ≤ 32767 * 65536 → 2 * (q15 v * 65536 - v).natAbs ≤ 65536 ∧
     (2 * (q15 v * 65536 - v).natAbs = 65536 → q15 v % 2 = 0)) ∧
   (∀ v : Int, 32767 * 65536 < v → q15 v = 32767) ∧ (∀ v : Int, v < -32768 * 65536 → q15 v = -32768) ∧
   (∀ lo hi v : Int, (limiter lo hi v).1 ≤ hi ∧ (lo ≤ hi → lo ≤ (limiter lo hi v).1) ∧ (hi < lo → (limiter lo hi v).1 = hi) ∧
     (lo ≤ v → v ≤ hi → limiter lo hi v = (v, false)) ∧ ((limiter lo hi v).2 = true ↔ (limiter lo hi v).1 ≠ v)) ∧
   (∀ x : Int, x ≤ 0 → recipUnit x = (accMax, true)) ∧
   (∀ x : Int, 0 < x → x ≤ accMax → (recipUnit x).2 = false ∧
     ((recipUnit x).1 = accMax ∨ ((recipUnit x).1 * x - 2 ^ 62).natAbs * 2 ^ 15 ≤ 2 ^ 62)) ∧
   (∀ x : Int, 0 ≤ x → x ≤ accMax → 0 ≤ sqrtUnit x ∧
     x * 2 ^ 31 * (2 ^ 15 - 1) ^ 2 ≤ (sqrtUnit x * 2 ^ 15) ^ 2 ∧ (sqrtUnit x * 2 ^ 15) ^ 2 ≤ x * 2 ^ 31 * (2 ^ 15 + 1) ^ 2)) ∧
  ((∀ (rate : Nat) (target now y : Int),
     (∀ fresh, rampStep false fresh rate target now y = target) ∧ rampStep true true rate target now y = y ∧
     (rampStep true false rate target now y - now).natAbs ≤ rate ∧
     (rampStep true false rate target now y = target ∨ (rampStep true false rate target now y - now).natAbs = rate) ∧
     (now ≤ target → now ≤ rampStep true false rate target now y ∧ rampStep true false rate target now y ≤ target) ∧
     (target ≤ now → target ≤ rampStep true false rate target now y ∧ rampStep true false rate target now y ≤ now)) ∧
   (∀ v vMax vb : Int, 0 ≤ regenFactor v vMax vb ∧ regenFactor v vMax vb ≤ 32767 ∧ (vMax ≤ vb → regenFactor v vMax vb = 0) ∧
     (v < vMax → vb ≤ v → regenFactor v vMax vb = 32767)) ∧
   (∀ (s : State) (c : Nat), (s.b.lc c).stopped = false → (s.driveWord (s.b.get LC.LC_CFG_AXIS c)).clear = false →
     s.b.drv (s.b.get LC.LC_CFG_AXIS c) ≠ 7 →
     ∃ f, (s.vfRun c).state.head? = some f ∧ (f - s.stateVal c 0).natAbs ≤ s.coef c 3 + 65536 * (s.coef c 4 % 2 ^ 15) ∧
       (wide (s.b.folded (s.b.get LC.LC_CFG_AXIS c) (s.coefS c 5)) < sqrtUnit (2 * s.b.peakI2 c (s.coefS c 7)) → f = s.stateVal c 0)) ∧
   (∀ (s : State) (c : Nat), s.b.drv (s.b.get LC.LC_CFG_AXIS c) = 7 → (s.vfRun c).state.head? = some 0))

/-- The commands of a loop context: a swap and a transfer become pending, a ramp starts anew, and a command that fails its check is only
refused (R226, R227, R239, R240). The scrubs of context memory and of the program stores, and the end of the computation of the cover plans
(R220, R225, R244). -/
def Obligations.LoopUpkeep : Prop :=
  (∀ (s : State) (m : Master) (c : Nat) (w : Word), c < s.b.numCtx → s.writable m (0x140 + c) = true →
     (s.b.lcCtlNo c (LC.LC_CTL_SWAP.into w 1) = none → LC.LC_CTL_XFER.of w = 0 → LC.LC_CTL_RAMP_RESTART.of w = 0 →
       ∃ t, exec (.lcSwap m c w) s = .next t ∧ t.b.on LC.LC_STAT_SWAP_PEND c = true ∧ OnlyRegs [LC.LC_STAT.addr c 0] s t) ∧
     (s.b.lcCtlNo c (LC.LC_CTL_XFER.into w 1) = none → LC.LC_CTL_SWAP.of w = 0 →
       ∃ t, exec (.lcXfer m c w) s = .next t ∧ t.b.on LC.LC_STAT_XFER_PEND c = true ∧
         (t.b.lc c).xfer = some (LC.LC_CTL_TO_MANUAL.of w == 1, LC.LC_CTL_MAN_PRESET.of w == 1) ∧
         SameBut [LC.LC_STAT.addr c 0] (fun b => { b.noRegs with lcs := [] }) s t) ∧
     (s.b.lcCtlNo c (LC.LC_CTL_RAMP_RESTART.into w 1) = none → LC.LC_CTL_SWAP.of w = 0 → LC.LC_CTL_XFER.of w = 0 →
       (s.b.get LC.LC_CFG_ROLE c = 0 ∨ s.b.get LC.LC_CFG_ROLE c = 3 →
         exec (.lcRampRestart m c w) s = .next { s with b := s.b.setLc c { s.b.lc c with rampFresh := true } }) ∧
       (s.b.get LC.LC_CFG_ROLE c ≠ 0 → s.b.get LC.LC_CFG_ROLE c ≠ 3 → exec (.lcRampRestart m c w) s = .next s)) ∧
     (∀ n, s.b.lcCtlNo c (LC.LC_CTL_SWAP.into w 1) = some n →
       ∃ t, exec (.lcSwap m c w) s = .next t ∧ t.b.get HDR.REFUSAL_CODE (0x140 + c) = n % 256 ∧
         OnlyRegs [HDR.REFUSAL.addr (0x140 + c) 0, HDR.REFUSAL_CNT.addr (0x140 + c) 0] s t)) ∧
  (∀ s : State, s.b.running = true →
     (∀ c off, c < s.b.numCtx → off < 0x100 → off % 4 = 0 → s.b.fenced 0xC = false →
       exec (.ctxScrub (ctxBase c + off) .double) s =
         .next { s with b := s.b.raiseWith ⟨0x22, 0x140 + c, ctxBase c + off, 6, 1⟩, mem := memPut s.mem (ctxBase c + off) 0 } ∧
       exec (.ctxScrub (ctxBase c + off) .single) s = .next s ∧ exec (.ctxScrub (ctxBase c + off) .clean) s = .next s) ∧
     (∀ e off, e < s.b.numEng → off < 0x4000 → off % 4 = 0 → s.b.fenced (0x1E0 + e) = false →
       (∃ t, exec (.storeScrub (0x4A0000 + 0x4000 * e + off) .single) s = .next t ∧
         t.b.get LE.ENG_STORE_CORR_COUNT e = min 65535 (s.b.get LE.ENG_STORE_CORR_COUNT e + 1) ∧ OnlyRegs [LE.ENG_STORE_CORR.addr e 0] s t) ∧
       exec (.storeScrub (0x4A0000 + 0x4000 * e + off) .double) s =
         .next { s with b := s.b.raiseWith ⟨0x1F, 0x1E0 + e, 0x4A0000 + 0x4000 * e + off, 6, 1⟩ } ∧
       exec (.storeScrub (0x4A0000 + 0x4000 * e + off) .clean) s = .next s) ∧
     (s.b.on LEA.LEA_STAT_PLAN_BUSY = true → (∀ e, e < s.b.numEng → s.b.fenced (0x1E0 + e) = true → s.b.aloneOn e = []) →
       ∃ t, exec .coverPlanDone s = .next t ∧ t.b.on LEA.LEA_STAT_PLAN_BUSY = false ∧
         (∀ e, e < s.b.numEng → t.b.mapBit LEA.LEA_STAT_COVERED e = t.b.on LE.ENG_STAT_COVERED e) ∧ t.mem = s.mem))

/-- A low wire of an STO pair stops every group of the pair: the group is in STO, every enabled leg of it is under the override of SHL, OFF
where nothing asks for ASC_LOW, and SAFE_N falls (R28, R391, R392, R394, R409). -/
def Obligations.SafeStop : Prop :=
  ∀ (s : State) (p : Nat) (wireB : Bool), s.b.shlRuns = true → p < 4 →
    ∃ t, exec (.stoWireFiltered p wireB false) s = .next t ∧ bit (if wireB then t.b.shl.stoB else t.b.shl.stoA) p = false ∧
      ∀ g, g < 8 → s.b.mapBit SHL.STG_CFG_PAIRS p 0 g = true →
        t.b.grp g = 0 ∧ (s.b.grpLegs g ≠ [] → t.b.on SHL.SHL_STAT_SAFE = false) ∧
        ∀ leg, leg ∈ s.b.grpLegs g → leg < s.b.numLegs →
          (t.b.leg leg).shl.isSome = true ∧
          bit (if leg < 32 then (t.b.rd SHL.OVR_LO).toNat else (t.b.rd SHL.OVR_HI).toNat) (leg % 32) = true ∧
          (s.b.shl.pll = none → s.b.on SHL.STG_CFG_STO_ASC 0 g = false → (∀ h, h < 8 → h ≠ g → leg ∉ s.b.grpLegs h) →
            (t.b.leg leg).shl = some 0)

/-- The events of the machine safety block. -/
def shlEvent : Instr → Bool
  | .stoWireFiltered .. | .stoDiscrepancy _ | .ss1Timeout _ | .speedWindowEnd _ | .shlCount .. | .shlEnc _ | .futraCopy .. | .futraSkewTimeout _
  | .futraTimeout | .pchLost | .shlCheckDone | .swapWindowTimeout | .shlSelfcheck | .cfbInputChange .. => true
  | .cfbTransitionEnd n | .shlCfb n | .cdrDropDelay n => decide (n < 8)
  | .shlTapsValid n => decide (n < 24)
  | _ => false

/-- After every event of SHL its outputs follow their rules: each CDR is driven exactly where R400 lets it, CONFIRMED and SAFE are what R411
and R409 make them, every leg has the pattern SHL commands; and outside SHL only legs, axes, loop contexts, the wires to FCR and the pages of
SEC, CFU, SHL and the units from 0x20 on can have changed (R391, R400, R402, R409, R411). -/
def Obligations.SafetySettles : Prop :=
  ∀ (c : Instr) (s : State), shlEvent c = true → s.b.shlRuns = true →
    ∃ t, exec c s = .next t ∧ (∀ n, n < 8 → t.b.mapBit SHL.CDR_STAT_DRIVEN n = t.b.cdrWanted n) ∧
      t.b.on SHL.SHL_STAT_CONFIRMED = t.b.confirmedNow ∧ t.b.on SHL.SHL_STAT_SAFE = t.b.safeNow ∧
      t.b.on SHL.SHL_STAT_PLL_OVR = t.b.shl.pll.isSome ∧ (∀ leg, leg < s.b.numLegs → (t.b.leg leg).shl = t.b.shlPattern leg) ∧
      t.mem = s.mem ∧
      (∀ r i j, r.addr i j < 0x20000 → r.addr i j / 4096 ≠ 3 → r.addr i j / 4096 ≠ 0xE → r.addr i j / 4096 ≠ 0x13 → t.b.rd r i j = s.b.rd r i j) ∧
      { t.b with regs := [], legs := [], axes := [], lcs := [], stgs := [], shl := {}, wires := [], free := 0 } =
        { s.b with regs := [], legs := [], axes := [], lcs := [], stgs := [], shl := {}, wires := [], free := 0 }

/-- The faults of the machine safety block set their latches and stop their groups: STO discrepancy, self-check, a lost processor channel, a
lost Futra, the end of the swap window's time, an encoder fault and a contactor that does not follow (R394, R399, R401, R406, R408, R412, R414). -/
def Obligations.SafetyLatches : Prop :=
  ∀ s : State, s.b.shlRuns = true →
    (∀ p, p < 4 → bit s.b.shl.stoA p ≠ bit s.b.shl.stoB p →
      ∃ t, exec (.stoDiscrepancy p) s = .next t ∧ ∀ g, g < 8 → s.b.mapBit SHL.STG_CFG_PAIRS p 0 g = true → t.b.grp g = 0 ∧
        (bit (s.b.stg g).latch (16 + p) = false → bit (s.b.stg g).latchSs1 (16 + p) = false →
          bit (t.b.stg g).latch (16 + p) = true ∧ t.b.mapBit SHL.GRP_FAULT_FAULTED g = true)) ∧
    (∃ t, exec .shlSelfcheck s = .next t ∧ ∀ g, g < 8 → bit (s.b.stg g).latchSs1 13 = false →
      t.b.grp g = 0 ∧ bit (t.b.stg g).latch 13 = true) ∧
    (s.b.mode ≠ 5 → s.b.on SHL.SHL_STAT_SWAP_WINDOW = false →
      ∃ t, exec .pchLost s = .next t ∧
        (s.b.get SHL.SHL_CFG_PCH_LOSS = 0 → ∀ g, g < 8 → bit (s.b.stg g).latchSs1 10 = false →
          t.b.grp g = 0 ∧ bit (t.b.stg g).latch 10 = true) ∧
        (s.b.get SHL.SHL_CFG_PCH_LOSS = 1 → ∀ g, g < 8 → bit (s.b.stg g).latch 10 = false →
          bit (t.b.stg g).latchSs1 10 = true ∧ t.b.grp g ≠ 2) ∧
        (s.b.get SHL.SHL_CFG_PCH_LOSS = 2 → t.b.on SHL.SHL_STAT_SINGLE = true ∧ t.b.on SHL.SHL_STAT_SAFE = false)) ∧
    (s.b.futOn = true →
      ∃ t, exec .futraTimeout s = .next t ∧ t.b.on SHL.SHL_STAT_FUTRA_LIVE = false ∧
        ∀ g, g < 8 → s.b.on SHL.STG_CFG_FUTRA 0 g = true → bit (s.b.stg g).latchSs1 6 = false →
          t.b.grp g = 0 ∧ bit (t.b.stg g).latch 6 = true) ∧
    (s.b.on SHL.SHL_STAT_SWAP_WINDOW = true →
      ∃ t, exec .swapWindowTimeout s = .next t ∧
        (s.b.get SEC.SWAP_STAT_STATE = 3 → t.b.get SEC.SWAP_STAT_STATE = 5) ∧
        ∀ g, g < 8 → (s.b.grp g = 2 ∨ s.b.grp g = 3) → bit (s.b.stg g).latchSs1 12 = false →
          t.b.grp g = 0 ∧ bit (t.b.stg g).latch 12 = true) ∧
    (∀ ch fault, fault = .wire ch ∨ (fault = .hall ch ∧ (hallIndex (s.b.taps ch).hall).isNone = true) →
      ∃ t, exec (.shlEnc fault) s = .next t ∧
        ∀ g, g < 8 → s.b.on SHL.STG_CFG_SPD_EN 0 g = true → s.b.get SHL.STG_CFG_SPD_CH 0 g = ch → bit (s.b.stg g).latchSs1 4 = false →
          fault = .wire ch ∨ s.b.on SHL.STG_CFG_SPD_SRC 0 g = true → t.b.grp g = 0 ∧ bit (t.b.stg g).latch 4 = true) ∧
    (∀ n, n < 8 → bit s.b.shl.trans n = false → s.b.cfbBad n = true →
      ∃ t, exec (.shlCfb n) s = .next t ∧ t.b.mapBit SHL.CDR_STAT_LATCHED n = true ∧ t.b.mapBit SHL.CDR_STAT_DRIVEN n = false ∧
        t.b.mapBit HDR.EVT_STAT_BITS 9 0x13 = true ∧ t.b.on SHL.SHL_STAT_SAFE = false ∧
        (s.b.on SHL.CDR_CFG_GRP_EN 0 n = true → bit (s.b.stg (s.b.get SHL.CDR_CFG_GROUP 0 n)).latch (24 + n) = false →
          bit (s.b.stg (s.b.get SHL.CDR_CFG_GROUP 0 n)).latchSs1 (24 + n) = false →
          t.b.grp (s.b.get SHL.CDR_CFG_GROUP 0 n) ≤ 1 ∧ t.b.mapBit SHL.GRP_FAULT_FAULTED (s.b.get SHL.CDR_CFG_GROUP 0 n) = true))

/-- What SHL counts and times: the end of SS1, the speed window and SLS, the channel a group counts, the checks of contactors and of taps
(R395 to R401, R414). -/
def Obligations.SafetyCounts : Prop :=
  ∀ (s : State) (g : Nat), s.b.shlRuns = true → g < 8 →
    (s.b.grp g = 3 →
      ∃ t, exec (.ss1Timeout g) s = .next t ∧ t.b.mapBit HDR.EVT_STAT_BITS g 0x13 = true ∧ t.b.grp g ≠ 3 ∧
        (s.b.ss1Req g = true → t.b.grp g = 0)) ∧
    (s.b.on SHL.STG_CFG_SPD_EN 0 g = true →
      ∃ t, exec (.speedWindowEnd g) s = .next t ∧ (t.b.stg g).count = 0 ∧ (t.b.stg g).last = (s.b.stg g).count ∧
        (satS 16 (s.b.stg g).count = (s.b.stg g).count → t.b.get SHL.SPD_COUNT 0 g = ux 16 (s.b.stg g).count) ∧
        (s.b.spdSel g = true → s.b.slsLim g < (s.b.stg g).count.natAbs → max 1 (s.b.get SHL.SPD_CFG_SLS_N) ≤ (s.b.stg g).slsRun + 1 →
          s.b.on SHL.STG_CFG_SLS_REACT 0 g = false → bit (s.b.stg g).latch 1 = false → bit (s.b.stg g).latchSs1 1 = false →
          t.b.grp g = 0 ∧ bit (t.b.stg g).latch 1 = true ∧ t.b.mapBit SHL.GRP_FAULT_FAULTED g = true)) ∧
    (∀ ch taps, ch < 24 →
      ∃ t, exec (.shlCount ch taps) s = .next t ∧ t.b.taps ch = taps ∧ t.b.get SHL.SPD_COUNT 0 g = s.b.get SHL.SPD_COUNT 0 g ∧
        (∀ positive, s.b.on SHL.STG_CFG_SPD_EN 0 g = true → s.b.get SHL.STG_CFG_SPD_CH 0 g = ch → s.b.fbMode ch < 4 →
          tapCount (s.b.on SHL.STG_CFG_SPD_SRC 0 g) (s.b.taps ch) taps = some positive →
          (t.b.stg g).count = (if positive then (s.b.stg g).count + 1 else (s.b.stg g).count - 1)) ∧
        (s.b.on SHL.STG_CFG_SPD_EN 0 g = false ∨ s.b.get SHL.STG_CFG_SPD_CH 0 g ≠ ch ∨ 4 ≤ s.b.fbMode ch →
          (t.b.stg g).count = (s.b.stg g).count)) ∧
    (∀ ch, ch < 24 → s.b.get SHL.STG_CFG_SPD_CH 0 g = ch →
      (s.b.on SHL.STG_CFG_SPD_SRC 0 g = false ∨ (hallIndex (s.b.taps ch).hall).isSome = true) →
      ∃ t, exec (.shlTapsValid ch) s = .next t ∧ bit (t.b.stg g).latch 4 = false) ∧
    ((∀ h, h < 8 → (s.b.stg h).latch < 2 ^ 24 ∧ (s.b.stg h).latchSs1 < 2 ^ 24) →
      ∃ t, exec (.cfbTransitionEnd g) s = .next t ∧
        (bit t.b.shl.trans g = false ∨ t.b.mapBit SHL.CDR_STAT_DRIVEN g ≠ s.b.mapBit SHL.CDR_STAT_DRIVEN g)) ∧
    (s.b.on SHL.CDR_CFG_GRP_EN 0 g = true → s.b.grp (s.b.get SHL.CDR_CFG_GROUP 0 g) = 0 → s.b.stoReq (s.b.get SHL.CDR_CFG_GROUP 0 g) = true →
      ∃ t, exec (.cdrDropDelay g) s = .next t ∧ bit t.b.shl.delay g = false ∧ t.b.mapBit SHL.CDR_STAT_DRIVEN g = false) ∧
    (∀ i level, i < 16 → ∃ t, exec (.cfbInputChange i level) s = .next t ∧ t.b.mapBit SHL.CDR_STAT_CFB i = level)

/-- The commands of the processor channel and the releases: a request stops or slows its groups, a CDR request moves the CDRs, an ACK takes a
group out of READY, the override of a PLL loss is released, a beat ends the channel's latches, and the check value is written, computed and
kept from writing once confirmed (R392, R393, R400, R402, R407, R410, R412; a first beat agrees with anything, and what the swap window keeps is
the model's reading, log entries 83 and 84). -/
def Obligations.SafetyCommands : Prop :=
  ∀ s : State,
    (∀ w, s.writable .spu 0x13 = true → s.b.on SHL.SHL_STAT_SWAP_WINDOW = false →
      ∃ t, exec (.pchRequest .spu w) s = .next t ∧ t.b.get SHL.PCH_REQ_STO = SHL.PCH_REQ_STO.of w ∧ t.b.get SHL.PCH_REQ_SS1 = SHL.PCH_REQ_SS1.of w ∧
        ∀ g, g < 8 → (bit (SHL.PCH_REQ_STO.of w) g = true → t.b.grp g = 0) ∧
          (bit (SHL.PCH_REQ_STO.of w) g = false → bit (SHL.PCH_REQ_SS1.of w) g = true → s.b.grp g = 2 → (s.b.stg g).latch = 0 →
            (∀ p, p < 4 → s.b.pairReq p = false) → s.b.on SHL.STG_CFG_FUTRA 0 g = false → t.b.grp g = 3)) ∧
    (∀ w, s.writable .spu 0x13 = true → s.b.on SHL.SHL_STAT_SWAP_WINDOW = false →
      ∃ t, exec (.cdrRequest .spu w) s = .next t ∧ t.b.get SHL.CDR_REQ_REQ = SHL.CDR_REQ_REQ.of w ∧
        ∀ n, n < 8 → t.b.mapBit SHL.CDR_STAT_DRIVEN n = t.b.cdrWanted n) ∧
    (∀ w, s.writable .spu 0x13 = true → s.b.on SHL.SHL_STAT_SWAP_WINDOW = true →
      exec (.pchRequest .spu w) s = .next s ∧ exec (.cdrRequest .spu w) s = .next s) ∧
    (∀ m w, m ≠ .spu → s.writable m 0x13 = true →
      ∃ t, exec (.pchRequest m w) s = .next t ∧ t.b.get HDR.REFUSAL_CODE 0x13 = 2 ∧
        OnlyRegs [HDR.REFUSAL.addr 0x13 0, HDR.REFUSAL_CNT.addr 0x13 0] s t) ∧
    (∀ m w g, s.writable m 0x13 = true → g < 8 → SHL.SHL_ACK_KEY.of w = 0x96 → bit (SHL.SHL_ACK_GRP.of w) g = true → s.b.grp g = 1 →
      s.b.stoReq g = false → s.b.ss1Req g = false → (s.b.stg g).latch = 0 → (s.b.stg g).latchSs1 = 0 →
      ∃ t, exec (.shlAck m w) s = .next t ∧ t.b.grp g = 2 ∧ t.b.mapBit SHL.GRP_FAULT_FAULTED g = false) ∧
    (∀ m w, s.writable m 0x13 = true → SHL.SHL_ACK_KEY.of w ≠ 0x96 →
      ∃ t, exec (.shlAck m w) s = .next t ∧ t.b.get HDR.REFUSAL_CODE 0x13 = 3 ∧
        OnlyRegs [HDR.REFUSAL.addr 0x13 0, HDR.REFUSAL_CNT.addr 0x13 0] s t) ∧
    (∀ m w, s.writable m 0x13 = true → SHL.PLL_REL_GO.of w = 1 → SHL.PLL_REL_KEY.of w = 0x96 → (s.b.mode = 1 ∨ s.b.mode = 4) →
      s.b.on CRM.CLK_STAT_PLL_LOCK = true → s.b.shl.pll.isSome = true → (∀ g, g < 8 → s.b.tooFast g = false) →
      ∃ t, exec (.pllRelease m w) s = .next t ∧ t.b.shl.pll = none ∧ t.b.on SHL.SHL_STAT_PLL_OVR = false) ∧
    (∀ w, s.writable .spu 0x13 = true → SHL.PCH_BEAT_GO.of w = 1 →
      (s.b.shl.seqs = [] ∨ SHL.PCH_BEAT_SEQ.of w ∈ s.b.shl.seqs) →
      ∃ t, exec (.pchBeat .spu w) s = .next t ∧ t.b.on SHL.SHL_STAT_SINGLE = false ∧
        ∀ g, g < 8 → ∀ k, (k = 10 ∨ k = 11) → bit (t.b.stg g).latch k = false ∧ bit (t.b.stg g).latchSs1 k = false) ∧
    (∀ w, s.writable .spu 0x13 = true → s.b.on SHL.SHL_STAT_SWAP_WINDOW = false →
      (s.b.on SHL.SHL_STAT_CONFIRMED = false → ∃ t, exec (.pchCheckWrite .spu w) s = .next t ∧ t.b.rd SHL.PCH_CHECK = w) ∧
      (s.b.on SHL.SHL_STAT_CONFIRMED = true →
        ∃ t, exec (.pchCheckWrite .spu w) s = .next t ∧ t.b.get HDR.REFUSAL_CODE 0x13 = 1 ∧
          OnlyRegs [HDR.REFUSAL.addr 0x13 0, HDR.REFUSAL_CNT.addr 0x13 0] s t)) ∧
    (s.b.shlRuns = true → s.b.shl.checking = true →
      ∃ t, exec .shlCheckDone s = .next t ∧ t.b.rd SHL.SHL_CHECK = s.b.blockCheck ∧ t.b.on SHL.SHL_STAT_CHECK_DONE = true ∧
        t.b.shl.checking = false)

/-- Futra: an invalid copy is counted, a first copy waits, its equal on the other network makes the pair accepted, and a copy whose partner
does not come is dropped (R403 to R405). -/
def Obligations.FutraPairs : Prop :=
  ∀ (s : State) (net : FutraNet) (k : Nat), s.b.shlRuns = true → s.b.futNet net = some k →
    (∀ x sampled, s.b.futOn = true → (sampled = false ∨ s.b.snoop net x = none ∨ ∃ p, s.b.snoop net x = some p ∧ s.b.pduOk p = false) →
      ∃ t, exec (.futraCopy net x sampled) s = .next t ∧ t.b.get SHL.FUT_INVALID_COUNT = min 65535 (s.b.get SHL.FUT_INVALID_COUNT + 1) ∧
        t.b.shl.pend0 = s.b.shl.pend0 ∧ t.b.shl.pend1 = s.b.shl.pend1) ∧
    (∀ x p, s.b.futOn = true → s.b.snoop net x = some p → s.b.pduOk p = true → pduByte p 0 % 16 = 0 →
      (s.b.shl.seqs = [] ∨ (1 ≤ (pduSeq p + 65536 - s.b.shl.seqs.getD 0 0) % 65536 ∧
        (pduSeq p + 65536 - s.b.shl.seqs.getD 0 0) % 65536 ≤ s.b.get SHL.FUT_CFG_SEQ_GAP)) →
      ((∀ q, q ∈ s.b.shl.pend (1 - k) → pduSeq q ≠ pduSeq p) → (s.b.shl.pend k).length < 4 →
        ∃ t, exec (.futraCopy net x true) s = .next t ∧ t.b.shl.pend k = s.b.shl.pend k ++ [p] ∧
          t.b.shl.pend (1 - k) = s.b.shl.pend (1 - k) ∧ t.b.rd SHL.FUT_REQ = s.b.rd SHL.FUT_REQ) ∧
      (s.b.shl.pend (1 - k) = [p] →
        ∃ t, exec (.futraCopy net x true) s = .next t ∧ t.b.shl.pend (1 - k) = [] ∧ t.b.get SHL.FUT_LAST_SEQ = pduSeq p ∧
          t.b.on SHL.FUT_LAST_VALID = true ∧ t.b.on SHL.SHL_STAT_FUTRA_LIVE = true ∧
          t.b.rd SHL.FUT_REQ = wordOf (p.getD 4 0) (p.getD 5 0) (p.getD 6 0) (p.getD 7 0) ∧
          t.b.get SHL.FUT_ACCEPT_COUNT = min 65535 (s.b.get SHL.FUT_ACCEPT_COUNT + 1) ∧ t.b.shl.ack = some (pduByte p 6))) ∧
    (∀ p rest, s.b.shl.pend k = p :: rest →
      ∃ t, exec (.futraSkewTimeout net) s = .next t ∧ t.b.shl.pend k = rest ∧
        t.b.get SHL.FUT_SKEW_COUNT = min 65535 (s.b.get SHL.FUT_SKEW_COUNT + 1))
end

