-- ==== Sys2Proof/Laws/State.lean ====
section
/-!
SUPPORT. One lemma for each field of the state and each named update: the update leaves the field as it was, or sets it.
-/

namespace Sys2Proof.Machine


/-! ## `Block.wr` -/

@[simp] theorem Block.wr_ts (b : Block) (r : Reg) (v : Word) (i j : Nat) : (b.wr r v i j).ts = b.ts := rfl
@[simp] theorem Block.wr_latches (b : Block) (r : Reg) (v : Word) (i j : Nat) : (b.wr r v i j).latches = b.latches := rfl
@[simp] theorem Block.wr_snap (b : Block) (r : Reg) (v : Word) (i j : Nat) : (b.wr r v i j).snap = b.snap := rfl
@[simp] theorem Block.wr_wires (b : Block) (r : Reg) (v : Word) (i j : Nat) : (b.wr r v i j).wires = b.wires := rfl
@[simp] theorem Block.wr_free (b : Block) (r : Reg) (v : Word) (i j : Nat) : (b.wr r v i j).free = b.free := rfl
@[simp] theorem Block.wr_deferred (b : Block) (r : Reg) (v : Word) (i j : Nat) : (b.wr r v i j).deferred = b.deferred := rfl
@[simp] theorem Block.wr_crm (b : Block) (r : Reg) (v : Word) (i j : Nat) : (b.wr r v i j).crm = b.crm := rfl
@[simp] theorem Block.wr_legs (b : Block) (r : Reg) (v : Word) (i j : Nat) : (b.wr r v i j).legs = b.legs := rfl
@[simp] theorem Block.wr_tbs (b : Block) (r : Reg) (v : Word) (i j : Nat) : (b.wr r v i j).tbs = b.tbs := rfl
@[simp] theorem Block.wr_axes (b : Block) (r : Reg) (v : Word) (i j : Nat) : (b.wr r v i j).axes = b.axes := rfl
@[simp] theorem Block.wr_mbxs (b : Block) (r : Reg) (v : Word) (i j : Nat) : (b.wr r v i j).mbxs = b.mbxs := rfl
@[simp] theorem Block.wr_cpOk (b : Block) (r : Reg) (v : Word) (i j : Nat) : (b.wr r v i j).cpOk = b.cpOk := rfl
@[simp] theorem Block.wr_pinSp (b : Block) (r : Reg) (v : Word) (i j : Nat) : (b.wr r v i j).pinSp = b.pinSp := rfl
@[simp] theorem Block.wr_fbs (b : Block) (r : Reg) (v : Word) (i j : Nat) : (b.wr r v i j).fbs = b.fbs := rfl
@[simp] theorem Block.wr_pcoLatch (b : Block) (r : Reg) (v : Word) (i j : Nat) : (b.wr r v i j).pcoLatch = b.pcoLatch := rfl
@[simp] theorem Block.wr_pcoPulse (b : Block) (r : Reg) (v : Word) (i j : Nat) : (b.wr r v i j).pcoPulse = b.pcoPulse := rfl
@[simp] theorem Block.wr_rings (b : Block) (r : Reg) (v : Word) (i j : Nat) : (b.wr r v i j).rings = b.rings := rfl
@[simp] theorem Block.wr_spuPush (b : Block) (r : Reg) (v : Word) (i j : Nat) : (b.wr r v i j).spuPush = b.spuPush := rfl
@[simp] theorem Block.wr_spuPop (b : Block) (r : Reg) (v : Word) (i j : Nat) : (b.wr r v i j).spuPop = b.spuPop := rfl
@[simp] theorem Block.wr_upset (b : Block) (r : Reg) (v : Word) (i j : Nat) : (b.wr r v i j).upset = b.upset := rfl
@[simp] theorem Block.wr_handover (b : Block) (r : Reg) (v : Word) (i j : Nat) : (b.wr r v i j).handover = b.handover := rfl
@[simp] theorem Block.wr_passed (b : Block) (r : Reg) (v : Word) (i j : Nat) : (b.wr r v i j).passed = b.passed := rfl
@[simp] theorem Block.wr_bankNew (b : Block) (r : Reg) (v : Word) (i j : Nat) : (b.wr r v i j).bankNew = b.bankNew := rfl
@[simp] theorem Block.wr_wakeWait (b : Block) (r : Reg) (v : Word) (i j : Nat) : (b.wr r v i j).wakeWait = b.wakeWait := rfl
@[simp] theorem Block.wr_xsp (b : Block) (r : Reg) (v : Word) (i j : Nat) : (b.wr r v i j).xsp = b.xsp := rfl
@[simp] theorem Block.wr_eth (b : Block) (r : Reg) (v : Word) (i j : Nat) : (b.wr r v i j).eth = b.eth := rfl
@[simp] theorem Block.wr_can0 (b : Block) (r : Reg) (v : Word) (i j : Nat) : (b.wr r v i j).can0 = b.can0 := rfl
@[simp] theorem Block.wr_can1 (b : Block) (r : Reg) (v : Word) (i j : Nat) : (b.wr r v i j).can1 = b.can1 := rfl
@[simp] theorem Block.wr_lcs (b : Block) (r : Reg) (v : Word) (i j : Nat) : (b.wr r v i j).lcs = b.lcs := rfl
@[simp] theorem Block.wr_plans (b : Block) (r : Reg) (v : Word) (i j : Nat) : (b.wr r v i j).plans = b.plans := rfl
@[simp] theorem Block.wr_convs (b : Block) (r : Reg) (v : Word) (i j : Nat) : (b.wr r v i j).convs = b.convs := rfl
@[simp] theorem Block.wr_samples (b : Block) (r : Reg) (v : Word) (i j : Nat) : (b.wr r v i j).samples = b.samples := rfl
@[simp] theorem Block.wr_buses (b : Block) (r : Reg) (v : Word) (i j : Nat) : (b.wr r v i j).buses = b.buses := rfl
@[simp] theorem Block.wr_sess (b : Block) (r : Reg) (v : Word) (i j : Nat) : (b.wr r v i j).sess = b.sess := rfl
@[simp] theorem Block.wr_stgs (b : Block) (r : Reg) (v : Word) (i j : Nat) : (b.wr r v i j).stgs = b.stgs := rfl
@[simp] theorem Block.wr_shl (b : Block) (r : Reg) (v : Word) (i j : Nat) : (b.wr r v i j).shl = b.shl := rfl
@[simp] theorem Block.wr_fcr (b : Block) (r : Reg) (v : Word) (i j : Nat) : (b.wr r v i j).fcr = b.fcr := rfl
@[simp] theorem Block.wr_otp (b : Block) (r : Reg) (v : Word) (i j : Nat) : (b.wr r v i j).otp = b.otp := rfl
@[simp] theorem Block.wr_sec (b : Block) (r : Reg) (v : Word) (i j : Nat) : (b.wr r v i j).sec = b.sec := rfl
@[simp] theorem Block.wr_hsp (b : Block) (r : Reg) (v : Word) (i j : Nat) : (b.wr r v i j).hsp = b.hsp := rfl
@[simp] theorem Block.wr_spu (b : Block) (r : Reg) (v : Word) (i j : Nat) : (b.wr r v i j).spu = b.spu := rfl

/-! ## `Block.put` -/

@[simp] theorem Block.put_ts (b : Block) (f : Fld) (v i j : Nat) : (b.put f v i j).ts = b.ts := rfl
@[simp] theorem Block.put_latches (b : Block) (f : Fld) (v i j : Nat) : (b.put f v i j).latches = b.latches := rfl
@[simp] theorem Block.put_snap (b : Block) (f : Fld) (v i j : Nat) : (b.put f v i j).snap = b.snap := rfl
@[simp] theorem Block.put_wires (b : Block) (f : Fld) (v i j : Nat) : (b.put f v i j).wires = b.wires := rfl
@[simp] theorem Block.put_free (b : Block) (f : Fld) (v i j : Nat) : (b.put f v i j).free = b.free := rfl
@[simp] theorem Block.put_deferred (b : Block) (f : Fld) (v i j : Nat) : (b.put f v i j).deferred = b.deferred := rfl
@[simp] theorem Block.put_crm (b : Block) (f : Fld) (v i j : Nat) : (b.put f v i j).crm = b.crm := rfl
@[simp] theorem Block.put_legs (b : Block) (f : Fld) (v i j : Nat) : (b.put f v i j).legs = b.legs := rfl
@[simp] theorem Block.put_tbs (b : Block) (f : Fld) (v i j : Nat) : (b.put f v i j).tbs = b.tbs := rfl
@[simp] theorem Block.put_axes (b : Block) (f : Fld) (v i j : Nat) : (b.put f v i j).axes = b.axes := rfl
@[simp] theorem Block.put_mbxs (b : Block) (f : Fld) (v i j : Nat) : (b.put f v i j).mbxs = b.mbxs := rfl
@[simp] theorem Block.put_cpOk (b : Block) (f : Fld) (v i j : Nat) : (b.put f v i j).cpOk = b.cpOk := rfl
@[simp] theorem Block.put_pinSp (b : Block) (f : Fld) (v i j : Nat) : (b.put f v i j).pinSp = b.pinSp := rfl
@[simp] theorem Block.put_fbs (b : Block) (f : Fld) (v i j : Nat) : (b.put f v i j).fbs = b.fbs := rfl
@[simp] theorem Block.put_pcoLatch (b : Block) (f : Fld) (v i j : Nat) : (b.put f v i j).pcoLatch = b.pcoLatch := rfl
@[simp] theorem Block.put_pcoPulse (b : Block) (f : Fld) (v i j : Nat) : (b.put f v i j).pcoPulse = b.pcoPulse := rfl
@[simp] theorem Block.put_rings (b : Block) (f : Fld) (v i j : Nat) : (b.put f v i j).rings = b.rings := rfl
@[simp] theorem Block.put_spuPush (b : Block) (f : Fld) (v i j : Nat) : (b.put f v i j).spuPush = b.spuPush := rfl
@[simp] theorem Block.put_spuPop (b : Block) (f : Fld) (v i j : Nat) : (b.put f v i j).spuPop = b.spuPop := rfl
@[simp] theorem Block.put_upset (b : Block) (f : Fld) (v i j : Nat) : (b.put f v i j).upset = b.upset := rfl
@[simp] theorem Block.put_handover (b : Block) (f : Fld) (v i j : Nat) : (b.put f v i j).handover = b.handover := rfl
@[simp] theorem Block.put_passed (b : Block) (f : Fld) (v i j : Nat) : (b.put f v i j).passed = b.passed := rfl
@[simp] theorem Block.put_bankNew (b : Block) (f : Fld) (v i j : Nat) : (b.put f v i j).bankNew = b.bankNew := rfl
@[simp] theorem Block.put_wakeWait (b : Block) (f : Fld) (v i j : Nat) : (b.put f v i j).wakeWait = b.wakeWait := rfl
@[simp] theorem Block.put_xsp (b : Block) (f : Fld) (v i j : Nat) : (b.put f v i j).xsp = b.xsp := rfl
@[simp] theorem Block.put_eth (b : Block) (f : Fld) (v i j : Nat) : (b.put f v i j).eth = b.eth := rfl
@[simp] theorem Block.put_can0 (b : Block) (f : Fld) (v i j : Nat) : (b.put f v i j).can0 = b.can0 := rfl
@[simp] theorem Block.put_can1 (b : Block) (f : Fld) (v i j : Nat) : (b.put f v i j).can1 = b.can1 := rfl
@[simp] theorem Block.put_lcs (b : Block) (f : Fld) (v i j : Nat) : (b.put f v i j).lcs = b.lcs := rfl
@[simp] theorem Block.put_plans (b : Block) (f : Fld) (v i j : Nat) : (b.put f v i j).plans = b.plans := rfl
@[simp] theorem Block.put_convs (b : Block) (f : Fld) (v i j : Nat) : (b.put f v i j).convs = b.convs := rfl
@[simp] theorem Block.put_samples (b : Block) (f : Fld) (v i j : Nat) : (b.put f v i j).samples = b.samples := rfl
@[simp] theorem Block.put_buses (b : Block) (f : Fld) (v i j : Nat) : (b.put f v i j).buses = b.buses := rfl
@[simp] theorem Block.put_sess (b : Block) (f : Fld) (v i j : Nat) : (b.put f v i j).sess = b.sess := rfl
@[simp] theorem Block.put_stgs (b : Block) (f : Fld) (v i j : Nat) : (b.put f v i j).stgs = b.stgs := rfl
@[simp] theorem Block.put_shl (b : Block) (f : Fld) (v i j : Nat) : (b.put f v i j).shl = b.shl := rfl
@[simp] theorem Block.put_fcr (b : Block) (f : Fld) (v i j : Nat) : (b.put f v i j).fcr = b.fcr := rfl
@[simp] theorem Block.put_otp (b : Block) (f : Fld) (v i j : Nat) : (b.put f v i j).otp = b.otp := rfl
@[simp] theorem Block.put_sec (b : Block) (f : Fld) (v i j : Nat) : (b.put f v i j).sec = b.sec := rfl
@[simp] theorem Block.put_hsp (b : Block) (f : Fld) (v i j : Nat) : (b.put f v i j).hsp = b.hsp := rfl
@[simp] theorem Block.put_spu (b : Block) (f : Fld) (v i j : Nat) : (b.put f v i j).spu = b.spu := rfl

/-! ## `Block.flag` -/

@[simp] theorem Block.flag_ts (b : Block) (f : Fld) (v : Bool) (i j : Nat) : (b.flag f v i j).ts = b.ts := rfl
@[simp] theorem Block.flag_latches (b : Block) (f : Fld) (v : Bool) (i j : Nat) : (b.flag f v i j).latches = b.latches := rfl
@[simp] theorem Block.flag_snap (b : Block) (f : Fld) (v : Bool) (i j : Nat) : (b.flag f v i j).snap = b.snap := rfl
@[simp] theorem Block.flag_wires (b : Block) (f : Fld) (v : Bool) (i j : Nat) : (b.flag f v i j).wires = b.wires := rfl
@[simp] theorem Block.flag_free (b : Block) (f : Fld) (v : Bool) (i j : Nat) : (b.flag f v i j).free = b.free := rfl
@[simp] theorem Block.flag_deferred (b : Block) (f : Fld) (v : Bool) (i j : Nat) : (b.flag f v i j).deferred = b.deferred := rfl
@[simp] theorem Block.flag_crm (b : Block) (f : Fld) (v : Bool) (i j : Nat) : (b.flag f v i j).crm = b.crm := rfl
@[simp] theorem Block.flag_legs (b : Block) (f : Fld) (v : Bool) (i j : Nat) : (b.flag f v i j).legs = b.legs := rfl
@[simp] theorem Block.flag_tbs (b : Block) (f : Fld) (v : Bool) (i j : Nat) : (b.flag f v i j).tbs = b.tbs := rfl
@[simp] theorem Block.flag_axes (b : Block) (f : Fld) (v : Bool) (i j : Nat) : (b.flag f v i j).axes = b.axes := rfl
@[simp] theorem Block.flag_mbxs (b : Block) (f : Fld) (v : Bool) (i j : Nat) : (b.flag f v i j).mbxs = b.mbxs := rfl
@[simp] theorem Block.flag_cpOk (b : Block) (f : Fld) (v : Bool) (i j : Nat) : (b.flag f v i j).cpOk = b.cpOk := rfl
@[simp] theorem Block.flag_pinSp (b : Block) (f : Fld) (v : Bool) (i j : Nat) : (b.flag f v i j).pinSp = b.pinSp := rfl
@[simp] theorem Block.flag_fbs (b : Block) (f : Fld) (v : Bool) (i j : Nat) : (b.flag f v i j).fbs = b.fbs := rfl
@[simp] theorem Block.flag_pcoLatch (b : Block) (f : Fld) (v : Bool) (i j : Nat) : (b.flag f v i j).pcoLatch = b.pcoLatch := rfl
@[simp] theorem Block.flag_pcoPulse (b : Block) (f : Fld) (v : Bool) (i j : Nat) : (b.flag f v i j).pcoPulse = b.pcoPulse := rfl
@[simp] theorem Block.flag_rings (b : Block) (f : Fld) (v : Bool) (i j : Nat) : (b.flag f v i j).rings = b.rings := rfl
@[simp] theorem Block.flag_spuPush (b : Block) (f : Fld) (v : Bool) (i j : Nat) : (b.flag f v i j).spuPush = b.spuPush := rfl
@[simp] theorem Block.flag_spuPop (b : Block) (f : Fld) (v : Bool) (i j : Nat) : (b.flag f v i j).spuPop = b.spuPop := rfl
@[simp] theorem Block.flag_upset (b : Block) (f : Fld) (v : Bool) (i j : Nat) : (b.flag f v i j).upset = b.upset := rfl
@[simp] theorem Block.flag_handover (b : Block) (f : Fld) (v : Bool) (i j : Nat) : (b.flag f v i j).handover = b.handover := rfl
@[simp] theorem Block.flag_passed (b : Block) (f : Fld) (v : Bool) (i j : Nat) : (b.flag f v i j).passed = b.passed := rfl
@[simp] theorem Block.flag_bankNew (b : Block) (f : Fld) (v : Bool) (i j : Nat) : (b.flag f v i j).bankNew = b.bankNew := rfl
@[simp] theorem Block.flag_wakeWait (b : Block) (f : Fld) (v : Bool) (i j : Nat) : (b.flag f v i j).wakeWait = b.wakeWait := rfl
@[simp] theorem Block.flag_xsp (b : Block) (f : Fld) (v : Bool) (i j : Nat) : (b.flag f v i j).xsp = b.xsp := rfl
@[simp] theorem Block.flag_eth (b : Block) (f : Fld) (v : Bool) (i j : Nat) : (b.flag f v i j).eth = b.eth := rfl
@[simp] theorem Block.flag_can0 (b : Block) (f : Fld) (v : Bool) (i j : Nat) : (b.flag f v i j).can0 = b.can0 := rfl
@[simp] theorem Block.flag_can1 (b : Block) (f : Fld) (v : Bool) (i j : Nat) : (b.flag f v i j).can1 = b.can1 := rfl
@[simp] theorem Block.flag_lcs (b : Block) (f : Fld) (v : Bool) (i j : Nat) : (b.flag f v i j).lcs = b.lcs := rfl
@[simp] theorem Block.flag_plans (b : Block) (f : Fld) (v : Bool) (i j : Nat) : (b.flag f v i j).plans = b.plans := rfl
@[simp] theorem Block.flag_convs (b : Block) (f : Fld) (v : Bool) (i j : Nat) : (b.flag f v i j).convs = b.convs := rfl
@[simp] theorem Block.flag_samples (b : Block) (f : Fld) (v : Bool) (i j : Nat) : (b.flag f v i j).samples = b.samples := rfl
@[simp] theorem Block.flag_buses (b : Block) (f : Fld) (v : Bool) (i j : Nat) : (b.flag f v i j).buses = b.buses := rfl
@[simp] theorem Block.flag_sess (b : Block) (f : Fld) (v : Bool) (i j : Nat) : (b.flag f v i j).sess = b.sess := rfl
@[simp] theorem Block.flag_stgs (b : Block) (f : Fld) (v : Bool) (i j : Nat) : (b.flag f v i j).stgs = b.stgs := rfl
@[simp] theorem Block.flag_shl (b : Block) (f : Fld) (v : Bool) (i j : Nat) : (b.flag f v i j).shl = b.shl := rfl
@[simp] theorem Block.flag_fcr (b : Block) (f : Fld) (v : Bool) (i j : Nat) : (b.flag f v i j).fcr = b.fcr := rfl
@[simp] theorem Block.flag_otp (b : Block) (f : Fld) (v : Bool) (i j : Nat) : (b.flag f v i j).otp = b.otp := rfl
@[simp] theorem Block.flag_sec (b : Block) (f : Fld) (v : Bool) (i j : Nat) : (b.flag f v i j).sec = b.sec := rfl
@[simp] theorem Block.flag_hsp (b : Block) (f : Fld) (v : Bool) (i j : Nat) : (b.flag f v i j).hsp = b.hsp := rfl
@[simp] theorem Block.flag_spu (b : Block) (f : Fld) (v : Bool) (i j : Nat) : (b.flag f v i j).spu = b.spu := rfl

/-! ## `Block.orBits` -/

@[simp] theorem Block.orBits_ts (b : Block) (f : Fld) (v i j : Nat) : (b.orBits f v i j).ts = b.ts := rfl
@[simp] theorem Block.orBits_latches (b : Block) (f : Fld) (v i j : Nat) : (b.orBits f v i j).latches = b.latches := rfl
@[simp] theorem Block.orBits_snap (b : Block) (f : Fld) (v i j : Nat) : (b.orBits f v i j).snap = b.snap := rfl
@[simp] theorem Block.orBits_wires (b : Block) (f : Fld) (v i j : Nat) : (b.orBits f v i j).wires = b.wires := rfl
@[simp] theorem Block.orBits_free (b : Block) (f : Fld) (v i j : Nat) : (b.orBits f v i j).free = b.free := rfl
@[simp] theorem Block.orBits_deferred (b : Block) (f : Fld) (v i j : Nat) : (b.orBits f v i j).deferred = b.deferred := rfl
@[simp] theorem Block.orBits_crm (b : Block) (f : Fld) (v i j : Nat) : (b.orBits f v i j).crm = b.crm := rfl
@[simp] theorem Block.orBits_legs (b : Block) (f : Fld) (v i j : Nat) : (b.orBits f v i j).legs = b.legs := rfl
@[simp] theorem Block.orBits_tbs (b : Block) (f : Fld) (v i j : Nat) : (b.orBits f v i j).tbs = b.tbs := rfl
@[simp] theorem Block.orBits_axes (b : Block) (f : Fld) (v i j : Nat) : (b.orBits f v i j).axes = b.axes := rfl
@[simp] theorem Block.orBits_mbxs (b : Block) (f : Fld) (v i j : Nat) : (b.orBits f v i j).mbxs = b.mbxs := rfl
@[simp] theorem Block.orBits_cpOk (b : Block) (f : Fld) (v i j : Nat) : (b.orBits f v i j).cpOk = b.cpOk := rfl
@[simp] theorem Block.orBits_pinSp (b : Block) (f : Fld) (v i j : Nat) : (b.orBits f v i j).pinSp = b.pinSp := rfl
@[simp] theorem Block.orBits_fbs (b : Block) (f : Fld) (v i j : Nat) : (b.orBits f v i j).fbs = b.fbs := rfl
@[simp] theorem Block.orBits_pcoLatch (b : Block) (f : Fld) (v i j : Nat) : (b.orBits f v i j).pcoLatch = b.pcoLatch := rfl
@[simp] theorem Block.orBits_pcoPulse (b : Block) (f : Fld) (v i j : Nat) : (b.orBits f v i j).pcoPulse = b.pcoPulse := rfl
@[simp] theorem Block.orBits_rings (b : Block) (f : Fld) (v i j : Nat) : (b.orBits f v i j).rings = b.rings := rfl
@[simp] theorem Block.orBits_spuPush (b : Block) (f : Fld) (v i j : Nat) : (b.orBits f v i j).spuPush = b.spuPush := rfl
@[simp] theorem Block.orBits_spuPop (b : Block) (f : Fld) (v i j : Nat) : (b.orBits f v i j).spuPop = b.spuPop := rfl
@[simp] theorem Block.orBits_upset (b : Block) (f : Fld) (v i j : Nat) : (b.orBits f v i j).upset = b.upset := rfl
@[simp] theorem Block.orBits_handover (b : Block) (f : Fld) (v i j : Nat) : (b.orBits f v i j).handover = b.handover := rfl
@[simp] theorem Block.orBits_passed (b : Block) (f : Fld) (v i j : Nat) : (b.orBits f v i j).passed = b.passed := rfl
@[simp] theorem Block.orBits_bankNew (b : Block) (f : Fld) (v i j : Nat) : (b.orBits f v i j).bankNew = b.bankNew := rfl
@[simp] theorem Block.orBits_wakeWait (b : Block) (f : Fld) (v i j : Nat) : (b.orBits f v i j).wakeWait = b.wakeWait := rfl
@[simp] theorem Block.orBits_xsp (b : Block) (f : Fld) (v i j : Nat) : (b.orBits f v i j).xsp = b.xsp := rfl
@[simp] theorem Block.orBits_eth (b : Block) (f : Fld) (v i j : Nat) : (b.orBits f v i j).eth = b.eth := rfl
@[simp] theorem Block.orBits_can0 (b : Block) (f : Fld) (v i j : Nat) : (b.orBits f v i j).can0 = b.can0 := rfl
@[simp] theorem Block.orBits_can1 (b : Block) (f : Fld) (v i j : Nat) : (b.orBits f v i j).can1 = b.can1 := rfl
@[simp] theorem Block.orBits_lcs (b : Block) (f : Fld) (v i j : Nat) : (b.orBits f v i j).lcs = b.lcs := rfl
@[simp] theorem Block.orBits_plans (b : Block) (f : Fld) (v i j : Nat) : (b.orBits f v i j).plans = b.plans := rfl
@[simp] theorem Block.orBits_convs (b : Block) (f : Fld) (v i j : Nat) : (b.orBits f v i j).convs = b.convs := rfl
@[simp] theorem Block.orBits_samples (b : Block) (f : Fld) (v i j : Nat) : (b.orBits f v i j).samples = b.samples := rfl
@[simp] theorem Block.orBits_buses (b : Block) (f : Fld) (v i j : Nat) : (b.orBits f v i j).buses = b.buses := rfl
@[simp] theorem Block.orBits_sess (b : Block) (f : Fld) (v i j : Nat) : (b.orBits f v i j).sess = b.sess := rfl
@[simp] theorem Block.orBits_stgs (b : Block) (f : Fld) (v i j : Nat) : (b.orBits f v i j).stgs = b.stgs := rfl
@[simp] theorem Block.orBits_shl (b : Block) (f : Fld) (v i j : Nat) : (b.orBits f v i j).shl = b.shl := rfl
@[simp] theorem Block.orBits_fcr (b : Block) (f : Fld) (v i j : Nat) : (b.orBits f v i j).fcr = b.fcr := rfl
@[simp] theorem Block.orBits_otp (b : Block) (f : Fld) (v i j : Nat) : (b.orBits f v i j).otp = b.otp := rfl
@[simp] theorem Block.orBits_sec (b : Block) (f : Fld) (v i j : Nat) : (b.orBits f v i j).sec = b.sec := rfl
@[simp] theorem Block.orBits_hsp (b : Block) (f : Fld) (v i j : Nat) : (b.orBits f v i j).hsp = b.hsp := rfl
@[simp] theorem Block.orBits_spu (b : Block) (f : Fld) (v i j : Nat) : (b.orBits f v i j).spu = b.spu := rfl

/-! ## `Block.setMap` -/

@[simp] theorem Block.setMap_ts (b : Block) (f : Fld) (k : Nat) (v : Bool) (i j : Nat) : (b.setMap f k v i j).ts = b.ts := rfl
@[simp] theorem Block.setMap_latches (b : Block) (f : Fld) (k : Nat) (v : Bool) (i j : Nat) : (b.setMap f k v i j).latches = b.latches := rfl
@[simp] theorem Block.setMap_snap (b : Block) (f : Fld) (k : Nat) (v : Bool) (i j : Nat) : (b.setMap f k v i j).snap = b.snap := rfl
@[simp] theorem Block.setMap_wires (b : Block) (f : Fld) (k : Nat) (v : Bool) (i j : Nat) : (b.setMap f k v i j).wires = b.wires := rfl
@[simp] theorem Block.setMap_free (b : Block) (f : Fld) (k : Nat) (v : Bool) (i j : Nat) : (b.setMap f k v i j).free = b.free := rfl
@[simp] theorem Block.setMap_deferred (b : Block) (f : Fld) (k : Nat) (v : Bool) (i j : Nat) : (b.setMap f k v i j).deferred = b.deferred := rfl
@[simp] theorem Block.setMap_crm (b : Block) (f : Fld) (k : Nat) (v : Bool) (i j : Nat) : (b.setMap f k v i j).crm = b.crm := rfl
@[simp] theorem Block.setMap_legs (b : Block) (f : Fld) (k : Nat) (v : Bool) (i j : Nat) : (b.setMap f k v i j).legs = b.legs := rfl
@[simp] theorem Block.setMap_tbs (b : Block) (f : Fld) (k : Nat) (v : Bool) (i j : Nat) : (b.setMap f k v i j).tbs = b.tbs := rfl
@[simp] theorem Block.setMap_axes (b : Block) (f : Fld) (k : Nat) (v : Bool) (i j : Nat) : (b.setMap f k v i j).axes = b.axes := rfl
@[simp] theorem Block.setMap_mbxs (b : Block) (f : Fld) (k : Nat) (v : Bool) (i j : Nat) : (b.setMap f k v i j).mbxs = b.mbxs := rfl
@[simp] theorem Block.setMap_cpOk (b : Block) (f : Fld) (k : Nat) (v : Bool) (i j : Nat) : (b.setMap f k v i j).cpOk = b.cpOk := rfl
@[simp] theorem Block.setMap_pinSp (b : Block) (f : Fld) (k : Nat) (v : Bool) (i j : Nat) : (b.setMap f k v i j).pinSp = b.pinSp := rfl
@[simp] theorem Block.setMap_fbs (b : Block) (f : Fld) (k : Nat) (v : Bool) (i j : Nat) : (b.setMap f k v i j).fbs = b.fbs := rfl
@[simp] theorem Block.setMap_pcoLatch (b : Block) (f : Fld) (k : Nat) (v : Bool) (i j : Nat) : (b.setMap f k v i j).pcoLatch = b.pcoLatch := rfl
@[simp] theorem Block.setMap_pcoPulse (b : Block) (f : Fld) (k : Nat) (v : Bool) (i j : Nat) : (b.setMap f k v i j).pcoPulse = b.pcoPulse := rfl
@[simp] theorem Block.setMap_rings (b : Block) (f : Fld) (k : Nat) (v : Bool) (i j : Nat) : (b.setMap f k v i j).rings = b.rings := rfl
@[simp] theorem Block.setMap_spuPush (b : Block) (f : Fld) (k : Nat) (v : Bool) (i j : Nat) : (b.setMap f k v i j).spuPush = b.spuPush := rfl
@[simp] theorem Block.setMap_spuPop (b : Block) (f : Fld) (k : Nat) (v : Bool) (i j : Nat) : (b.setMap f k v i j).spuPop = b.spuPop := rfl
@[simp] theorem Block.setMap_upset (b : Block) (f : Fld) (k : Nat) (v : Bool) (i j : Nat) : (b.setMap f k v i j).upset = b.upset := rfl
@[simp] theorem Block.setMap_handover (b : Block) (f : Fld) (k : Nat) (v : Bool) (i j : Nat) : (b.setMap f k v i j).handover = b.handover := rfl
@[simp] theorem Block.setMap_passed (b : Block) (f : Fld) (k : Nat) (v : Bool) (i j : Nat) : (b.setMap f k v i j).passed = b.passed := rfl
@[simp] theorem Block.setMap_bankNew (b : Block) (f : Fld) (k : Nat) (v : Bool) (i j : Nat) : (b.setMap f k v i j).bankNew = b.bankNew := rfl
@[simp] theorem Block.setMap_wakeWait (b : Block) (f : Fld) (k : Nat) (v : Bool) (i j : Nat) : (b.setMap f k v i j).wakeWait = b.wakeWait := rfl
@[simp] theorem Block.setMap_xsp (b : Block) (f : Fld) (k : Nat) (v : Bool) (i j : Nat) : (b.setMap f k v i j).xsp = b.xsp := rfl
@[simp] theorem Block.setMap_eth (b : Block) (f : Fld) (k : Nat) (v : Bool) (i j : Nat) : (b.setMap f k v i j).eth = b.eth := rfl
@[simp] theorem Block.setMap_can0 (b : Block) (f : Fld) (k : Nat) (v : Bool) (i j : Nat) : (b.setMap f k v i j).can0 = b.can0 := rfl
@[simp] theorem Block.setMap_can1 (b : Block) (f : Fld) (k : Nat) (v : Bool) (i j : Nat) : (b.setMap f k v i j).can1 = b.can1 := rfl
@[simp] theorem Block.setMap_lcs (b : Block) (f : Fld) (k : Nat) (v : Bool) (i j : Nat) : (b.setMap f k v i j).lcs = b.lcs := rfl
@[simp] theorem Block.setMap_plans (b : Block) (f : Fld) (k : Nat) (v : Bool) (i j : Nat) : (b.setMap f k v i j).plans = b.plans := rfl
@[simp] theorem Block.setMap_convs (b : Block) (f : Fld) (k : Nat) (v : Bool) (i j : Nat) : (b.setMap f k v i j).convs = b.convs := rfl
@[simp] theorem Block.setMap_samples (b : Block) (f : Fld) (k : Nat) (v : Bool) (i j : Nat) : (b.setMap f k v i j).samples = b.samples := rfl
@[simp] theorem Block.setMap_buses (b : Block) (f : Fld) (k : Nat) (v : Bool) (i j : Nat) : (b.setMap f k v i j).buses = b.buses := rfl
@[simp] theorem Block.setMap_sess (b : Block) (f : Fld) (k : Nat) (v : Bool) (i j : Nat) : (b.setMap f k v i j).sess = b.sess := rfl
@[simp] theorem Block.setMap_stgs (b : Block) (f : Fld) (k : Nat) (v : Bool) (i j : Nat) : (b.setMap f k v i j).stgs = b.stgs := rfl
@[simp] theorem Block.setMap_shl (b : Block) (f : Fld) (k : Nat) (v : Bool) (i j : Nat) : (b.setMap f k v i j).shl = b.shl := rfl
@[simp] theorem Block.setMap_fcr (b : Block) (f : Fld) (k : Nat) (v : Bool) (i j : Nat) : (b.setMap f k v i j).fcr = b.fcr := rfl
@[simp] theorem Block.setMap_otp (b : Block) (f : Fld) (k : Nat) (v : Bool) (i j : Nat) : (b.setMap f k v i j).otp = b.otp := rfl
@[simp] theorem Block.setMap_sec (b : Block) (f : Fld) (k : Nat) (v : Bool) (i j : Nat) : (b.setMap f k v i j).sec = b.sec := rfl
@[simp] theorem Block.setMap_hsp (b : Block) (f : Fld) (k : Nat) (v : Bool) (i j : Nat) : (b.setMap f k v i j).hsp = b.hsp := rfl
@[simp] theorem Block.setMap_spu (b : Block) (f : Fld) (k : Nat) (v : Bool) (i j : Nat) : (b.setMap f k v i j).spu = b.spu := rfl

/-! ## `Block.wrapInc` -/

@[simp] theorem Block.wrapInc_ts (b : Block) (f : Fld) (i j : Nat) : (b.wrapInc f i j).ts = b.ts := rfl
@[simp] theorem Block.wrapInc_latches (b : Block) (f : Fld) (i j : Nat) : (b.wrapInc f i j).latches = b.latches := rfl
@[simp] theorem Block.wrapInc_snap (b : Block) (f : Fld) (i j : Nat) : (b.wrapInc f i j).snap = b.snap := rfl
@[simp] theorem Block.wrapInc_wires (b : Block) (f : Fld) (i j : Nat) : (b.wrapInc f i j).wires = b.wires := rfl
@[simp] theorem Block.wrapInc_free (b : Block) (f : Fld) (i j : Nat) : (b.wrapInc f i j).free = b.free := rfl
@[simp] theorem Block.wrapInc_deferred (b : Block) (f : Fld) (i j : Nat) : (b.wrapInc f i j).deferred = b.deferred := rfl
@[simp] theorem Block.wrapInc_crm (b : Block) (f : Fld) (i j : Nat) : (b.wrapInc f i j).crm = b.crm := rfl
@[simp] theorem Block.wrapInc_legs (b : Block) (f : Fld) (i j : Nat) : (b.wrapInc f i j).legs = b.legs := rfl
@[simp] theorem Block.wrapInc_tbs (b : Block) (f : Fld) (i j : Nat) : (b.wrapInc f i j).tbs = b.tbs := rfl
@[simp] theorem Block.wrapInc_axes (b : Block) (f : Fld) (i j : Nat) : (b.wrapInc f i j).axes = b.axes := rfl
@[simp] theorem Block.wrapInc_mbxs (b : Block) (f : Fld) (i j : Nat) : (b.wrapInc f i j).mbxs = b.mbxs := rfl
@[simp] theorem Block.wrapInc_cpOk (b : Block) (f : Fld) (i j : Nat) : (b.wrapInc f i j).cpOk = b.cpOk := rfl
@[simp] theorem Block.wrapInc_pinSp (b : Block) (f : Fld) (i j : Nat) : (b.wrapInc f i j).pinSp = b.pinSp := rfl
@[simp] theorem Block.wrapInc_fbs (b : Block) (f : Fld) (i j : Nat) : (b.wrapInc f i j).fbs = b.fbs := rfl
@[simp] theorem Block.wrapInc_pcoLatch (b : Block) (f : Fld) (i j : Nat) : (b.wrapInc f i j).pcoLatch = b.pcoLatch := rfl
@[simp] theorem Block.wrapInc_pcoPulse (b : Block) (f : Fld) (i j : Nat) : (b.wrapInc f i j).pcoPulse = b.pcoPulse := rfl
@[simp] theorem Block.wrapInc_rings (b : Block) (f : Fld) (i j : Nat) : (b.wrapInc f i j).rings = b.rings := rfl
@[simp] theorem Block.wrapInc_spuPush (b : Block) (f : Fld) (i j : Nat) : (b.wrapInc f i j).spuPush = b.spuPush := rfl
@[simp] theorem Block.wrapInc_spuPop (b : Block) (f : Fld) (i j : Nat) : (b.wrapInc f i j).spuPop = b.spuPop := rfl
@[simp] theorem Block.wrapInc_upset (b : Block) (f : Fld) (i j : Nat) : (b.wrapInc f i j).upset = b.upset := rfl
@[simp] theorem Block.wrapInc_handover (b : Block) (f : Fld) (i j : Nat) : (b.wrapInc f i j).handover = b.handover := rfl
@[simp] theorem Block.wrapInc_passed (b : Block) (f : Fld) (i j : Nat) : (b.wrapInc f i j).passed = b.passed := rfl
@[simp] theorem Block.wrapInc_bankNew (b : Block) (f : Fld) (i j : Nat) : (b.wrapInc f i j).bankNew = b.bankNew := rfl
@[simp] theorem Block.wrapInc_wakeWait (b : Block) (f : Fld) (i j : Nat) : (b.wrapInc f i j).wakeWait = b.wakeWait := rfl
@[simp] theorem Block.wrapInc_xsp (b : Block) (f : Fld) (i j : Nat) : (b.wrapInc f i j).xsp = b.xsp := rfl
@[simp] theorem Block.wrapInc_eth (b : Block) (f : Fld) (i j : Nat) : (b.wrapInc f i j).eth = b.eth := rfl
@[simp] theorem Block.wrapInc_can0 (b : Block) (f : Fld) (i j : Nat) : (b.wrapInc f i j).can0 = b.can0 := rfl
@[simp] theorem Block.wrapInc_can1 (b : Block) (f : Fld) (i j : Nat) : (b.wrapInc f i j).can1 = b.can1 := rfl
@[simp] theorem Block.wrapInc_lcs (b : Block) (f : Fld) (i j : Nat) : (b.wrapInc f i j).lcs = b.lcs := rfl
@[simp] theorem Block.wrapInc_plans (b : Block) (f : Fld) (i j : Nat) : (b.wrapInc f i j).plans = b.plans := rfl
@[simp] theorem Block.wrapInc_convs (b : Block) (f : Fld) (i j : Nat) : (b.wrapInc f i j).convs = b.convs := rfl
@[simp] theorem Block.wrapInc_samples (b : Block) (f : Fld) (i j : Nat) : (b.wrapInc f i j).samples = b.samples := rfl
@[simp] theorem Block.wrapInc_buses (b : Block) (f : Fld) (i j : Nat) : (b.wrapInc f i j).buses = b.buses := rfl
@[simp] theorem Block.wrapInc_sess (b : Block) (f : Fld) (i j : Nat) : (b.wrapInc f i j).sess = b.sess := rfl
@[simp] theorem Block.wrapInc_stgs (b : Block) (f : Fld) (i j : Nat) : (b.wrapInc f i j).stgs = b.stgs := rfl
@[simp] theorem Block.wrapInc_shl (b : Block) (f : Fld) (i j : Nat) : (b.wrapInc f i j).shl = b.shl := rfl
@[simp] theorem Block.wrapInc_fcr (b : Block) (f : Fld) (i j : Nat) : (b.wrapInc f i j).fcr = b.fcr := rfl
@[simp] theorem Block.wrapInc_otp (b : Block) (f : Fld) (i j : Nat) : (b.wrapInc f i j).otp = b.otp := rfl
@[simp] theorem Block.wrapInc_sec (b : Block) (f : Fld) (i j : Nat) : (b.wrapInc f i j).sec = b.sec := rfl
@[simp] theorem Block.wrapInc_hsp (b : Block) (f : Fld) (i j : Nat) : (b.wrapInc f i j).hsp = b.hsp := rfl
@[simp] theorem Block.wrapInc_spu (b : Block) (f : Fld) (i j : Nat) : (b.wrapInc f i j).spu = b.spu := rfl

/-! ## `Block.resetReg` -/

@[simp] theorem Block.resetReg_ts (b : Block) (r : Reg) (i j : Nat) : (b.resetReg r i j).ts = b.ts := rfl
@[simp] theorem Block.resetReg_latches (b : Block) (r : Reg) (i j : Nat) : (b.resetReg r i j).latches = b.latches := rfl
@[simp] theorem Block.resetReg_snap (b : Block) (r : Reg) (i j : Nat) : (b.resetReg r i j).snap = b.snap := rfl
@[simp] theorem Block.resetReg_wires (b : Block) (r : Reg) (i j : Nat) : (b.resetReg r i j).wires = b.wires := rfl
@[simp] theorem Block.resetReg_free (b : Block) (r : Reg) (i j : Nat) : (b.resetReg r i j).free = b.free := rfl
@[simp] theorem Block.resetReg_deferred (b : Block) (r : Reg) (i j : Nat) : (b.resetReg r i j).deferred = b.deferred := rfl
@[simp] theorem Block.resetReg_crm (b : Block) (r : Reg) (i j : Nat) : (b.resetReg r i j).crm = b.crm := rfl
@[simp] theorem Block.resetReg_legs (b : Block) (r : Reg) (i j : Nat) : (b.resetReg r i j).legs = b.legs := rfl
@[simp] theorem Block.resetReg_tbs (b : Block) (r : Reg) (i j : Nat) : (b.resetReg r i j).tbs = b.tbs := rfl
@[simp] theorem Block.resetReg_axes (b : Block) (r : Reg) (i j : Nat) : (b.resetReg r i j).axes = b.axes := rfl
@[simp] theorem Block.resetReg_mbxs (b : Block) (r : Reg) (i j : Nat) : (b.resetReg r i j).mbxs = b.mbxs := rfl
@[simp] theorem Block.resetReg_cpOk (b : Block) (r : Reg) (i j : Nat) : (b.resetReg r i j).cpOk = b.cpOk := rfl
@[simp] theorem Block.resetReg_pinSp (b : Block) (r : Reg) (i j : Nat) : (b.resetReg r i j).pinSp = b.pinSp := rfl
@[simp] theorem Block.resetReg_fbs (b : Block) (r : Reg) (i j : Nat) : (b.resetReg r i j).fbs = b.fbs := rfl
@[simp] theorem Block.resetReg_pcoLatch (b : Block) (r : Reg) (i j : Nat) : (b.resetReg r i j).pcoLatch = b.pcoLatch := rfl
@[simp] theorem Block.resetReg_pcoPulse (b : Block) (r : Reg) (i j : Nat) : (b.resetReg r i j).pcoPulse = b.pcoPulse := rfl
@[simp] theorem Block.resetReg_rings (b : Block) (r : Reg) (i j : Nat) : (b.resetReg r i j).rings = b.rings := rfl
@[simp] theorem Block.resetReg_spuPush (b : Block) (r : Reg) (i j : Nat) : (b.resetReg r i j).spuPush = b.spuPush := rfl
@[simp] theorem Block.resetReg_spuPop (b : Block) (r : Reg) (i j : Nat) : (b.resetReg r i j).spuPop = b.spuPop := rfl
@[simp] theorem Block.resetReg_upset (b : Block) (r : Reg) (i j : Nat) : (b.resetReg r i j).upset = b.upset := rfl
@[simp] theorem Block.resetReg_handover (b : Block) (r : Reg) (i j : Nat) : (b.resetReg r i j).handover = b.handover := rfl
@[simp] theorem Block.resetReg_passed (b : Block) (r : Reg) (i j : Nat) : (b.resetReg r i j).passed = b.passed := rfl
@[simp] theorem Block.resetReg_bankNew (b : Block) (r : Reg) (i j : Nat) : (b.resetReg r i j).bankNew = b.bankNew := rfl
@[simp] theorem Block.resetReg_wakeWait (b : Block) (r : Reg) (i j : Nat) : (b.resetReg r i j).wakeWait = b.wakeWait := rfl
@[simp] theorem Block.resetReg_xsp (b : Block) (r : Reg) (i j : Nat) : (b.resetReg r i j).xsp = b.xsp := rfl
@[simp] theorem Block.resetReg_eth (b : Block) (r : Reg) (i j : Nat) : (b.resetReg r i j).eth = b.eth := rfl
@[simp] theorem Block.resetReg_can0 (b : Block) (r : Reg) (i j : Nat) : (b.resetReg r i j).can0 = b.can0 := rfl
@[simp] theorem Block.resetReg_can1 (b : Block) (r : Reg) (i j : Nat) : (b.resetReg r i j).can1 = b.can1 := rfl
@[simp] theorem Block.resetReg_lcs (b : Block) (r : Reg) (i j : Nat) : (b.resetReg r i j).lcs = b.lcs := rfl
@[simp] theorem Block.resetReg_plans (b : Block) (r : Reg) (i j : Nat) : (b.resetReg r i j).plans = b.plans := rfl
@[simp] theorem Block.resetReg_convs (b : Block) (r : Reg) (i j : Nat) : (b.resetReg r i j).convs = b.convs := rfl
@[simp] theorem Block.resetReg_samples (b : Block) (r : Reg) (i j : Nat) : (b.resetReg r i j).samples = b.samples := rfl
@[simp] theorem Block.resetReg_buses (b : Block) (r : Reg) (i j : Nat) : (b.resetReg r i j).buses = b.buses := rfl
@[simp] theorem Block.resetReg_sess (b : Block) (r : Reg) (i j : Nat) : (b.resetReg r i j).sess = b.sess := rfl
@[simp] theorem Block.resetReg_stgs (b : Block) (r : Reg) (i j : Nat) : (b.resetReg r i j).stgs = b.stgs := rfl
@[simp] theorem Block.resetReg_shl (b : Block) (r : Reg) (i j : Nat) : (b.resetReg r i j).shl = b.shl := rfl
@[simp] theorem Block.resetReg_fcr (b : Block) (r : Reg) (i j : Nat) : (b.resetReg r i j).fcr = b.fcr := rfl
@[simp] theorem Block.resetReg_otp (b : Block) (r : Reg) (i j : Nat) : (b.resetReg r i j).otp = b.otp := rfl
@[simp] theorem Block.resetReg_sec (b : Block) (r : Reg) (i j : Nat) : (b.resetReg r i j).sec = b.sec := rfl
@[simp] theorem Block.resetReg_hsp (b : Block) (r : Reg) (i j : Nat) : (b.resetReg r i j).hsp = b.hsp := rfl
@[simp] theorem Block.resetReg_spu (b : Block) (r : Reg) (i j : Nat) : (b.resetReg r i j).spu = b.spu := rfl

/-! ## `Block.evt` -/

@[simp] theorem Block.evt_ts (b : Block) (p k : Nat) : (b.evt p k).ts = b.ts := rfl
@[simp] theorem Block.evt_latches (b : Block) (p k : Nat) : (b.evt p k).latches = b.latches := rfl
@[simp] theorem Block.evt_snap (b : Block) (p k : Nat) : (b.evt p k).snap = b.snap := rfl
@[simp] theorem Block.evt_wires (b : Block) (p k : Nat) : (b.evt p k).wires = b.wires := rfl
@[simp] theorem Block.evt_free (b : Block) (p k : Nat) : (b.evt p k).free = b.free := rfl
@[simp] theorem Block.evt_deferred (b : Block) (p k : Nat) : (b.evt p k).deferred = b.deferred := rfl
@[simp] theorem Block.evt_crm (b : Block) (p k : Nat) : (b.evt p k).crm = b.crm := rfl
@[simp] theorem Block.evt_legs (b : Block) (p k : Nat) : (b.evt p k).legs = b.legs := rfl
@[simp] theorem Block.evt_tbs (b : Block) (p k : Nat) : (b.evt p k).tbs = b.tbs := rfl
@[simp] theorem Block.evt_axes (b : Block) (p k : Nat) : (b.evt p k).axes = b.axes := rfl
@[simp] theorem Block.evt_mbxs (b : Block) (p k : Nat) : (b.evt p k).mbxs = b.mbxs := rfl
@[simp] theorem Block.evt_cpOk (b : Block) (p k : Nat) : (b.evt p k).cpOk = b.cpOk := rfl
@[simp] theorem Block.evt_pinSp (b : Block) (p k : Nat) : (b.evt p k).pinSp = b.pinSp := rfl
@[simp] theorem Block.evt_fbs (b : Block) (p k : Nat) : (b.evt p k).fbs = b.fbs := rfl
@[simp] theorem Block.evt_pcoLatch (b : Block) (p k : Nat) : (b.evt p k).pcoLatch = b.pcoLatch := rfl
@[simp] theorem Block.evt_pcoPulse (b : Block) (p k : Nat) : (b.evt p k).pcoPulse = b.pcoPulse := rfl
@[simp] theorem Block.evt_rings (b : Block) (p k : Nat) : (b.evt p k).rings = b.rings := rfl
@[simp] theorem Block.evt_spuPush (b : Block) (p k : Nat) : (b.evt p k).spuPush = b.spuPush := rfl
@[simp] theorem Block.evt_spuPop (b : Block) (p k : Nat) : (b.evt p k).spuPop = b.spuPop := rfl
@[simp] theorem Block.evt_upset (b : Block) (p k : Nat) : (b.evt p k).upset = b.upset := rfl
@[simp] theorem Block.evt_handover (b : Block) (p k : Nat) : (b.evt p k).handover = b.handover := rfl
@[simp] theorem Block.evt_passed (b : Block) (p k : Nat) : (b.evt p k).passed = b.passed := rfl
@[simp] theorem Block.evt_bankNew (b : Block) (p k : Nat) : (b.evt p k).bankNew = b.bankNew := rfl
@[simp] theorem Block.evt_wakeWait (b : Block) (p k : Nat) : (b.evt p k).wakeWait = b.wakeWait := rfl
@[simp] theorem Block.evt_xsp (b : Block) (p k : Nat) : (b.evt p k).xsp = b.xsp := rfl
@[simp] theorem Block.evt_eth (b : Block) (p k : Nat) : (b.evt p k).eth = b.eth := rfl
@[simp] theorem Block.evt_can0 (b : Block) (p k : Nat) : (b.evt p k).can0 = b.can0 := rfl
@[simp] theorem Block.evt_can1 (b : Block) (p k : Nat) : (b.evt p k).can1 = b.can1 := rfl
@[simp] theorem Block.evt_lcs (b : Block) (p k : Nat) : (b.evt p k).lcs = b.lcs := rfl
@[simp] theorem Block.evt_plans (b : Block) (p k : Nat) : (b.evt p k).plans = b.plans := rfl
@[simp] theorem Block.evt_convs (b : Block) (p k : Nat) : (b.evt p k).convs = b.convs := rfl
@[simp] theorem Block.evt_samples (b : Block) (p k : Nat) : (b.evt p k).samples = b.samples := rfl
@[simp] theorem Block.evt_buses (b : Block) (p k : Nat) : (b.evt p k).buses = b.buses := rfl
@[simp] theorem Block.evt_sess (b : Block) (p k : Nat) : (b.evt p k).sess = b.sess := rfl
@[simp] theorem Block.evt_stgs (b : Block) (p k : Nat) : (b.evt p k).stgs = b.stgs := rfl
@[simp] theorem Block.evt_shl (b : Block) (p k : Nat) : (b.evt p k).shl = b.shl := rfl
@[simp] theorem Block.evt_fcr (b : Block) (p k : Nat) : (b.evt p k).fcr = b.fcr := rfl
@[simp] theorem Block.evt_otp (b : Block) (p k : Nat) : (b.evt p k).otp = b.otp := rfl
@[simp] theorem Block.evt_sec (b : Block) (p k : Nat) : (b.evt p k).sec = b.sec := rfl
@[simp] theorem Block.evt_hsp (b : Block) (p k : Nat) : (b.evt p k).hsp = b.hsp := rfl
@[simp] theorem Block.evt_spu (b : Block) (p k : Nat) : (b.evt p k).spu = b.spu := rfl

/-! ## `Block.stamp` -/

@[simp] theorem Block.stamp_ts (b : Block) (l h : Reg) (i j : Nat) : (b.stamp l h i j).ts = b.ts := rfl
@[simp] theorem Block.stamp_latches (b : Block) (l h : Reg) (i j : Nat) : (b.stamp l h i j).latches = b.latches := rfl
@[simp] theorem Block.stamp_snap (b : Block) (l h : Reg) (i j : Nat) : (b.stamp l h i j).snap = b.snap := rfl
@[simp] theorem Block.stamp_wires (b : Block) (l h : Reg) (i j : Nat) : (b.stamp l h i j).wires = b.wires := rfl
@[simp] theorem Block.stamp_free (b : Block) (l h : Reg) (i j : Nat) : (b.stamp l h i j).free = b.free := rfl
@[simp] theorem Block.stamp_deferred (b : Block) (l h : Reg) (i j : Nat) : (b.stamp l h i j).deferred = b.deferred := rfl
@[simp] theorem Block.stamp_crm (b : Block) (l h : Reg) (i j : Nat) : (b.stamp l h i j).crm = b.crm := rfl
@[simp] theorem Block.stamp_legs (b : Block) (l h : Reg) (i j : Nat) : (b.stamp l h i j).legs = b.legs := rfl
@[simp] theorem Block.stamp_tbs (b : Block) (l h : Reg) (i j : Nat) : (b.stamp l h i j).tbs = b.tbs := rfl
@[simp] theorem Block.stamp_axes (b : Block) (l h : Reg) (i j : Nat) : (b.stamp l h i j).axes = b.axes := rfl
@[simp] theorem Block.stamp_mbxs (b : Block) (l h : Reg) (i j : Nat) : (b.stamp l h i j).mbxs = b.mbxs := rfl
@[simp] theorem Block.stamp_cpOk (b : Block) (l h : Reg) (i j : Nat) : (b.stamp l h i j).cpOk = b.cpOk := rfl
@[simp] theorem Block.stamp_pinSp (b : Block) (l h : Reg) (i j : Nat) : (b.stamp l h i j).pinSp = b.pinSp := rfl
@[simp] theorem Block.stamp_fbs (b : Block) (l h : Reg) (i j : Nat) : (b.stamp l h i j).fbs = b.fbs := rfl
@[simp] theorem Block.stamp_pcoLatch (b : Block) (l h : Reg) (i j : Nat) : (b.stamp l h i j).pcoLatch = b.pcoLatch := rfl
@[simp] theorem Block.stamp_pcoPulse (b : Block) (l h : Reg) (i j : Nat) : (b.stamp l h i j).pcoPulse = b.pcoPulse := rfl
@[simp] theorem Block.stamp_rings (b : Block) (l h : Reg) (i j : Nat) : (b.stamp l h i j).rings = b.rings := rfl
@[simp] theorem Block.stamp_spuPush (b : Block) (l h : Reg) (i j : Nat) : (b.stamp l h i j).spuPush = b.spuPush := rfl
@[simp] theorem Block.stamp_spuPop (b : Block) (l h : Reg) (i j : Nat) : (b.stamp l h i j).spuPop = b.spuPop := rfl
@[simp] theorem Block.stamp_upset (b : Block) (l h : Reg) (i j : Nat) : (b.stamp l h i j).upset = b.upset := rfl
@[simp] theorem Block.stamp_handover (b : Block) (l h : Reg) (i j : Nat) : (b.stamp l h i j).handover = b.handover := rfl
@[simp] theorem Block.stamp_passed (b : Block) (l h : Reg) (i j : Nat) : (b.stamp l h i j).passed = b.passed := rfl
@[simp] theorem Block.stamp_bankNew (b : Block) (l h : Reg) (i j : Nat) : (b.stamp l h i j).bankNew = b.bankNew := rfl
@[simp] theorem Block.stamp_wakeWait (b : Block) (l h : Reg) (i j : Nat) : (b.stamp l h i j).wakeWait = b.wakeWait := rfl
@[simp] theorem Block.stamp_xsp (b : Block) (l h : Reg) (i j : Nat) : (b.stamp l h i j).xsp = b.xsp := rfl
@[simp] theorem Block.stamp_eth (b : Block) (l h : Reg) (i j : Nat) : (b.stamp l h i j).eth = b.eth := rfl
@[simp] theorem Block.stamp_can0 (b : Block) (l h : Reg) (i j : Nat) : (b.stamp l h i j).can0 = b.can0 := rfl
@[simp] theorem Block.stamp_can1 (b : Block) (l h : Reg) (i j : Nat) : (b.stamp l h i j).can1 = b.can1 := rfl
@[simp] theorem Block.stamp_lcs (b : Block) (l h : Reg) (i j : Nat) : (b.stamp l h i j).lcs = b.lcs := rfl
@[simp] theorem Block.stamp_plans (b : Block) (l h : Reg) (i j : Nat) : (b.stamp l h i j).plans = b.plans := rfl
@[simp] theorem Block.stamp_convs (b : Block) (l h : Reg) (i j : Nat) : (b.stamp l h i j).convs = b.convs := rfl
@[simp] theorem Block.stamp_samples (b : Block) (l h : Reg) (i j : Nat) : (b.stamp l h i j).samples = b.samples := rfl
@[simp] theorem Block.stamp_buses (b : Block) (l h : Reg) (i j : Nat) : (b.stamp l h i j).buses = b.buses := rfl
@[simp] theorem Block.stamp_sess (b : Block) (l h : Reg) (i j : Nat) : (b.stamp l h i j).sess = b.sess := rfl
@[simp] theorem Block.stamp_stgs (b : Block) (l h : Reg) (i j : Nat) : (b.stamp l h i j).stgs = b.stgs := rfl
@[simp] theorem Block.stamp_shl (b : Block) (l h : Reg) (i j : Nat) : (b.stamp l h i j).shl = b.shl := rfl
@[simp] theorem Block.stamp_fcr (b : Block) (l h : Reg) (i j : Nat) : (b.stamp l h i j).fcr = b.fcr := rfl
@[simp] theorem Block.stamp_otp (b : Block) (l h : Reg) (i j : Nat) : (b.stamp l h i j).otp = b.otp := rfl
@[simp] theorem Block.stamp_sec (b : Block) (l h : Reg) (i j : Nat) : (b.stamp l h i j).sec = b.sec := rfl
@[simp] theorem Block.stamp_hsp (b : Block) (l h : Reg) (i j : Nat) : (b.stamp l h i j).hsp = b.hsp := rfl
@[simp] theorem Block.stamp_spu (b : Block) (l h : Reg) (i j : Nat) : (b.stamp l h i j).spu = b.spu := rfl

/-! ## `Block.store` -/

@[simp] theorem Block.store_ts (b : Block) (r : Reg) (w : Word) (i j : Nat) : (b.store r w i j).ts = b.ts := rfl
@[simp] theorem Block.store_latches (b : Block) (r : Reg) (w : Word) (i j : Nat) : (b.store r w i j).latches = b.latches := rfl
@[simp] theorem Block.store_snap (b : Block) (r : Reg) (w : Word) (i j : Nat) : (b.store r w i j).snap = b.snap := rfl
@[simp] theorem Block.store_wires (b : Block) (r : Reg) (w : Word) (i j : Nat) : (b.store r w i j).wires = b.wires := rfl
@[simp] theorem Block.store_free (b : Block) (r : Reg) (w : Word) (i j : Nat) : (b.store r w i j).free = b.free := rfl
@[simp] theorem Block.store_deferred (b : Block) (r : Reg) (w : Word) (i j : Nat) : (b.store r w i j).deferred = b.deferred := rfl
@[simp] theorem Block.store_crm (b : Block) (r : Reg) (w : Word) (i j : Nat) : (b.store r w i j).crm = b.crm := rfl
@[simp] theorem Block.store_legs (b : Block) (r : Reg) (w : Word) (i j : Nat) : (b.store r w i j).legs = b.legs := rfl
@[simp] theorem Block.store_tbs (b : Block) (r : Reg) (w : Word) (i j : Nat) : (b.store r w i j).tbs = b.tbs := rfl
@[simp] theorem Block.store_axes (b : Block) (r : Reg) (w : Word) (i j : Nat) : (b.store r w i j).axes = b.axes := rfl
@[simp] theorem Block.store_mbxs (b : Block) (r : Reg) (w : Word) (i j : Nat) : (b.store r w i j).mbxs = b.mbxs := rfl
@[simp] theorem Block.store_cpOk (b : Block) (r : Reg) (w : Word) (i j : Nat) : (b.store r w i j).cpOk = b.cpOk := rfl
@[simp] theorem Block.store_pinSp (b : Block) (r : Reg) (w : Word) (i j : Nat) : (b.store r w i j).pinSp = b.pinSp := rfl
@[simp] theorem Block.store_fbs (b : Block) (r : Reg) (w : Word) (i j : Nat) : (b.store r w i j).fbs = b.fbs := rfl
@[simp] theorem Block.store_pcoLatch (b : Block) (r : Reg) (w : Word) (i j : Nat) : (b.store r w i j).pcoLatch = b.pcoLatch := rfl
@[simp] theorem Block.store_pcoPulse (b : Block) (r : Reg) (w : Word) (i j : Nat) : (b.store r w i j).pcoPulse = b.pcoPulse := rfl
@[simp] theorem Block.store_rings (b : Block) (r : Reg) (w : Word) (i j : Nat) : (b.store r w i j).rings = b.rings := rfl
@[simp] theorem Block.store_spuPush (b : Block) (r : Reg) (w : Word) (i j : Nat) : (b.store r w i j).spuPush = b.spuPush := rfl
@[simp] theorem Block.store_spuPop (b : Block) (r : Reg) (w : Word) (i j : Nat) : (b.store r w i j).spuPop = b.spuPop := rfl
@[simp] theorem Block.store_upset (b : Block) (r : Reg) (w : Word) (i j : Nat) : (b.store r w i j).upset = b.upset := rfl
@[simp] theorem Block.store_handover (b : Block) (r : Reg) (w : Word) (i j : Nat) : (b.store r w i j).handover = b.handover := rfl
@[simp] theorem Block.store_passed (b : Block) (r : Reg) (w : Word) (i j : Nat) : (b.store r w i j).passed = b.passed := rfl
@[simp] theorem Block.store_bankNew (b : Block) (r : Reg) (w : Word) (i j : Nat) : (b.store r w i j).bankNew = b.bankNew := rfl
@[simp] theorem Block.store_wakeWait (b : Block) (r : Reg) (w : Word) (i j : Nat) : (b.store r w i j).wakeWait = b.wakeWait := rfl
@[simp] theorem Block.store_xsp (b : Block) (r : Reg) (w : Word) (i j : Nat) : (b.store r w i j).xsp = b.xsp := rfl
@[simp] theorem Block.store_eth (b : Block) (r : Reg) (w : Word) (i j : Nat) : (b.store r w i j).eth = b.eth := rfl
@[simp] theorem Block.store_can0 (b : Block) (r : Reg) (w : Word) (i j : Nat) : (b.store r w i j).can0 = b.can0 := rfl
@[simp] theorem Block.store_can1 (b : Block) (r : Reg) (w : Word) (i j : Nat) : (b.store r w i j).can1 = b.can1 := rfl
@[simp] theorem Block.store_lcs (b : Block) (r : Reg) (w : Word) (i j : Nat) : (b.store r w i j).lcs = b.lcs := rfl
@[simp] theorem Block.store_plans (b : Block) (r : Reg) (w : Word) (i j : Nat) : (b.store r w i j).plans = b.plans := rfl
@[simp] theorem Block.store_convs (b : Block) (r : Reg) (w : Word) (i j : Nat) : (b.store r w i j).convs = b.convs := rfl
@[simp] theorem Block.store_samples (b : Block) (r : Reg) (w : Word) (i j : Nat) : (b.store r w i j).samples = b.samples := rfl
@[simp] theorem Block.store_buses (b : Block) (r : Reg) (w : Word) (i j : Nat) : (b.store r w i j).buses = b.buses := rfl
@[simp] theorem Block.store_sess (b : Block) (r : Reg) (w : Word) (i j : Nat) : (b.store r w i j).sess = b.sess := rfl
@[simp] theorem Block.store_stgs (b : Block) (r : Reg) (w : Word) (i j : Nat) : (b.store r w i j).stgs = b.stgs := rfl
@[simp] theorem Block.store_shl (b : Block) (r : Reg) (w : Word) (i j : Nat) : (b.store r w i j).shl = b.shl := rfl
@[simp] theorem Block.store_fcr (b : Block) (r : Reg) (w : Word) (i j : Nat) : (b.store r w i j).fcr = b.fcr := rfl
@[simp] theorem Block.store_otp (b : Block) (r : Reg) (w : Word) (i j : Nat) : (b.store r w i j).otp = b.otp := rfl
@[simp] theorem Block.store_sec (b : Block) (r : Reg) (w : Word) (i j : Nat) : (b.store r w i j).sec = b.sec := rfl
@[simp] theorem Block.store_hsp (b : Block) (r : Reg) (w : Word) (i j : Nat) : (b.store r w i j).hsp = b.hsp := rfl
@[simp] theorem Block.store_spu (b : Block) (r : Reg) (w : Word) (i j : Nat) : (b.store r w i j).spu = b.spu := rfl

/-! ## `Block.bump` -/

@[simp] theorem Block.bump_ts (b : Block) (c o : Fld) (i j : Nat) : (b.bump c o i j).ts = b.ts := by unfold Block.bump; split <;> rfl
@[simp] theorem Block.bump_latches (b : Block) (c o : Fld) (i j : Nat) : (b.bump c o i j).latches = b.latches := by unfold Block.bump; split <;> rfl
@[simp] theorem Block.bump_snap (b : Block) (c o : Fld) (i j : Nat) : (b.bump c o i j).snap = b.snap := by unfold Block.bump; split <;> rfl
@[simp] theorem Block.bump_wires (b : Block) (c o : Fld) (i j : Nat) : (b.bump c o i j).wires = b.wires := by unfold Block.bump; split <;> rfl
@[simp] theorem Block.bump_free (b : Block) (c o : Fld) (i j : Nat) : (b.bump c o i j).free = b.free := by unfold Block.bump; split <;> rfl
@[simp] theorem Block.bump_deferred (b : Block) (c o : Fld) (i j : Nat) : (b.bump c o i j).deferred = b.deferred := by unfold Block.bump; split <;> rfl
@[simp] theorem Block.bump_crm (b : Block) (c o : Fld) (i j : Nat) : (b.bump c o i j).crm = b.crm := by unfold Block.bump; split <;> rfl
@[simp] theorem Block.bump_legs (b : Block) (c o : Fld) (i j : Nat) : (b.bump c o i j).legs = b.legs := by unfold Block.bump; split <;> rfl
@[simp] theorem Block.bump_tbs (b : Block) (c o : Fld) (i j : Nat) : (b.bump c o i j).tbs = b.tbs := by unfold Block.bump; split <;> rfl
@[simp] theorem Block.bump_axes (b : Block) (c o : Fld) (i j : Nat) : (b.bump c o i j).axes = b.axes := by unfold Block.bump; split <;> rfl
@[simp] theorem Block.bump_mbxs (b : Block) (c o : Fld) (i j : Nat) : (b.bump c o i j).mbxs = b.mbxs := by unfold Block.bump; split <;> rfl
@[simp] theorem Block.bump_cpOk (b : Block) (c o : Fld) (i j : Nat) : (b.bump c o i j).cpOk = b.cpOk := by unfold Block.bump; split <;> rfl
@[simp] theorem Block.bump_pinSp (b : Block) (c o : Fld) (i j : Nat) : (b.bump c o i j).pinSp = b.pinSp := by unfold Block.bump; split <;> rfl
@[simp] theorem Block.bump_fbs (b : Block) (c o : Fld) (i j : Nat) : (b.bump c o i j).fbs = b.fbs := by unfold Block.bump; split <;> rfl
@[simp] theorem Block.bump_pcoLatch (b : Block) (c o : Fld) (i j : Nat) : (b.bump c o i j).pcoLatch = b.pcoLatch := by unfold Block.bump; split <;> rfl
@[simp] theorem Block.bump_pcoPulse (b : Block) (c o : Fld) (i j : Nat) : (b.bump c o i j).pcoPulse = b.pcoPulse := by unfold Block.bump; split <;> rfl
@[simp] theorem Block.bump_rings (b : Block) (c o : Fld) (i j : Nat) : (b.bump c o i j).rings = b.rings := by unfold Block.bump; split <;> rfl
@[simp] theorem Block.bump_spuPush (b : Block) (c o : Fld) (i j : Nat) : (b.bump c o i j).spuPush = b.spuPush := by unfold Block.bump; split <;> rfl
@[simp] theorem Block.bump_spuPop (b : Block) (c o : Fld) (i j : Nat) : (b.bump c o i j).spuPop = b.spuPop := by unfold Block.bump; split <;> rfl
@[simp] theorem Block.bump_upset (b : Block) (c o : Fld) (i j : Nat) : (b.bump c o i j).upset = b.upset := by unfold Block.bump; split <;> rfl
@[simp] theorem Block.bump_handover (b : Block) (c o : Fld) (i j : Nat) : (b.bump c o i j).handover = b.handover := by unfold Block.bump; split <;> rfl
@[simp] theorem Block.bump_passed (b : Block) (c o : Fld) (i j : Nat) : (b.bump c o i j).passed = b.passed := by unfold Block.bump; split <;> rfl
@[simp] theorem Block.bump_bankNew (b : Block) (c o : Fld) (i j : Nat) : (b.bump c o i j).bankNew = b.bankNew := by unfold Block.bump; split <;> rfl
@[simp] theorem Block.bump_wakeWait (b : Block) (c o : Fld) (i j : Nat) : (b.bump c o i j).wakeWait = b.wakeWait := by unfold Block.bump; split <;> rfl
@[simp] theorem Block.bump_xsp (b : Block) (c o : Fld) (i j : Nat) : (b.bump c o i j).xsp = b.xsp := by unfold Block.bump; split <;> rfl
@[simp] theorem Block.bump_eth (b : Block) (c o : Fld) (i j : Nat) : (b.bump c o i j).eth = b.eth := by unfold Block.bump; split <;> rfl
@[simp] theorem Block.bump_can0 (b : Block) (c o : Fld) (i j : Nat) : (b.bump c o i j).can0 = b.can0 := by unfold Block.bump; split <;> rfl
@[simp] theorem Block.bump_can1 (b : Block) (c o : Fld) (i j : Nat) : (b.bump c o i j).can1 = b.can1 := by unfold Block.bump; split <;> rfl
@[simp] theorem Block.bump_lcs (b : Block) (c o : Fld) (i j : Nat) : (b.bump c o i j).lcs = b.lcs := by unfold Block.bump; split <;> rfl
@[simp] theorem Block.bump_plans (b : Block) (c o : Fld) (i j : Nat) : (b.bump c o i j).plans = b.plans := by unfold Block.bump; split <;> rfl
@[simp] theorem Block.bump_convs (b : Block) (c o : Fld) (i j : Nat) : (b.bump c o i j).convs = b.convs := by unfold Block.bump; split <;> rfl
@[simp] theorem Block.bump_samples (b : Block) (c o : Fld) (i j : Nat) : (b.bump c o i j).samples = b.samples := by unfold Block.bump; split <;> rfl
@[simp] theorem Block.bump_buses (b : Block) (c o : Fld) (i j : Nat) : (b.bump c o i j).buses = b.buses := by unfold Block.bump; split <;> rfl
@[simp] theorem Block.bump_sess (b : Block) (c o : Fld) (i j : Nat) : (b.bump c o i j).sess = b.sess := by unfold Block.bump; split <;> rfl
@[simp] theorem Block.bump_stgs (b : Block) (c o : Fld) (i j : Nat) : (b.bump c o i j).stgs = b.stgs := by unfold Block.bump; split <;> rfl
@[simp] theorem Block.bump_shl (b : Block) (c o : Fld) (i j : Nat) : (b.bump c o i j).shl = b.shl := by unfold Block.bump; split <;> rfl
@[simp] theorem Block.bump_fcr (b : Block) (c o : Fld) (i j : Nat) : (b.bump c o i j).fcr = b.fcr := by unfold Block.bump; split <;> rfl
@[simp] theorem Block.bump_otp (b : Block) (c o : Fld) (i j : Nat) : (b.bump c o i j).otp = b.otp := by unfold Block.bump; split <;> rfl
@[simp] theorem Block.bump_sec (b : Block) (c o : Fld) (i j : Nat) : (b.bump c o i j).sec = b.sec := by unfold Block.bump; split <;> rfl
@[simp] theorem Block.bump_hsp (b : Block) (c o : Fld) (i j : Nat) : (b.bump c o i j).hsp = b.hsp := by unfold Block.bump; split <;> rfl
@[simp] theorem Block.bump_spu (b : Block) (c o : Fld) (i j : Nat) : (b.bump c o i j).spu = b.spu := by unfold Block.bump; split <;> rfl

/-! ## `Block.setLeg` -/

@[simp] theorem Block.setLeg_regs (b : Block) (n : Nat) (x : LegSt) : (b.setLeg n x).regs = b.regs := rfl
@[simp] theorem Block.setLeg_ts (b : Block) (n : Nat) (x : LegSt) : (b.setLeg n x).ts = b.ts := rfl
@[simp] theorem Block.setLeg_latches (b : Block) (n : Nat) (x : LegSt) : (b.setLeg n x).latches = b.latches := rfl
@[simp] theorem Block.setLeg_snap (b : Block) (n : Nat) (x : LegSt) : (b.setLeg n x).snap = b.snap := rfl
@[simp] theorem Block.setLeg_wires (b : Block) (n : Nat) (x : LegSt) : (b.setLeg n x).wires = b.wires := rfl
@[simp] theorem Block.setLeg_free (b : Block) (n : Nat) (x : LegSt) : (b.setLeg n x).free = b.free := rfl
@[simp] theorem Block.setLeg_deferred (b : Block) (n : Nat) (x : LegSt) : (b.setLeg n x).deferred = b.deferred := rfl
@[simp] theorem Block.setLeg_crm (b : Block) (n : Nat) (x : LegSt) : (b.setLeg n x).crm = b.crm := rfl
@[simp] theorem Block.setLeg_tbs (b : Block) (n : Nat) (x : LegSt) : (b.setLeg n x).tbs = b.tbs := rfl
@[simp] theorem Block.setLeg_axes (b : Block) (n : Nat) (x : LegSt) : (b.setLeg n x).axes = b.axes := rfl
@[simp] theorem Block.setLeg_mbxs (b : Block) (n : Nat) (x : LegSt) : (b.setLeg n x).mbxs = b.mbxs := rfl
@[simp] theorem Block.setLeg_cpOk (b : Block) (n : Nat) (x : LegSt) : (b.setLeg n x).cpOk = b.cpOk := rfl
@[simp] theorem Block.setLeg_pinSp (b : Block) (n : Nat) (x : LegSt) : (b.setLeg n x).pinSp = b.pinSp := rfl
@[simp] theorem Block.setLeg_fbs (b : Block) (n : Nat) (x : LegSt) : (b.setLeg n x).fbs = b.fbs := rfl
@[simp] theorem Block.setLeg_pcoLatch (b : Block) (n : Nat) (x : LegSt) : (b.setLeg n x).pcoLatch = b.pcoLatch := rfl
@[simp] theorem Block.setLeg_pcoPulse (b : Block) (n : Nat) (x : LegSt) : (b.setLeg n x).pcoPulse = b.pcoPulse := rfl
@[simp] theorem Block.setLeg_rings (b : Block) (n : Nat) (x : LegSt) : (b.setLeg n x).rings = b.rings := rfl
@[simp] theorem Block.setLeg_spuPush (b : Block) (n : Nat) (x : LegSt) : (b.setLeg n x).spuPush = b.spuPush := rfl
@[simp] theorem Block.setLeg_spuPop (b : Block) (n : Nat) (x : LegSt) : (b.setLeg n x).spuPop = b.spuPop := rfl
@[simp] theorem Block.setLeg_upset (b : Block) (n : Nat) (x : LegSt) : (b.setLeg n x).upset = b.upset := rfl
@[simp] theorem Block.setLeg_handover (b : Block) (n : Nat) (x : LegSt) : (b.setLeg n x).handover = b.handover := rfl
@[simp] theorem Block.setLeg_passed (b : Block) (n : Nat) (x : LegSt) : (b.setLeg n x).passed = b.passed := rfl
@[simp] theorem Block.setLeg_bankNew (b : Block) (n : Nat) (x : LegSt) : (b.setLeg n x).bankNew = b.bankNew := rfl
@[simp] theorem Block.setLeg_wakeWait (b : Block) (n : Nat) (x : LegSt) : (b.setLeg n x).wakeWait = b.wakeWait := rfl
@[simp] theorem Block.setLeg_xsp (b : Block) (n : Nat) (x : LegSt) : (b.setLeg n x).xsp = b.xsp := rfl
@[simp] theorem Block.setLeg_eth (b : Block) (n : Nat) (x : LegSt) : (b.setLeg n x).eth = b.eth := rfl
@[simp] theorem Block.setLeg_can0 (b : Block) (n : Nat) (x : LegSt) : (b.setLeg n x).can0 = b.can0 := rfl
@[simp] theorem Block.setLeg_can1 (b : Block) (n : Nat) (x : LegSt) : (b.setLeg n x).can1 = b.can1 := rfl
@[simp] theorem Block.setLeg_lcs (b : Block) (n : Nat) (x : LegSt) : (b.setLeg n x).lcs = b.lcs := rfl
@[simp] theorem Block.setLeg_plans (b : Block) (n : Nat) (x : LegSt) : (b.setLeg n x).plans = b.plans := rfl
@[simp] theorem Block.setLeg_convs (b : Block) (n : Nat) (x : LegSt) : (b.setLeg n x).convs = b.convs := rfl
@[simp] theorem Block.setLeg_samples (b : Block) (n : Nat) (x : LegSt) : (b.setLeg n x).samples = b.samples := rfl
@[simp] theorem Block.setLeg_buses (b : Block) (n : Nat) (x : LegSt) : (b.setLeg n x).buses = b.buses := rfl
@[simp] theorem Block.setLeg_sess (b : Block) (n : Nat) (x : LegSt) : (b.setLeg n x).sess = b.sess := rfl
@[simp] theorem Block.setLeg_stgs (b : Block) (n : Nat) (x : LegSt) : (b.setLeg n x).stgs = b.stgs := rfl
@[simp] theorem Block.setLeg_shl (b : Block) (n : Nat) (x : LegSt) : (b.setLeg n x).shl = b.shl := rfl
@[simp] theorem Block.setLeg_fcr (b : Block) (n : Nat) (x : LegSt) : (b.setLeg n x).fcr = b.fcr := rfl
@[simp] theorem Block.setLeg_otp (b : Block) (n : Nat) (x : LegSt) : (b.setLeg n x).otp = b.otp := rfl
@[simp] theorem Block.setLeg_sec (b : Block) (n : Nat) (x : LegSt) : (b.setLeg n x).sec = b.sec := rfl
@[simp] theorem Block.setLeg_hsp (b : Block) (n : Nat) (x : LegSt) : (b.setLeg n x).hsp = b.hsp := rfl
@[simp] theorem Block.setLeg_spu (b : Block) (n : Nat) (x : LegSt) : (b.setLeg n x).spu = b.spu := rfl

/-! ## `Block.setTb` -/

@[simp] theorem Block.setTb_regs (b : Block) (n : Nat) (x : TbSt) : (b.setTb n x).regs = b.regs := rfl
@[simp] theorem Block.setTb_ts (b : Block) (n : Nat) (x : TbSt) : (b.setTb n x).ts = b.ts := rfl
@[simp] theorem Block.setTb_latches (b : Block) (n : Nat) (x : TbSt) : (b.setTb n x).latches = b.latches := rfl
@[simp] theorem Block.setTb_snap (b : Block) (n : Nat) (x : TbSt) : (b.setTb n x).snap = b.snap := rfl
@[simp] theorem Block.setTb_wires (b : Block) (n : Nat) (x : TbSt) : (b.setTb n x).wires = b.wires := rfl
@[simp] theorem Block.setTb_free (b : Block) (n : Nat) (x : TbSt) : (b.setTb n x).free = b.free := rfl
@[simp] theorem Block.setTb_deferred (b : Block) (n : Nat) (x : TbSt) : (b.setTb n x).deferred = b.deferred := rfl
@[simp] theorem Block.setTb_crm (b : Block) (n : Nat) (x : TbSt) : (b.setTb n x).crm = b.crm := rfl
@[simp] theorem Block.setTb_legs (b : Block) (n : Nat) (x : TbSt) : (b.setTb n x).legs = b.legs := rfl
@[simp] theorem Block.setTb_axes (b : Block) (n : Nat) (x : TbSt) : (b.setTb n x).axes = b.axes := rfl
@[simp] theorem Block.setTb_mbxs (b : Block) (n : Nat) (x : TbSt) : (b.setTb n x).mbxs = b.mbxs := rfl
@[simp] theorem Block.setTb_cpOk (b : Block) (n : Nat) (x : TbSt) : (b.setTb n x).cpOk = b.cpOk := rfl
@[simp] theorem Block.setTb_pinSp (b : Block) (n : Nat) (x : TbSt) : (b.setTb n x).pinSp = b.pinSp := rfl
@[simp] theorem Block.setTb_fbs (b : Block) (n : Nat) (x : TbSt) : (b.setTb n x).fbs = b.fbs := rfl
@[simp] theorem Block.setTb_pcoLatch (b : Block) (n : Nat) (x : TbSt) : (b.setTb n x).pcoLatch = b.pcoLatch := rfl
@[simp] theorem Block.setTb_pcoPulse (b : Block) (n : Nat) (x : TbSt) : (b.setTb n x).pcoPulse = b.pcoPulse := rfl
@[simp] theorem Block.setTb_rings (b : Block) (n : Nat) (x : TbSt) : (b.setTb n x).rings = b.rings := rfl
@[simp] theorem Block.setTb_spuPush (b : Block) (n : Nat) (x : TbSt) : (b.setTb n x).spuPush = b.spuPush := rfl
@[simp] theorem Block.setTb_spuPop (b : Block) (n : Nat) (x : TbSt) : (b.setTb n x).spuPop = b.spuPop := rfl
@[simp] theorem Block.setTb_upset (b : Block) (n : Nat) (x : TbSt) : (b.setTb n x).upset = b.upset := rfl
@[simp] theorem Block.setTb_handover (b : Block) (n : Nat) (x : TbSt) : (b.setTb n x).handover = b.handover := rfl
@[simp] theorem Block.setTb_passed (b : Block) (n : Nat) (x : TbSt) : (b.setTb n x).passed = b.passed := rfl
@[simp] theorem Block.setTb_bankNew (b : Block) (n : Nat) (x : TbSt) : (b.setTb n x).bankNew = b.bankNew := rfl
@[simp] theorem Block.setTb_wakeWait (b : Block) (n : Nat) (x : TbSt) : (b.setTb n x).wakeWait = b.wakeWait := rfl
@[simp] theorem Block.setTb_xsp (b : Block) (n : Nat) (x : TbSt) : (b.setTb n x).xsp = b.xsp := rfl
@[simp] theorem Block.setTb_eth (b : Block) (n : Nat) (x : TbSt) : (b.setTb n x).eth = b.eth := rfl
@[simp] theorem Block.setTb_can0 (b : Block) (n : Nat) (x : TbSt) : (b.setTb n x).can0 = b.can0 := rfl
@[simp] theorem Block.setTb_can1 (b : Block) (n : Nat) (x : TbSt) : (b.setTb n x).can1 = b.can1 := rfl
@[simp] theorem Block.setTb_lcs (b : Block) (n : Nat) (x : TbSt) : (b.setTb n x).lcs = b.lcs := rfl
@[simp] theorem Block.setTb_plans (b : Block) (n : Nat) (x : TbSt) : (b.setTb n x).plans = b.plans := rfl
@[simp] theorem Block.setTb_convs (b : Block) (n : Nat) (x : TbSt) : (b.setTb n x).convs = b.convs := rfl
@[simp] theorem Block.setTb_samples (b : Block) (n : Nat) (x : TbSt) : (b.setTb n x).samples = b.samples := rfl
@[simp] theorem Block.setTb_buses (b : Block) (n : Nat) (x : TbSt) : (b.setTb n x).buses = b.buses := rfl
@[simp] theorem Block.setTb_sess (b : Block) (n : Nat) (x : TbSt) : (b.setTb n x).sess = b.sess := rfl
@[simp] theorem Block.setTb_stgs (b : Block) (n : Nat) (x : TbSt) : (b.setTb n x).stgs = b.stgs := rfl
@[simp] theorem Block.setTb_shl (b : Block) (n : Nat) (x : TbSt) : (b.setTb n x).shl = b.shl := rfl
@[simp] theorem Block.setTb_fcr (b : Block) (n : Nat) (x : TbSt) : (b.setTb n x).fcr = b.fcr := rfl
@[simp] theorem Block.setTb_otp (b : Block) (n : Nat) (x : TbSt) : (b.setTb n x).otp = b.otp := rfl
@[simp] theorem Block.setTb_sec (b : Block) (n : Nat) (x : TbSt) : (b.setTb n x).sec = b.sec := rfl
@[simp] theorem Block.setTb_hsp (b : Block) (n : Nat) (x : TbSt) : (b.setTb n x).hsp = b.hsp := rfl
@[simp] theorem Block.setTb_spu (b : Block) (n : Nat) (x : TbSt) : (b.setTb n x).spu = b.spu := rfl

/-! ## `Block.setAx` -/

@[simp] theorem Block.setAx_regs (b : Block) (n : Nat) (x : AxSt) : (b.setAx n x).regs = b.regs := rfl
@[simp] theorem Block.setAx_ts (b : Block) (n : Nat) (x : AxSt) : (b.setAx n x).ts = b.ts := rfl
@[simp] theorem Block.setAx_latches (b : Block) (n : Nat) (x : AxSt) : (b.setAx n x).latches = b.latches := rfl
@[simp] theorem Block.setAx_snap (b : Block) (n : Nat) (x : AxSt) : (b.setAx n x).snap = b.snap := rfl
@[simp] theorem Block.setAx_wires (b : Block) (n : Nat) (x : AxSt) : (b.setAx n x).wires = b.wires := rfl
@[simp] theorem Block.setAx_free (b : Block) (n : Nat) (x : AxSt) : (b.setAx n x).free = b.free := rfl
@[simp] theorem Block.setAx_deferred (b : Block) (n : Nat) (x : AxSt) : (b.setAx n x).deferred = b.deferred := rfl
@[simp] theorem Block.setAx_crm (b : Block) (n : Nat) (x : AxSt) : (b.setAx n x).crm = b.crm := rfl
@[simp] theorem Block.setAx_legs (b : Block) (n : Nat) (x : AxSt) : (b.setAx n x).legs = b.legs := rfl
@[simp] theorem Block.setAx_tbs (b : Block) (n : Nat) (x : AxSt) : (b.setAx n x).tbs = b.tbs := rfl
@[simp] theorem Block.setAx_mbxs (b : Block) (n : Nat) (x : AxSt) : (b.setAx n x).mbxs = b.mbxs := rfl
@[simp] theorem Block.setAx_cpOk (b : Block) (n : Nat) (x : AxSt) : (b.setAx n x).cpOk = b.cpOk := rfl
@[simp] theorem Block.setAx_pinSp (b : Block) (n : Nat) (x : AxSt) : (b.setAx n x).pinSp = b.pinSp := rfl
@[simp] theorem Block.setAx_fbs (b : Block) (n : Nat) (x : AxSt) : (b.setAx n x).fbs = b.fbs := rfl
@[simp] theorem Block.setAx_pcoLatch (b : Block) (n : Nat) (x : AxSt) : (b.setAx n x).pcoLatch = b.pcoLatch := rfl
@[simp] theorem Block.setAx_pcoPulse (b : Block) (n : Nat) (x : AxSt) : (b.setAx n x).pcoPulse = b.pcoPulse := rfl
@[simp] theorem Block.setAx_rings (b : Block) (n : Nat) (x : AxSt) : (b.setAx n x).rings = b.rings := rfl
@[simp] theorem Block.setAx_spuPush (b : Block) (n : Nat) (x : AxSt) : (b.setAx n x).spuPush = b.spuPush := rfl
@[simp] theorem Block.setAx_spuPop (b : Block) (n : Nat) (x : AxSt) : (b.setAx n x).spuPop = b.spuPop := rfl
@[simp] theorem Block.setAx_upset (b : Block) (n : Nat) (x : AxSt) : (b.setAx n x).upset = b.upset := rfl
@[simp] theorem Block.setAx_handover (b : Block) (n : Nat) (x : AxSt) : (b.setAx n x).handover = b.handover := rfl
@[simp] theorem Block.setAx_passed (b : Block) (n : Nat) (x : AxSt) : (b.setAx n x).passed = b.passed := rfl
@[simp] theorem Block.setAx_bankNew (b : Block) (n : Nat) (x : AxSt) : (b.setAx n x).bankNew = b.bankNew := rfl
@[simp] theorem Block.setAx_wakeWait (b : Block) (n : Nat) (x : AxSt) : (b.setAx n x).wakeWait = b.wakeWait := rfl
@[simp] theorem Block.setAx_xsp (b : Block) (n : Nat) (x : AxSt) : (b.setAx n x).xsp = b.xsp := rfl
@[simp] theorem Block.setAx_eth (b : Block) (n : Nat) (x : AxSt) : (b.setAx n x).eth = b.eth := rfl
@[simp] theorem Block.setAx_can0 (b : Block) (n : Nat) (x : AxSt) : (b.setAx n x).can0 = b.can0 := rfl
@[simp] theorem Block.setAx_can1 (b : Block) (n : Nat) (x : AxSt) : (b.setAx n x).can1 = b.can1 := rfl
@[simp] theorem Block.setAx_lcs (b : Block) (n : Nat) (x : AxSt) : (b.setAx n x).lcs = b.lcs := rfl
@[simp] theorem Block.setAx_plans (b : Block) (n : Nat) (x : AxSt) : (b.setAx n x).plans = b.plans := rfl
@[simp] theorem Block.setAx_convs (b : Block) (n : Nat) (x : AxSt) : (b.setAx n x).convs = b.convs := rfl
@[simp] theorem Block.setAx_samples (b : Block) (n : Nat) (x : AxSt) : (b.setAx n x).samples = b.samples := rfl
@[simp] theorem Block.setAx_buses (b : Block) (n : Nat) (x : AxSt) : (b.setAx n x).buses = b.buses := rfl
@[simp] theorem Block.setAx_sess (b : Block) (n : Nat) (x : AxSt) : (b.setAx n x).sess = b.sess := rfl
@[simp] theorem Block.setAx_stgs (b : Block) (n : Nat) (x : AxSt) : (b.setAx n x).stgs = b.stgs := rfl
@[simp] theorem Block.setAx_shl (b : Block) (n : Nat) (x : AxSt) : (b.setAx n x).shl = b.shl := rfl
@[simp] theorem Block.setAx_fcr (b : Block) (n : Nat) (x : AxSt) : (b.setAx n x).fcr = b.fcr := rfl
@[simp] theorem Block.setAx_otp (b : Block) (n : Nat) (x : AxSt) : (b.setAx n x).otp = b.otp := rfl
@[simp] theorem Block.setAx_sec (b : Block) (n : Nat) (x : AxSt) : (b.setAx n x).sec = b.sec := rfl
@[simp] theorem Block.setAx_hsp (b : Block) (n : Nat) (x : AxSt) : (b.setAx n x).hsp = b.hsp := rfl
@[simp] theorem Block.setAx_spu (b : Block) (n : Nat) (x : AxSt) : (b.setAx n x).spu = b.spu := rfl

/-! ## `Block.setMbx` -/

@[simp] theorem Block.setMbx_regs (b : Block) (n : Nat) (x : MbxSt) : (b.setMbx n x).regs = b.regs := rfl
@[simp] theorem Block.setMbx_ts (b : Block) (n : Nat) (x : MbxSt) : (b.setMbx n x).ts = b.ts := rfl
@[simp] theorem Block.setMbx_latches (b : Block) (n : Nat) (x : MbxSt) : (b.setMbx n x).latches = b.latches := rfl
@[simp] theorem Block.setMbx_snap (b : Block) (n : Nat) (x : MbxSt) : (b.setMbx n x).snap = b.snap := rfl
@[simp] theorem Block.setMbx_wires (b : Block) (n : Nat) (x : MbxSt) : (b.setMbx n x).wires = b.wires := rfl
@[simp] theorem Block.setMbx_free (b : Block) (n : Nat) (x : MbxSt) : (b.setMbx n x).free = b.free := rfl
@[simp] theorem Block.setMbx_deferred (b : Block) (n : Nat) (x : MbxSt) : (b.setMbx n x).deferred = b.deferred := rfl
@[simp] theorem Block.setMbx_crm (b : Block) (n : Nat) (x : MbxSt) : (b.setMbx n x).crm = b.crm := rfl
@[simp] theorem Block.setMbx_legs (b : Block) (n : Nat) (x : MbxSt) : (b.setMbx n x).legs = b.legs := rfl
@[simp] theorem Block.setMbx_tbs (b : Block) (n : Nat) (x : MbxSt) : (b.setMbx n x).tbs = b.tbs := rfl
@[simp] theorem Block.setMbx_axes (b : Block) (n : Nat) (x : MbxSt) : (b.setMbx n x).axes = b.axes := rfl
@[simp] theorem Block.setMbx_cpOk (b : Block) (n : Nat) (x : MbxSt) : (b.setMbx n x).cpOk = b.cpOk := rfl
@[simp] theorem Block.setMbx_pinSp (b : Block) (n : Nat) (x : MbxSt) : (b.setMbx n x).pinSp = b.pinSp := rfl
@[simp] theorem Block.setMbx_fbs (b : Block) (n : Nat) (x : MbxSt) : (b.setMbx n x).fbs = b.fbs := rfl
@[simp] theorem Block.setMbx_pcoLatch (b : Block) (n : Nat) (x : MbxSt) : (b.setMbx n x).pcoLatch = b.pcoLatch := rfl
@[simp] theorem Block.setMbx_pcoPulse (b : Block) (n : Nat) (x : MbxSt) : (b.setMbx n x).pcoPulse = b.pcoPulse := rfl
@[simp] theorem Block.setMbx_rings (b : Block) (n : Nat) (x : MbxSt) : (b.setMbx n x).rings = b.rings := rfl
@[simp] theorem Block.setMbx_spuPush (b : Block) (n : Nat) (x : MbxSt) : (b.setMbx n x).spuPush = b.spuPush := rfl
@[simp] theorem Block.setMbx_spuPop (b : Block) (n : Nat) (x : MbxSt) : (b.setMbx n x).spuPop = b.spuPop := rfl
@[simp] theorem Block.setMbx_upset (b : Block) (n : Nat) (x : MbxSt) : (b.setMbx n x).upset = b.upset := rfl
@[simp] theorem Block.setMbx_handover (b : Block) (n : Nat) (x : MbxSt) : (b.setMbx n x).handover = b.handover := rfl
@[simp] theorem Block.setMbx_passed (b : Block) (n : Nat) (x : MbxSt) : (b.setMbx n x).passed = b.passed := rfl
@[simp] theorem Block.setMbx_bankNew (b : Block) (n : Nat) (x : MbxSt) : (b.setMbx n x).bankNew = b.bankNew := rfl
@[simp] theorem Block.setMbx_wakeWait (b : Block) (n : Nat) (x : MbxSt) : (b.setMbx n x).wakeWait = b.wakeWait := rfl
@[simp] theorem Block.setMbx_xsp (b : Block) (n : Nat) (x : MbxSt) : (b.setMbx n x).xsp = b.xsp := rfl
@[simp] theorem Block.setMbx_eth (b : Block) (n : Nat) (x : MbxSt) : (b.setMbx n x).eth = b.eth := rfl
@[simp] theorem Block.setMbx_can0 (b : Block) (n : Nat) (x : MbxSt) : (b.setMbx n x).can0 = b.can0 := rfl
@[simp] theorem Block.setMbx_can1 (b : Block) (n : Nat) (x : MbxSt) : (b.setMbx n x).can1 = b.can1 := rfl
@[simp] theorem Block.setMbx_lcs (b : Block) (n : Nat) (x : MbxSt) : (b.setMbx n x).lcs = b.lcs := rfl
@[simp] theorem Block.setMbx_plans (b : Block) (n : Nat) (x : MbxSt) : (b.setMbx n x).plans = b.plans := rfl
@[simp] theorem Block.setMbx_convs (b : Block) (n : Nat) (x : MbxSt) : (b.setMbx n x).convs = b.convs := rfl
@[simp] theorem Block.setMbx_samples (b : Block) (n : Nat) (x : MbxSt) : (b.setMbx n x).samples = b.samples := rfl
@[simp] theorem Block.setMbx_buses (b : Block) (n : Nat) (x : MbxSt) : (b.setMbx n x).buses = b.buses := rfl
@[simp] theorem Block.setMbx_sess (b : Block) (n : Nat) (x : MbxSt) : (b.setMbx n x).sess = b.sess := rfl
@[simp] theorem Block.setMbx_stgs (b : Block) (n : Nat) (x : MbxSt) : (b.setMbx n x).stgs = b.stgs := rfl
@[simp] theorem Block.setMbx_shl (b : Block) (n : Nat) (x : MbxSt) : (b.setMbx n x).shl = b.shl := rfl
@[simp] theorem Block.setMbx_fcr (b : Block) (n : Nat) (x : MbxSt) : (b.setMbx n x).fcr = b.fcr := rfl
@[simp] theorem Block.setMbx_otp (b : Block) (n : Nat) (x : MbxSt) : (b.setMbx n x).otp = b.otp := rfl
@[simp] theorem Block.setMbx_sec (b : Block) (n : Nat) (x : MbxSt) : (b.setMbx n x).sec = b.sec := rfl
@[simp] theorem Block.setMbx_hsp (b : Block) (n : Nat) (x : MbxSt) : (b.setMbx n x).hsp = b.hsp := rfl
@[simp] theorem Block.setMbx_spu (b : Block) (n : Nat) (x : MbxSt) : (b.setMbx n x).spu = b.spu := rfl

/-! ## `Block.setFb` -/

@[simp] theorem Block.setFb_regs (b : Block) (n : Nat) (x : FbSt) : (b.setFb n x).regs = b.regs := rfl
@[simp] theorem Block.setFb_ts (b : Block) (n : Nat) (x : FbSt) : (b.setFb n x).ts = b.ts := rfl
@[simp] theorem Block.setFb_latches (b : Block) (n : Nat) (x : FbSt) : (b.setFb n x).latches = b.latches := rfl
@[simp] theorem Block.setFb_snap (b : Block) (n : Nat) (x : FbSt) : (b.setFb n x).snap = b.snap := rfl
@[simp] theorem Block.setFb_wires (b : Block) (n : Nat) (x : FbSt) : (b.setFb n x).wires = b.wires := rfl
@[simp] theorem Block.setFb_free (b : Block) (n : Nat) (x : FbSt) : (b.setFb n x).free = b.free := rfl
@[simp] theorem Block.setFb_deferred (b : Block) (n : Nat) (x : FbSt) : (b.setFb n x).deferred = b.deferred := rfl
@[simp] theorem Block.setFb_crm (b : Block) (n : Nat) (x : FbSt) : (b.setFb n x).crm = b.crm := rfl
@[simp] theorem Block.setFb_legs (b : Block) (n : Nat) (x : FbSt) : (b.setFb n x).legs = b.legs := rfl
@[simp] theorem Block.setFb_tbs (b : Block) (n : Nat) (x : FbSt) : (b.setFb n x).tbs = b.tbs := rfl
@[simp] theorem Block.setFb_axes (b : Block) (n : Nat) (x : FbSt) : (b.setFb n x).axes = b.axes := rfl
@[simp] theorem Block.setFb_mbxs (b : Block) (n : Nat) (x : FbSt) : (b.setFb n x).mbxs = b.mbxs := rfl
@[simp] theorem Block.setFb_cpOk (b : Block) (n : Nat) (x : FbSt) : (b.setFb n x).cpOk = b.cpOk := rfl
@[simp] theorem Block.setFb_pinSp (b : Block) (n : Nat) (x : FbSt) : (b.setFb n x).pinSp = b.pinSp := rfl
@[simp] theorem Block.setFb_pcoLatch (b : Block) (n : Nat) (x : FbSt) : (b.setFb n x).pcoLatch = b.pcoLatch := rfl
@[simp] theorem Block.setFb_pcoPulse (b : Block) (n : Nat) (x : FbSt) : (b.setFb n x).pcoPulse = b.pcoPulse := rfl
@[simp] theorem Block.setFb_rings (b : Block) (n : Nat) (x : FbSt) : (b.setFb n x).rings = b.rings := rfl
@[simp] theorem Block.setFb_spuPush (b : Block) (n : Nat) (x : FbSt) : (b.setFb n x).spuPush = b.spuPush := rfl
@[simp] theorem Block.setFb_spuPop (b : Block) (n : Nat) (x : FbSt) : (b.setFb n x).spuPop = b.spuPop := rfl
@[simp] theorem Block.setFb_upset (b : Block) (n : Nat) (x : FbSt) : (b.setFb n x).upset = b.upset := rfl
@[simp] theorem Block.setFb_handover (b : Block) (n : Nat) (x : FbSt) : (b.setFb n x).handover = b.handover := rfl
@[simp] theorem Block.setFb_passed (b : Block) (n : Nat) (x : FbSt) : (b.setFb n x).passed = b.passed := rfl
@[simp] theorem Block.setFb_bankNew (b : Block) (n : Nat) (x : FbSt) : (b.setFb n x).bankNew = b.bankNew := rfl
@[simp] theorem Block.setFb_wakeWait (b : Block) (n : Nat) (x : FbSt) : (b.setFb n x).wakeWait = b.wakeWait := rfl
@[simp] theorem Block.setFb_xsp (b : Block) (n : Nat) (x : FbSt) : (b.setFb n x).xsp = b.xsp := rfl
@[simp] theorem Block.setFb_eth (b : Block) (n : Nat) (x : FbSt) : (b.setFb n x).eth = b.eth := rfl
@[simp] theorem Block.setFb_can0 (b : Block) (n : Nat) (x : FbSt) : (b.setFb n x).can0 = b.can0 := rfl
@[simp] theorem Block.setFb_can1 (b : Block) (n : Nat) (x : FbSt) : (b.setFb n x).can1 = b.can1 := rfl
@[simp] theorem Block.setFb_lcs (b : Block) (n : Nat) (x : FbSt) : (b.setFb n x).lcs = b.lcs := rfl
@[simp] theorem Block.setFb_plans (b : Block) (n : Nat) (x : FbSt) : (b.setFb n x).plans = b.plans := rfl
@[simp] theorem Block.setFb_convs (b : Block) (n : Nat) (x : FbSt) : (b.setFb n x).convs = b.convs := rfl
@[simp] theorem Block.setFb_samples (b : Block) (n : Nat) (x : FbSt) : (b.setFb n x).samples = b.samples := rfl
@[simp] theorem Block.setFb_buses (b : Block) (n : Nat) (x : FbSt) : (b.setFb n x).buses = b.buses := rfl
@[simp] theorem Block.setFb_sess (b : Block) (n : Nat) (x : FbSt) : (b.setFb n x).sess = b.sess := rfl
@[simp] theorem Block.setFb_stgs (b : Block) (n : Nat) (x : FbSt) : (b.setFb n x).stgs = b.stgs := rfl
@[simp] theorem Block.setFb_shl (b : Block) (n : Nat) (x : FbSt) : (b.setFb n x).shl = b.shl := rfl
@[simp] theorem Block.setFb_fcr (b : Block) (n : Nat) (x : FbSt) : (b.setFb n x).fcr = b.fcr := rfl
@[simp] theorem Block.setFb_otp (b : Block) (n : Nat) (x : FbSt) : (b.setFb n x).otp = b.otp := rfl
@[simp] theorem Block.setFb_sec (b : Block) (n : Nat) (x : FbSt) : (b.setFb n x).sec = b.sec := rfl
@[simp] theorem Block.setFb_hsp (b : Block) (n : Nat) (x : FbSt) : (b.setFb n x).hsp = b.hsp := rfl
@[simp] theorem Block.setFb_spu (b : Block) (n : Nat) (x : FbSt) : (b.setFb n x).spu = b.spu := rfl

/-! ## `Block.setRing` -/

@[simp] theorem Block.setRing_regs (b : Block) (n : Nat) (x : RingSt) : (b.setRing n x).regs = b.regs := rfl
@[simp] theorem Block.setRing_ts (b : Block) (n : Nat) (x : RingSt) : (b.setRing n x).ts = b.ts := rfl
@[simp] theorem Block.setRing_latches (b : Block) (n : Nat) (x : RingSt) : (b.setRing n x).latches = b.latches := rfl
@[simp] theorem Block.setRing_snap (b : Block) (n : Nat) (x : RingSt) : (b.setRing n x).snap = b.snap := rfl
@[simp] theorem Block.setRing_wires (b : Block) (n : Nat) (x : RingSt) : (b.setRing n x).wires = b.wires := rfl
@[simp] theorem Block.setRing_free (b : Block) (n : Nat) (x : RingSt) : (b.setRing n x).free = b.free := rfl
@[simp] theorem Block.setRing_deferred (b : Block) (n : Nat) (x : RingSt) : (b.setRing n x).deferred = b.deferred := rfl
@[simp] theorem Block.setRing_crm (b : Block) (n : Nat) (x : RingSt) : (b.setRing n x).crm = b.crm := rfl
@[simp] theorem Block.setRing_legs (b : Block) (n : Nat) (x : RingSt) : (b.setRing n x).legs = b.legs := rfl
@[simp] theorem Block.setRing_tbs (b : Block) (n : Nat) (x : RingSt) : (b.setRing n x).tbs = b.tbs := rfl
@[simp] theorem Block.setRing_axes (b : Block) (n : Nat) (x : RingSt) : (b.setRing n x).axes = b.axes := rfl
@[simp] theorem Block.setRing_mbxs (b : Block) (n : Nat) (x : RingSt) : (b.setRing n x).mbxs = b.mbxs := rfl
@[simp] theorem Block.setRing_cpOk (b : Block) (n : Nat) (x : RingSt) : (b.setRing n x).cpOk = b.cpOk := rfl
@[simp] theorem Block.setRing_pinSp (b : Block) (n : Nat) (x : RingSt) : (b.setRing n x).pinSp = b.pinSp := rfl
@[simp] theorem Block.setRing_fbs (b : Block) (n : Nat) (x : RingSt) : (b.setRing n x).fbs = b.fbs := rfl
@[simp] theorem Block.setRing_pcoLatch (b : Block) (n : Nat) (x : RingSt) : (b.setRing n x).pcoLatch = b.pcoLatch := rfl
@[simp] theorem Block.setRing_pcoPulse (b : Block) (n : Nat) (x : RingSt) : (b.setRing n x).pcoPulse = b.pcoPulse := rfl
@[simp] theorem Block.setRing_spuPush (b : Block) (n : Nat) (x : RingSt) : (b.setRing n x).spuPush = b.spuPush := rfl
@[simp] theorem Block.setRing_spuPop (b : Block) (n : Nat) (x : RingSt) : (b.setRing n x).spuPop = b.spuPop := rfl
@[simp] theorem Block.setRing_upset (b : Block) (n : Nat) (x : RingSt) : (b.setRing n x).upset = b.upset := rfl
@[simp] theorem Block.setRing_handover (b : Block) (n : Nat) (x : RingSt) : (b.setRing n x).handover = b.handover := rfl
@[simp] theorem Block.setRing_passed (b : Block) (n : Nat) (x : RingSt) : (b.setRing n x).passed = b.passed := rfl
@[simp] theorem Block.setRing_bankNew (b : Block) (n : Nat) (x : RingSt) : (b.setRing n x).bankNew = b.bankNew := rfl
@[simp] theorem Block.setRing_wakeWait (b : Block) (n : Nat) (x : RingSt) : (b.setRing n x).wakeWait = b.wakeWait := rfl
@[simp] theorem Block.setRing_xsp (b : Block) (n : Nat) (x : RingSt) : (b.setRing n x).xsp = b.xsp := rfl
@[simp] theorem Block.setRing_eth (b : Block) (n : Nat) (x : RingSt) : (b.setRing n x).eth = b.eth := rfl
@[simp] theorem Block.setRing_can0 (b : Block) (n : Nat) (x : RingSt) : (b.setRing n x).can0 = b.can0 := rfl
@[simp] theorem Block.setRing_can1 (b : Block) (n : Nat) (x : RingSt) : (b.setRing n x).can1 = b.can1 := rfl
@[simp] theorem Block.setRing_lcs (b : Block) (n : Nat) (x : RingSt) : (b.setRing n x).lcs = b.lcs := rfl
@[simp] theorem Block.setRing_plans (b : Block) (n : Nat) (x : RingSt) : (b.setRing n x).plans = b.plans := rfl
@[simp] theorem Block.setRing_convs (b : Block) (n : Nat) (x : RingSt) : (b.setRing n x).convs = b.convs := rfl
@[simp] theorem Block.setRing_samples (b : Block) (n : Nat) (x : RingSt) : (b.setRing n x).samples = b.samples := rfl
@[simp] theorem Block.setRing_buses (b : Block) (n : Nat) (x : RingSt) : (b.setRing n x).buses = b.buses := rfl
@[simp] theorem Block.setRing_sess (b : Block) (n : Nat) (x : RingSt) : (b.setRing n x).sess = b.sess := rfl
@[simp] theorem Block.setRing_stgs (b : Block) (n : Nat) (x : RingSt) : (b.setRing n x).stgs = b.stgs := rfl
@[simp] theorem Block.setRing_shl (b : Block) (n : Nat) (x : RingSt) : (b.setRing n x).shl = b.shl := rfl
@[simp] theorem Block.setRing_fcr (b : Block) (n : Nat) (x : RingSt) : (b.setRing n x).fcr = b.fcr := rfl
@[simp] theorem Block.setRing_otp (b : Block) (n : Nat) (x : RingSt) : (b.setRing n x).otp = b.otp := rfl
@[simp] theorem Block.setRing_sec (b : Block) (n : Nat) (x : RingSt) : (b.setRing n x).sec = b.sec := rfl
@[simp] theorem Block.setRing_hsp (b : Block) (n : Nat) (x : RingSt) : (b.setRing n x).hsp = b.hsp := rfl
@[simp] theorem Block.setRing_spu (b : Block) (n : Nat) (x : RingSt) : (b.setRing n x).spu = b.spu := rfl

/-! ## `Block.setLc` -/

@[simp] theorem Block.setLc_regs (b : Block) (n : Nat) (x : LcSt) : (b.setLc n x).regs = b.regs := rfl
@[simp] theorem Block.setLc_ts (b : Block) (n : Nat) (x : LcSt) : (b.setLc n x).ts = b.ts := rfl
@[simp] theorem Block.setLc_latches (b : Block) (n : Nat) (x : LcSt) : (b.setLc n x).latches = b.latches := rfl
@[simp] theorem Block.setLc_snap (b : Block) (n : Nat) (x : LcSt) : (b.setLc n x).snap = b.snap := rfl
@[simp] theorem Block.setLc_wires (b : Block) (n : Nat) (x : LcSt) : (b.setLc n x).wires = b.wires := rfl
@[simp] theorem Block.setLc_free (b : Block) (n : Nat) (x : LcSt) : (b.setLc n x).free = b.free := rfl
@[simp] theorem Block.setLc_deferred (b : Block) (n : Nat) (x : LcSt) : (b.setLc n x).deferred = b.deferred := rfl
@[simp] theorem Block.setLc_crm (b : Block) (n : Nat) (x : LcSt) : (b.setLc n x).crm = b.crm := rfl
@[simp] theorem Block.setLc_legs (b : Block) (n : Nat) (x : LcSt) : (b.setLc n x).legs = b.legs := rfl
@[simp] theorem Block.setLc_tbs (b : Block) (n : Nat) (x : LcSt) : (b.setLc n x).tbs = b.tbs := rfl
@[simp] theorem Block.setLc_axes (b : Block) (n : Nat) (x : LcSt) : (b.setLc n x).axes = b.axes := rfl
@[simp] theorem Block.setLc_mbxs (b : Block) (n : Nat) (x : LcSt) : (b.setLc n x).mbxs = b.mbxs := rfl
@[simp] theorem Block.setLc_cpOk (b : Block) (n : Nat) (x : LcSt) : (b.setLc n x).cpOk = b.cpOk := rfl
@[simp] theorem Block.setLc_pinSp (b : Block) (n : Nat) (x : LcSt) : (b.setLc n x).pinSp = b.pinSp := rfl
@[simp] theorem Block.setLc_fbs (b : Block) (n : Nat) (x : LcSt) : (b.setLc n x).fbs = b.fbs := rfl
@[simp] theorem Block.setLc_pcoLatch (b : Block) (n : Nat) (x : LcSt) : (b.setLc n x).pcoLatch = b.pcoLatch := rfl
@[simp] theorem Block.setLc_pcoPulse (b : Block) (n : Nat) (x : LcSt) : (b.setLc n x).pcoPulse = b.pcoPulse := rfl
@[simp] theorem Block.setLc_rings (b : Block) (n : Nat) (x : LcSt) : (b.setLc n x).rings = b.rings := rfl
@[simp] theorem Block.setLc_spuPush (b : Block) (n : Nat) (x : LcSt) : (b.setLc n x).spuPush = b.spuPush := rfl
@[simp] theorem Block.setLc_spuPop (b : Block) (n : Nat) (x : LcSt) : (b.setLc n x).spuPop = b.spuPop := rfl
@[simp] theorem Block.setLc_upset (b : Block) (n : Nat) (x : LcSt) : (b.setLc n x).upset = b.upset := rfl
@[simp] theorem Block.setLc_handover (b : Block) (n : Nat) (x : LcSt) : (b.setLc n x).handover = b.handover := rfl
@[simp] theorem Block.setLc_passed (b : Block) (n : Nat) (x : LcSt) : (b.setLc n x).passed = b.passed := rfl
@[simp] theorem Block.setLc_bankNew (b : Block) (n : Nat) (x : LcSt) : (b.setLc n x).bankNew = b.bankNew := rfl
@[simp] theorem Block.setLc_wakeWait (b : Block) (n : Nat) (x : LcSt) : (b.setLc n x).wakeWait = b.wakeWait := rfl
@[simp] theorem Block.setLc_xsp (b : Block) (n : Nat) (x : LcSt) : (b.setLc n x).xsp = b.xsp := rfl
@[simp] theorem Block.setLc_eth (b : Block) (n : Nat) (x : LcSt) : (b.setLc n x).eth = b.eth := rfl
@[simp] theorem Block.setLc_can0 (b : Block) (n : Nat) (x : LcSt) : (b.setLc n x).can0 = b.can0 := rfl
@[simp] theorem Block.setLc_can1 (b : Block) (n : Nat) (x : LcSt) : (b.setLc n x).can1 = b.can1 := rfl
@[simp] theorem Block.setLc_plans (b : Block) (n : Nat) (x : LcSt) : (b.setLc n x).plans = b.plans := rfl
@[simp] theorem Block.setLc_convs (b : Block) (n : Nat) (x : LcSt) : (b.setLc n x).convs = b.convs := rfl
@[simp] theorem Block.setLc_samples (b : Block) (n : Nat) (x : LcSt) : (b.setLc n x).samples = b.samples := rfl
@[simp] theorem Block.setLc_buses (b : Block) (n : Nat) (x : LcSt) : (b.setLc n x).buses = b.buses := rfl
@[simp] theorem Block.setLc_sess (b : Block) (n : Nat) (x : LcSt) : (b.setLc n x).sess = b.sess := rfl
@[simp] theorem Block.setLc_stgs (b : Block) (n : Nat) (x : LcSt) : (b.setLc n x).stgs = b.stgs := rfl
@[simp] theorem Block.setLc_shl (b : Block) (n : Nat) (x : LcSt) : (b.setLc n x).shl = b.shl := rfl
@[simp] theorem Block.setLc_fcr (b : Block) (n : Nat) (x : LcSt) : (b.setLc n x).fcr = b.fcr := rfl
@[simp] theorem Block.setLc_otp (b : Block) (n : Nat) (x : LcSt) : (b.setLc n x).otp = b.otp := rfl
@[simp] theorem Block.setLc_sec (b : Block) (n : Nat) (x : LcSt) : (b.setLc n x).sec = b.sec := rfl
@[simp] theorem Block.setLc_hsp (b : Block) (n : Nat) (x : LcSt) : (b.setLc n x).hsp = b.hsp := rfl
@[simp] theorem Block.setLc_spu (b : Block) (n : Nat) (x : LcSt) : (b.setLc n x).spu = b.spu := rfl

/-! ## `Block.setSes` -/

@[simp] theorem Block.setSes_regs (b : Block) (n : Nat) (x : SesSt) : (b.setSes n x).regs = b.regs := rfl
@[simp] theorem Block.setSes_ts (b : Block) (n : Nat) (x : SesSt) : (b.setSes n x).ts = b.ts := rfl
@[simp] theorem Block.setSes_latches (b : Block) (n : Nat) (x : SesSt) : (b.setSes n x).latches = b.latches := rfl
@[simp] theorem Block.setSes_snap (b : Block) (n : Nat) (x : SesSt) : (b.setSes n x).snap = b.snap := rfl
@[simp] theorem Block.setSes_wires (b : Block) (n : Nat) (x : SesSt) : (b.setSes n x).wires = b.wires := rfl
@[simp] theorem Block.setSes_free (b : Block) (n : Nat) (x : SesSt) : (b.setSes n x).free = b.free := rfl
@[simp] theorem Block.setSes_deferred (b : Block) (n : Nat) (x : SesSt) : (b.setSes n x).deferred = b.deferred := rfl
@[simp] theorem Block.setSes_crm (b : Block) (n : Nat) (x : SesSt) : (b.setSes n x).crm = b.crm := rfl
@[simp] theorem Block.setSes_legs (b : Block) (n : Nat) (x : SesSt) : (b.setSes n x).legs = b.legs := rfl
@[simp] theorem Block.setSes_tbs (b : Block) (n : Nat) (x : SesSt) : (b.setSes n x).tbs = b.tbs := rfl
@[simp] theorem Block.setSes_axes (b : Block) (n : Nat) (x : SesSt) : (b.setSes n x).axes = b.axes := rfl
@[simp] theorem Block.setSes_mbxs (b : Block) (n : Nat) (x : SesSt) : (b.setSes n x).mbxs = b.mbxs := rfl
@[simp] theorem Block.setSes_cpOk (b : Block) (n : Nat) (x : SesSt) : (b.setSes n x).cpOk = b.cpOk := rfl
@[simp] theorem Block.setSes_pinSp (b : Block) (n : Nat) (x : SesSt) : (b.setSes n x).pinSp = b.pinSp := rfl
@[simp] theorem Block.setSes_fbs (b : Block) (n : Nat) (x : SesSt) : (b.setSes n x).fbs = b.fbs := rfl
@[simp] theorem Block.setSes_pcoLatch (b : Block) (n : Nat) (x : SesSt) : (b.setSes n x).pcoLatch = b.pcoLatch := rfl
@[simp] theorem Block.setSes_pcoPulse (b : Block) (n : Nat) (x : SesSt) : (b.setSes n x).pcoPulse = b.pcoPulse := rfl
@[simp] theorem Block.setSes_rings (b : Block) (n : Nat) (x : SesSt) : (b.setSes n x).rings = b.rings := rfl
@[simp] theorem Block.setSes_spuPush (b : Block) (n : Nat) (x : SesSt) : (b.setSes n x).spuPush = b.spuPush := rfl
@[simp] theorem Block.setSes_spuPop (b : Block) (n : Nat) (x : SesSt) : (b.setSes n x).spuPop = b.spuPop := rfl
@[simp] theorem Block.setSes_upset (b : Block) (n : Nat) (x : SesSt) : (b.setSes n x).upset = b.upset := rfl
@[simp] theorem Block.setSes_handover (b : Block) (n : Nat) (x : SesSt) : (b.setSes n x).handover = b.handover := rfl
@[simp] theorem Block.setSes_passed (b : Block) (n : Nat) (x : SesSt) : (b.setSes n x).passed = b.passed := rfl
@[simp] theorem Block.setSes_bankNew (b : Block) (n : Nat) (x : SesSt) : (b.setSes n x).bankNew = b.bankNew := rfl
@[simp] theorem Block.setSes_wakeWait (b : Block) (n : Nat) (x : SesSt) : (b.setSes n x).wakeWait = b.wakeWait := rfl
@[simp] theorem Block.setSes_xsp (b : Block) (n : Nat) (x : SesSt) : (b.setSes n x).xsp = b.xsp := rfl
@[simp] theorem Block.setSes_eth (b : Block) (n : Nat) (x : SesSt) : (b.setSes n x).eth = b.eth := rfl
@[simp] theorem Block.setSes_can0 (b : Block) (n : Nat) (x : SesSt) : (b.setSes n x).can0 = b.can0 := rfl
@[simp] theorem Block.setSes_can1 (b : Block) (n : Nat) (x : SesSt) : (b.setSes n x).can1 = b.can1 := rfl
@[simp] theorem Block.setSes_lcs (b : Block) (n : Nat) (x : SesSt) : (b.setSes n x).lcs = b.lcs := rfl
@[simp] theorem Block.setSes_plans (b : Block) (n : Nat) (x : SesSt) : (b.setSes n x).plans = b.plans := rfl
@[simp] theorem Block.setSes_convs (b : Block) (n : Nat) (x : SesSt) : (b.setSes n x).convs = b.convs := rfl
@[simp] theorem Block.setSes_samples (b : Block) (n : Nat) (x : SesSt) : (b.setSes n x).samples = b.samples := rfl
@[simp] theorem Block.setSes_buses (b : Block) (n : Nat) (x : SesSt) : (b.setSes n x).buses = b.buses := rfl
@[simp] theorem Block.setSes_stgs (b : Block) (n : Nat) (x : SesSt) : (b.setSes n x).stgs = b.stgs := rfl
@[simp] theorem Block.setSes_shl (b : Block) (n : Nat) (x : SesSt) : (b.setSes n x).shl = b.shl := rfl
@[simp] theorem Block.setSes_fcr (b : Block) (n : Nat) (x : SesSt) : (b.setSes n x).fcr = b.fcr := rfl
@[simp] theorem Block.setSes_otp (b : Block) (n : Nat) (x : SesSt) : (b.setSes n x).otp = b.otp := rfl
@[simp] theorem Block.setSes_sec (b : Block) (n : Nat) (x : SesSt) : (b.setSes n x).sec = b.sec := rfl
@[simp] theorem Block.setSes_hsp (b : Block) (n : Nat) (x : SesSt) : (b.setSes n x).hsp = b.hsp := rfl
@[simp] theorem Block.setSes_spu (b : Block) (n : Nat) (x : SesSt) : (b.setSes n x).spu = b.spu := rfl

/-! ## `Block.setSample` -/

@[simp] theorem Block.setSample_regs (b : Block) (n : Nat) (x : SampleSt) : (b.setSample n x).regs = b.regs := rfl
@[simp] theorem Block.setSample_ts (b : Block) (n : Nat) (x : SampleSt) : (b.setSample n x).ts = b.ts := rfl
@[simp] theorem Block.setSample_latches (b : Block) (n : Nat) (x : SampleSt) : (b.setSample n x).latches = b.latches := rfl
@[simp] theorem Block.setSample_snap (b : Block) (n : Nat) (x : SampleSt) : (b.setSample n x).snap = b.snap := rfl
@[simp] theorem Block.setSample_wires (b : Block) (n : Nat) (x : SampleSt) : (b.setSample n x).wires = b.wires := rfl
@[simp] theorem Block.setSample_free (b : Block) (n : Nat) (x : SampleSt) : (b.setSample n x).free = b.free := rfl
@[simp] theorem Block.setSample_deferred (b : Block) (n : Nat) (x : SampleSt) : (b.setSample n x).deferred = b.deferred := rfl
@[simp] theorem Block.setSample_crm (b : Block) (n : Nat) (x : SampleSt) : (b.setSample n x).crm = b.crm := rfl
@[simp] theorem Block.setSample_legs (b : Block) (n : Nat) (x : SampleSt) : (b.setSample n x).legs = b.legs := rfl
@[simp] theorem Block.setSample_tbs (b : Block) (n : Nat) (x : SampleSt) : (b.setSample n x).tbs = b.tbs := rfl
@[simp] theorem Block.setSample_axes (b : Block) (n : Nat) (x : SampleSt) : (b.setSample n x).axes = b.axes := rfl
@[simp] theorem Block.setSample_mbxs (b : Block) (n : Nat) (x : SampleSt) : (b.setSample n x).mbxs = b.mbxs := rfl
@[simp] theorem Block.setSample_cpOk (b : Block) (n : Nat) (x : SampleSt) : (b.setSample n x).cpOk = b.cpOk := rfl
@[simp] theorem Block.setSample_pinSp (b : Block) (n : Nat) (x : SampleSt) : (b.setSample n x).pinSp = b.pinSp := rfl
@[simp] theorem Block.setSample_fbs (b : Block) (n : Nat) (x : SampleSt) : (b.setSample n x).fbs = b.fbs := rfl
@[simp] theorem Block.setSample_pcoLatch (b : Block) (n : Nat) (x : SampleSt) : (b.setSample n x).pcoLatch = b.pcoLatch := rfl
@[simp] theorem Block.setSample_pcoPulse (b : Block) (n : Nat) (x : SampleSt) : (b.setSample n x).pcoPulse = b.pcoPulse := rfl
@[simp] theorem Block.setSample_rings (b : Block) (n : Nat) (x : SampleSt) : (b.setSample n x).rings = b.rings := rfl
@[simp] theorem Block.setSample_spuPush (b : Block) (n : Nat) (x : SampleSt) : (b.setSample n x).spuPush = b.spuPush := rfl
@[simp] theorem Block.setSample_spuPop (b : Block) (n : Nat) (x : SampleSt) : (b.setSample n x).spuPop = b.spuPop := rfl
@[simp] theorem Block.setSample_upset (b : Block) (n : Nat) (x : SampleSt) : (b.setSample n x).upset = b.upset := rfl
@[simp] theorem Block.setSample_handover (b : Block) (n : Nat) (x : SampleSt) : (b.setSample n x).handover = b.handover := rfl
@[simp] theorem Block.setSample_passed (b : Block) (n : Nat) (x : SampleSt) : (b.setSample n x).passed = b.passed := rfl
@[simp] theorem Block.setSample_bankNew (b : Block) (n : Nat) (x : SampleSt) : (b.setSample n x).bankNew = b.bankNew := rfl
@[simp] theorem Block.setSample_wakeWait (b : Block) (n : Nat) (x : SampleSt) : (b.setSample n x).wakeWait = b.wakeWait := rfl
@[simp] theorem Block.setSample_xsp (b : Block) (n : Nat) (x : SampleSt) : (b.setSample n x).xsp = b.xsp := rfl
@[simp] theorem Block.setSample_eth (b : Block) (n : Nat) (x : SampleSt) : (b.setSample n x).eth = b.eth := rfl
@[simp] theorem Block.setSample_can0 (b : Block) (n : Nat) (x : SampleSt) : (b.setSample n x).can0 = b.can0 := rfl
@[simp] theorem Block.setSample_can1 (b : Block) (n : Nat) (x : SampleSt) : (b.setSample n x).can1 = b.can1 := rfl
@[simp] theorem Block.setSample_lcs (b : Block) (n : Nat) (x : SampleSt) : (b.setSample n x).lcs = b.lcs := rfl
@[simp] theorem Block.setSample_plans (b : Block) (n : Nat) (x : SampleSt) : (b.setSample n x).plans = b.plans := rfl
@[simp] theorem Block.setSample_convs (b : Block) (n : Nat) (x : SampleSt) : (b.setSample n x).convs = b.convs := rfl
@[simp] theorem Block.setSample_buses (b : Block) (n : Nat) (x : SampleSt) : (b.setSample n x).buses = b.buses := rfl
@[simp] theorem Block.setSample_sess (b : Block) (n : Nat) (x : SampleSt) : (b.setSample n x).sess = b.sess := rfl
@[simp] theorem Block.setSample_stgs (b : Block) (n : Nat) (x : SampleSt) : (b.setSample n x).stgs = b.stgs := rfl
@[simp] theorem Block.setSample_shl (b : Block) (n : Nat) (x : SampleSt) : (b.setSample n x).shl = b.shl := rfl
@[simp] theorem Block.setSample_fcr (b : Block) (n : Nat) (x : SampleSt) : (b.setSample n x).fcr = b.fcr := rfl
@[simp] theorem Block.setSample_otp (b : Block) (n : Nat) (x : SampleSt) : (b.setSample n x).otp = b.otp := rfl
@[simp] theorem Block.setSample_sec (b : Block) (n : Nat) (x : SampleSt) : (b.setSample n x).sec = b.sec := rfl
@[simp] theorem Block.setSample_hsp (b : Block) (n : Nat) (x : SampleSt) : (b.setSample n x).hsp = b.hsp := rfl
@[simp] theorem Block.setSample_spu (b : Block) (n : Nat) (x : SampleSt) : (b.setSample n x).spu = b.spu := rfl

/-! ## `Block.setBus` -/

@[simp] theorem Block.setBus_regs (b : Block) (n : Nat) (x : BusSt) : (b.setBus n x).regs = b.regs := rfl
@[simp] theorem Block.setBus_ts (b : Block) (n : Nat) (x : BusSt) : (b.setBus n x).ts = b.ts := rfl
@[simp] theorem Block.setBus_latches (b : Block) (n : Nat) (x : BusSt) : (b.setBus n x).latches = b.latches := rfl
@[simp] theorem Block.setBus_snap (b : Block) (n : Nat) (x : BusSt) : (b.setBus n x).snap = b.snap := rfl
@[simp] theorem Block.setBus_wires (b : Block) (n : Nat) (x : BusSt) : (b.setBus n x).wires = b.wires := rfl
@[simp] theorem Block.setBus_free (b : Block) (n : Nat) (x : BusSt) : (b.setBus n x).free = b.free := rfl
@[simp] theorem Block.setBus_deferred (b : Block) (n : Nat) (x : BusSt) : (b.setBus n x).deferred = b.deferred := rfl
@[simp] theorem Block.setBus_crm (b : Block) (n : Nat) (x : BusSt) : (b.setBus n x).crm = b.crm := rfl
@[simp] theorem Block.setBus_legs (b : Block) (n : Nat) (x : BusSt) : (b.setBus n x).legs = b.legs := rfl
@[simp] theorem Block.setBus_tbs (b : Block) (n : Nat) (x : BusSt) : (b.setBus n x).tbs = b.tbs := rfl
@[simp] theorem Block.setBus_axes (b : Block) (n : Nat) (x : BusSt) : (b.setBus n x).axes = b.axes := rfl
@[simp] theorem Block.setBus_mbxs (b : Block) (n : Nat) (x : BusSt) : (b.setBus n x).mbxs = b.mbxs := rfl
@[simp] theorem Block.setBus_cpOk (b : Block) (n : Nat) (x : BusSt) : (b.setBus n x).cpOk = b.cpOk := rfl
@[simp] theorem Block.setBus_pinSp (b : Block) (n : Nat) (x : BusSt) : (b.setBus n x).pinSp = b.pinSp := rfl
@[simp] theorem Block.setBus_fbs (b : Block) (n : Nat) (x : BusSt) : (b.setBus n x).fbs = b.fbs := rfl
@[simp] theorem Block.setBus_pcoLatch (b : Block) (n : Nat) (x : BusSt) : (b.setBus n x).pcoLatch = b.pcoLatch := rfl
@[simp] theorem Block.setBus_pcoPulse (b : Block) (n : Nat) (x : BusSt) : (b.setBus n x).pcoPulse = b.pcoPulse := rfl
@[simp] theorem Block.setBus_rings (b : Block) (n : Nat) (x : BusSt) : (b.setBus n x).rings = b.rings := rfl
@[simp] theorem Block.setBus_spuPush (b : Block) (n : Nat) (x : BusSt) : (b.setBus n x).spuPush = b.spuPush := rfl
@[simp] theorem Block.setBus_spuPop (b : Block) (n : Nat) (x : BusSt) : (b.setBus n x).spuPop = b.spuPop := rfl
@[simp] theorem Block.setBus_upset (b : Block) (n : Nat) (x : BusSt) : (b.setBus n x).upset = b.upset := rfl
@[simp] theorem Block.setBus_handover (b : Block) (n : Nat) (x : BusSt) : (b.setBus n x).handover = b.handover := rfl
@[simp] theorem Block.setBus_passed (b : Block) (n : Nat) (x : BusSt) : (b.setBus n x).passed = b.passed := rfl
@[simp] theorem Block.setBus_bankNew (b : Block) (n : Nat) (x : BusSt) : (b.setBus n x).bankNew = b.bankNew := rfl
@[simp] theorem Block.setBus_wakeWait (b : Block) (n : Nat) (x : BusSt) : (b.setBus n x).wakeWait = b.wakeWait := rfl
@[simp] theorem Block.setBus_xsp (b : Block) (n : Nat) (x : BusSt) : (b.setBus n x).xsp = b.xsp := rfl
@[simp] theorem Block.setBus_eth (b : Block) (n : Nat) (x : BusSt) : (b.setBus n x).eth = b.eth := rfl
@[simp] theorem Block.setBus_can0 (b : Block) (n : Nat) (x : BusSt) : (b.setBus n x).can0 = b.can0 := rfl
@[simp] theorem Block.setBus_can1 (b : Block) (n : Nat) (x : BusSt) : (b.setBus n x).can1 = b.can1 := rfl
@[simp] theorem Block.setBus_lcs (b : Block) (n : Nat) (x : BusSt) : (b.setBus n x).lcs = b.lcs := rfl
@[simp] theorem Block.setBus_plans (b : Block) (n : Nat) (x : BusSt) : (b.setBus n x).plans = b.plans := rfl
@[simp] theorem Block.setBus_convs (b : Block) (n : Nat) (x : BusSt) : (b.setBus n x).convs = b.convs := rfl
@[simp] theorem Block.setBus_samples (b : Block) (n : Nat) (x : BusSt) : (b.setBus n x).samples = b.samples := rfl
@[simp] theorem Block.setBus_sess (b : Block) (n : Nat) (x : BusSt) : (b.setBus n x).sess = b.sess := rfl
@[simp] theorem Block.setBus_stgs (b : Block) (n : Nat) (x : BusSt) : (b.setBus n x).stgs = b.stgs := rfl
@[simp] theorem Block.setBus_shl (b : Block) (n : Nat) (x : BusSt) : (b.setBus n x).shl = b.shl := rfl
@[simp] theorem Block.setBus_fcr (b : Block) (n : Nat) (x : BusSt) : (b.setBus n x).fcr = b.fcr := rfl
@[simp] theorem Block.setBus_otp (b : Block) (n : Nat) (x : BusSt) : (b.setBus n x).otp = b.otp := rfl
@[simp] theorem Block.setBus_sec (b : Block) (n : Nat) (x : BusSt) : (b.setBus n x).sec = b.sec := rfl
@[simp] theorem Block.setBus_hsp (b : Block) (n : Nat) (x : BusSt) : (b.setBus n x).hsp = b.hsp := rfl
@[simp] theorem Block.setBus_spu (b : Block) (n : Nat) (x : BusSt) : (b.setBus n x).spu = b.spu := rfl

/-! ## `Block.setConv` -/

@[simp] theorem Block.setConv_regs (b : Block) (n : Nat) (x : List HoldSt) : (b.setConv n x).regs = b.regs := rfl
@[simp] theorem Block.setConv_ts (b : Block) (n : Nat) (x : List HoldSt) : (b.setConv n x).ts = b.ts := rfl
@[simp] theorem Block.setConv_latches (b : Block) (n : Nat) (x : List HoldSt) : (b.setConv n x).latches = b.latches := rfl
@[simp] theorem Block.setConv_snap (b : Block) (n : Nat) (x : List HoldSt) : (b.setConv n x).snap = b.snap := rfl
@[simp] theorem Block.setConv_wires (b : Block) (n : Nat) (x : List HoldSt) : (b.setConv n x).wires = b.wires := rfl
@[simp] theorem Block.setConv_free (b : Block) (n : Nat) (x : List HoldSt) : (b.setConv n x).free = b.free := rfl
@[simp] theorem Block.setConv_deferred (b : Block) (n : Nat) (x : List HoldSt) : (b.setConv n x).deferred = b.deferred := rfl
@[simp] theorem Block.setConv_crm (b : Block) (n : Nat) (x : List HoldSt) : (b.setConv n x).crm = b.crm := rfl
@[simp] theorem Block.setConv_legs (b : Block) (n : Nat) (x : List HoldSt) : (b.setConv n x).legs = b.legs := rfl
@[simp] theorem Block.setConv_tbs (b : Block) (n : Nat) (x : List HoldSt) : (b.setConv n x).tbs = b.tbs := rfl
@[simp] theorem Block.setConv_axes (b : Block) (n : Nat) (x : List HoldSt) : (b.setConv n x).axes = b.axes := rfl
@[simp] theorem Block.setConv_mbxs (b : Block) (n : Nat) (x : List HoldSt) : (b.setConv n x).mbxs = b.mbxs := rfl
@[simp] theorem Block.setConv_cpOk (b : Block) (n : Nat) (x : List HoldSt) : (b.setConv n x).cpOk = b.cpOk := rfl
@[simp] theorem Block.setConv_pinSp (b : Block) (n : Nat) (x : List HoldSt) : (b.setConv n x).pinSp = b.pinSp := rfl
@[simp] theorem Block.setConv_fbs (b : Block) (n : Nat) (x : List HoldSt) : (b.setConv n x).fbs = b.fbs := rfl
@[simp] theorem Block.setConv_pcoLatch (b : Block) (n : Nat) (x : List HoldSt) : (b.setConv n x).pcoLatch = b.pcoLatch := rfl
@[simp] theorem Block.setConv_pcoPulse (b : Block) (n : Nat) (x : List HoldSt) : (b.setConv n x).pcoPulse = b.pcoPulse := rfl
@[simp] theorem Block.setConv_rings (b : Block) (n : Nat) (x : List HoldSt) : (b.setConv n x).rings = b.rings := rfl
@[simp] theorem Block.setConv_spuPush (b : Block) (n : Nat) (x : List HoldSt) : (b.setConv n x).spuPush = b.spuPush := rfl
@[simp] theorem Block.setConv_spuPop (b : Block) (n : Nat) (x : List HoldSt) : (b.setConv n x).spuPop = b.spuPop := rfl
@[simp] theorem Block.setConv_upset (b : Block) (n : Nat) (x : List HoldSt) : (b.setConv n x).upset = b.upset := rfl
@[simp] theorem Block.setConv_handover (b : Block) (n : Nat) (x : List HoldSt) : (b.setConv n x).handover = b.handover := rfl
@[simp] theorem Block.setConv_passed (b : Block) (n : Nat) (x : List HoldSt) : (b.setConv n x).passed = b.passed := rfl
@[simp] theorem Block.setConv_bankNew (b : Block) (n : Nat) (x : List HoldSt) : (b.setConv n x).bankNew = b.bankNew := rfl
@[simp] theorem Block.setConv_wakeWait (b : Block) (n : Nat) (x : List HoldSt) : (b.setConv n x).wakeWait = b.wakeWait := rfl
@[simp] theorem Block.setConv_xsp (b : Block) (n : Nat) (x : List HoldSt) : (b.setConv n x).xsp = b.xsp := rfl
@[simp] theorem Block.setConv_eth (b : Block) (n : Nat) (x : List HoldSt) : (b.setConv n x).eth = b.eth := rfl
@[simp] theorem Block.setConv_can0 (b : Block) (n : Nat) (x : List HoldSt) : (b.setConv n x).can0 = b.can0 := rfl
@[simp] theorem Block.setConv_can1 (b : Block) (n : Nat) (x : List HoldSt) : (b.setConv n x).can1 = b.can1 := rfl
@[simp] theorem Block.setConv_lcs (b : Block) (n : Nat) (x : List HoldSt) : (b.setConv n x).lcs = b.lcs := rfl
@[simp] theorem Block.setConv_plans (b : Block) (n : Nat) (x : List HoldSt) : (b.setConv n x).plans = b.plans := rfl
@[simp] theorem Block.setConv_samples (b : Block) (n : Nat) (x : List HoldSt) : (b.setConv n x).samples = b.samples := rfl
@[simp] theorem Block.setConv_buses (b : Block) (n : Nat) (x : List HoldSt) : (b.setConv n x).buses = b.buses := rfl
@[simp] theorem Block.setConv_sess (b : Block) (n : Nat) (x : List HoldSt) : (b.setConv n x).sess = b.sess := rfl
@[simp] theorem Block.setConv_stgs (b : Block) (n : Nat) (x : List HoldSt) : (b.setConv n x).stgs = b.stgs := rfl
@[simp] theorem Block.setConv_shl (b : Block) (n : Nat) (x : List HoldSt) : (b.setConv n x).shl = b.shl := rfl
@[simp] theorem Block.setConv_fcr (b : Block) (n : Nat) (x : List HoldSt) : (b.setConv n x).fcr = b.fcr := rfl
@[simp] theorem Block.setConv_otp (b : Block) (n : Nat) (x : List HoldSt) : (b.setConv n x).otp = b.otp := rfl
@[simp] theorem Block.setConv_sec (b : Block) (n : Nat) (x : List HoldSt) : (b.setConv n x).sec = b.sec := rfl
@[simp] theorem Block.setConv_hsp (b : Block) (n : Nat) (x : List HoldSt) : (b.setConv n x).hsp = b.hsp := rfl
@[simp] theorem Block.setConv_spu (b : Block) (n : Nat) (x : List HoldSt) : (b.setConv n x).spu = b.spu := rfl

/-! ## `Block.setCan` -/

@[simp] theorem Block.setCan_regs (b : Block) (n : Nat) (x : CanSt) : (b.setCan n x).regs = b.regs := by unfold Block.setCan; split <;> rfl
@[simp] theorem Block.setCan_ts (b : Block) (n : Nat) (x : CanSt) : (b.setCan n x).ts = b.ts := by unfold Block.setCan; split <;> rfl
@[simp] theorem Block.setCan_latches (b : Block) (n : Nat) (x : CanSt) : (b.setCan n x).latches = b.latches := by unfold Block.setCan; split <;> rfl
@[simp] theorem Block.setCan_snap (b : Block) (n : Nat) (x : CanSt) : (b.setCan n x).snap = b.snap := by unfold Block.setCan; split <;> rfl
@[simp] theorem Block.setCan_wires (b : Block) (n : Nat) (x : CanSt) : (b.setCan n x).wires = b.wires := by unfold Block.setCan; split <;> rfl
@[simp] theorem Block.setCan_free (b : Block) (n : Nat) (x : CanSt) : (b.setCan n x).free = b.free := by unfold Block.setCan; split <;> rfl
@[simp] theorem Block.setCan_deferred (b : Block) (n : Nat) (x : CanSt) : (b.setCan n x).deferred = b.deferred := by unfold Block.setCan; split <;> rfl
@[simp] theorem Block.setCan_crm (b : Block) (n : Nat) (x : CanSt) : (b.setCan n x).crm = b.crm := by unfold Block.setCan; split <;> rfl
@[simp] theorem Block.setCan_legs (b : Block) (n : Nat) (x : CanSt) : (b.setCan n x).legs = b.legs := by unfold Block.setCan; split <;> rfl
@[simp] theorem Block.setCan_tbs (b : Block) (n : Nat) (x : CanSt) : (b.setCan n x).tbs = b.tbs := by unfold Block.setCan; split <;> rfl
@[simp] theorem Block.setCan_axes (b : Block) (n : Nat) (x : CanSt) : (b.setCan n x).axes = b.axes := by unfold Block.setCan; split <;> rfl
@[simp] theorem Block.setCan_mbxs (b : Block) (n : Nat) (x : CanSt) : (b.setCan n x).mbxs = b.mbxs := by unfold Block.setCan; split <;> rfl
@[simp] theorem Block.setCan_cpOk (b : Block) (n : Nat) (x : CanSt) : (b.setCan n x).cpOk = b.cpOk := by unfold Block.setCan; split <;> rfl
@[simp] theorem Block.setCan_pinSp (b : Block) (n : Nat) (x : CanSt) : (b.setCan n x).pinSp = b.pinSp := by unfold Block.setCan; split <;> rfl
@[simp] theorem Block.setCan_fbs (b : Block) (n : Nat) (x : CanSt) : (b.setCan n x).fbs = b.fbs := by unfold Block.setCan; split <;> rfl
@[simp] theorem Block.setCan_pcoLatch (b : Block) (n : Nat) (x : CanSt) : (b.setCan n x).pcoLatch = b.pcoLatch := by unfold Block.setCan; split <;> rfl
@[simp] theorem Block.setCan_pcoPulse (b : Block) (n : Nat) (x : CanSt) : (b.setCan n x).pcoPulse = b.pcoPulse := by unfold Block.setCan; split <;> rfl
@[simp] theorem Block.setCan_rings (b : Block) (n : Nat) (x : CanSt) : (b.setCan n x).rings = b.rings := by unfold Block.setCan; split <;> rfl
@[simp] theorem Block.setCan_spuPush (b : Block) (n : Nat) (x : CanSt) : (b.setCan n x).spuPush = b.spuPush := by unfold Block.setCan; split <;> rfl
@[simp] theorem Block.setCan_spuPop (b : Block) (n : Nat) (x : CanSt) : (b.setCan n x).spuPop = b.spuPop := by unfold Block.setCan; split <;> rfl
@[simp] theorem Block.setCan_upset (b : Block) (n : Nat) (x : CanSt) : (b.setCan n x).upset = b.upset := by unfold Block.setCan; split <;> rfl
@[simp] theorem Block.setCan_handover (b : Block) (n : Nat) (x : CanSt) : (b.setCan n x).handover = b.handover := by unfold Block.setCan; split <;> rfl
@[simp] theorem Block.setCan_passed (b : Block) (n : Nat) (x : CanSt) : (b.setCan n x).passed = b.passed := by unfold Block.setCan; split <;> rfl
@[simp] theorem Block.setCan_bankNew (b : Block) (n : Nat) (x : CanSt) : (b.setCan n x).bankNew = b.bankNew := by unfold Block.setCan; split <;> rfl
@[simp] theorem Block.setCan_wakeWait (b : Block) (n : Nat) (x : CanSt) : (b.setCan n x).wakeWait = b.wakeWait := by unfold Block.setCan; split <;> rfl
@[simp] theorem Block.setCan_xsp (b : Block) (n : Nat) (x : CanSt) : (b.setCan n x).xsp = b.xsp := by unfold Block.setCan; split <;> rfl
@[simp] theorem Block.setCan_eth (b : Block) (n : Nat) (x : CanSt) : (b.setCan n x).eth = b.eth := by unfold Block.setCan; split <;> rfl
@[simp] theorem Block.setCan_lcs (b : Block) (n : Nat) (x : CanSt) : (b.setCan n x).lcs = b.lcs := by unfold Block.setCan; split <;> rfl
@[simp] theorem Block.setCan_plans (b : Block) (n : Nat) (x : CanSt) : (b.setCan n x).plans = b.plans := by unfold Block.setCan; split <;> rfl
@[simp] theorem Block.setCan_convs (b : Block) (n : Nat) (x : CanSt) : (b.setCan n x).convs = b.convs := by unfold Block.setCan; split <;> rfl
@[simp] theorem Block.setCan_samples (b : Block) (n : Nat) (x : CanSt) : (b.setCan n x).samples = b.samples := by unfold Block.setCan; split <;> rfl
@[simp] theorem Block.setCan_buses (b : Block) (n : Nat) (x : CanSt) : (b.setCan n x).buses = b.buses := by unfold Block.setCan; split <;> rfl
@[simp] theorem Block.setCan_sess (b : Block) (n : Nat) (x : CanSt) : (b.setCan n x).sess = b.sess := by unfold Block.setCan; split <;> rfl
@[simp] theorem Block.setCan_stgs (b : Block) (n : Nat) (x : CanSt) : (b.setCan n x).stgs = b.stgs := by unfold Block.setCan; split <;> rfl
@[simp] theorem Block.setCan_shl (b : Block) (n : Nat) (x : CanSt) : (b.setCan n x).shl = b.shl := by unfold Block.setCan; split <;> rfl
@[simp] theorem Block.setCan_fcr (b : Block) (n : Nat) (x : CanSt) : (b.setCan n x).fcr = b.fcr := by unfold Block.setCan; split <;> rfl
@[simp] theorem Block.setCan_otp (b : Block) (n : Nat) (x : CanSt) : (b.setCan n x).otp = b.otp := by unfold Block.setCan; split <;> rfl
@[simp] theorem Block.setCan_sec (b : Block) (n : Nat) (x : CanSt) : (b.setCan n x).sec = b.sec := by unfold Block.setCan; split <;> rfl
@[simp] theorem Block.setCan_hsp (b : Block) (n : Nat) (x : CanSt) : (b.setCan n x).hsp = b.hsp := by unfold Block.setCan; split <;> rfl
@[simp] theorem Block.setCan_spu (b : Block) (n : Nat) (x : CanSt) : (b.setCan n x).spu = b.spu := by unfold Block.setCan; split <;> rfl

/-! ## The state as a whole -/

@[simp] theorem State.onBlock_b (s : State) (f : Block → Block) : (s.onBlock f).b = f s.b := rfl
@[simp] theorem State.onBlock_mem (s : State) (f : Block → Block) : (s.onBlock f).mem = s.mem := rfl
@[simp] theorem State.onBlock_pending (s : State) (f : Block → Block) : (s.onBlock f).pending = s.pending := rfl

end Sys2Proof.Machine
end

