-- ==== Sys2Proof/Laws/Table.lean ====
section
/-!
SUPPORT. Laws of the finite tables: a read after an update, and that every update keeps the canonical form.
-/

namespace Sys2Proof

variable {α : Type}

theorem Tab.get_del_same (d : α) (t : Tab α) (k : Nat) : Tab.get d (Tab.del t k) k = d := by
  induction t with
  | nil => rfl
  | cons p t ih =>
    obtain ⟨a, x⟩ := p
    by_cases h : a = k
    · simp [Tab.del, h, ih]
    · simp [Tab.del, Tab.get, h, ih]

theorem Tab.get_del_ne (d : α) (t : Tab α) {k j : Nat} (h : j ≠ k) : Tab.get d (Tab.del t k) j = Tab.get d t j := by
  induction t with
  | nil => rfl
  | cons p t ih =>
    obtain ⟨a, x⟩ := p
    by_cases ha : a = k
    · subst ha
      simp [Tab.del, Tab.get, ih, Ne.symm h]
    · by_cases hj : a = j
      · subst hj
        simp [Tab.del, Tab.get, ha]
      · simp [Tab.del, Tab.get, ha, hj, ih]

theorem Tab.get_ins_same (d : α) (t : Tab α) (k : Nat) (v : α) (h : ∀ p ∈ t, p.1 ≠ k) :
    Tab.get d (Tab.ins t k v) k = v := by
  induction t with
  | nil => simp [Tab.ins, Tab.get]
  | cons p t ih =>
    obtain ⟨a, x⟩ := p
    have ha : a ≠ k := h (a, x) (by simp)
    by_cases hk : k < a
    · simp [Tab.ins, Tab.get, hk]
    · have := ih (fun p hp => h p (by simp [hp]))
      simp [Tab.ins, Tab.get, hk, ha, this]

theorem Tab.get_ins_ne (d : α) (t : Tab α) {k j : Nat} (v : α) (h : j ≠ k) :
    Tab.get d (Tab.ins t k v) j = Tab.get d t j := by
  induction t with
  | nil => simp [Tab.ins, Tab.get, Ne.symm h]
  | cons p t ih =>
    obtain ⟨a, x⟩ := p
    by_cases hk : k < a
    · simp [Tab.ins, Tab.get, hk, Ne.symm h]
    · simp only [Tab.ins, hk, ite_false, Tab.get, ih]

theorem Tab.del_ne (t : Tab α) (k : Nat) : ∀ p ∈ Tab.del t k, p.1 ≠ k := by
  induction t with
  | nil => simp [Tab.del]
  | cons p t ih =>
    obtain ⟨a, x⟩ := p
    by_cases h : a = k
    · simpa [Tab.del, h] using ih
    · intro q hq
      simp only [Tab.del, h, ite_false, List.mem_cons] at hq
      rcases hq with rfl | hq
      · exact h
      · exact ih q hq

variable [DecidableEq α]

/-- A read at the key just set. -/
@[simp] theorem Tab.get_set_same (d : α) (t : Tab α) (k : Nat) (v : α) : Tab.get d (Tab.set d t k v) k = v := by
  unfold Tab.set
  split
  · next h => rw [Tab.get_del_same, h]
  · exact Tab.get_ins_same d _ k v (Tab.del_ne t k)

/-- A read at any other key, whatever the default of the reader. -/
theorem Tab.get_set_ne (d e : α) (t : Tab α) {k j : Nat} (v : α) (h : j ≠ k) :
    Tab.get e (Tab.set d t k v) j = Tab.get e t j := by
  unfold Tab.set
  split
  · exact Tab.get_del_ne e t h
  · rw [Tab.get_ins_ne e _ v h, Tab.get_del_ne e t h]

/-! ## The canonical form -/

theorem Tab.wfFrom_mono (d : α) (lo hi : Nat) (t : Tab α) (h : lo ≤ hi) (w : Tab.wfFrom d (some hi) t = true) :
    Tab.wfFrom d (some lo) t = true := by
  cases t with
  | nil => rfl
  | cons p t =>
    obtain ⟨a, x⟩ := p
    simp only [Tab.wfFrom, Bool.and_eq_true, decide_eq_true_eq] at w ⊢
    exact ⟨⟨by omega, w.1.2⟩, w.2⟩

theorem Tab.wfFrom_weak (d : α) (lo : Option Nat) (hi : Nat) (t : Tab α) (h : ∀ l, lo = some l → l ≤ hi)
    (w : Tab.wfFrom d (some hi) t = true) : Tab.wfFrom d lo t = true := by
  cases lo with
  | some l => exact Tab.wfFrom_mono d l hi t (h l rfl) w
  | none =>
    cases t with
    | nil => rfl
    | cons p t =>
      obtain ⟨a, x⟩ := p
      simp only [Tab.wfFrom, Bool.and_eq_true, decide_eq_true_eq] at w ⊢
      exact ⟨⟨trivial, w.1.2⟩, w.2⟩

theorem Tab.wfFrom_del (d : α) (t : Tab α) (k : Nat) (lo : Option Nat) (w : Tab.wfFrom d lo t = true) :
    Tab.wfFrom d lo (Tab.del t k) = true := by
  induction t generalizing lo with
  | nil => rfl
  | cons p t ih =>
    obtain ⟨a, x⟩ := p
    have w' := w
    simp only [Tab.wfFrom, Bool.and_eq_true, decide_eq_true_eq] at w'
    by_cases h : a = k
    · simp only [Tab.del, h, ite_true]
      subst h
      refine Tab.wfFrom_weak d lo a _ ?_ (ih (some a) w'.2)
      intro l hl
      subst hl
      have := w'.1.1
      simp at this
      omega
    · simp only [Tab.del, h, ite_false, Tab.wfFrom, Bool.and_eq_true, decide_eq_true_eq]
      exact ⟨w'.1, ih (some a) w'.2⟩

theorem Tab.wfFrom_ins (d : α) (t : Tab α) (k : Nat) (v : α) (lo : Option Nat) (hv : v ≠ d) (hk : ∀ p ∈ t, p.1 ≠ k)
    (hlo : ∀ l, lo = some l → l < k) (w : Tab.wfFrom d lo t = true) : Tab.wfFrom d lo (Tab.ins t k v) = true := by
  induction t generalizing lo with
  | nil =>
    cases lo with
    | none => simp [Tab.ins, Tab.wfFrom, hv]
    | some l => simp [Tab.ins, Tab.wfFrom, hv, hlo l rfl]
  | cons p t ih =>
    obtain ⟨a, x⟩ := p
    have ha : a ≠ k := hk (a, x) (by simp)
    have w' := w
    simp only [Tab.wfFrom, Bool.and_eq_true, decide_eq_true_eq] at w'
    by_cases h : k < a
    · simp only [Tab.ins, h, ite_true, Tab.wfFrom, Bool.and_eq_true, decide_eq_true_eq]
      refine ⟨⟨?_, hv⟩, ⟨⟨trivial, w'.1.2⟩, w'.2⟩⟩
      cases lo with
      | none => rfl
      | some l => simpa using hlo l rfl
    · simp only [Tab.ins, h, ite_false, Tab.wfFrom, Bool.and_eq_true, decide_eq_true_eq]
      refine ⟨w'.1, ih (some a) (fun p hp => hk p (by simp [hp])) ?_ w'.2⟩
      intro l hl
      cases hl
      omega

/-- Setting a key keeps the canonical form. -/
theorem Tab.wf_set (d : α) (t : Tab α) (k : Nat) (v : α) (w : Tab.wf d t = true) : Tab.wf d (Tab.set d t k v) = true := by
  unfold Tab.set
  split
  · exact Tab.wfFrom_del d t k none w
  · next h =>
    exact Tab.wfFrom_ins d _ k v none h (Tab.del_ne t k) (by simp) (Tab.wfFrom_del d t k none w)

/-- Leaving entries out keeps the canonical form. -/
theorem Tab.wfFrom_filter (d : α) (p : Nat × α → Bool) (t : Tab α) (lo : Option Nat) (w : Tab.wfFrom d lo t = true) :
    Tab.wfFrom d lo (t.filter p) = true := by
  induction t generalizing lo with
  | nil => rfl
  | cons q t ih =>
    obtain ⟨a, x⟩ := q
    have w' := w
    simp only [Tab.wfFrom, Bool.and_eq_true, decide_eq_true_eq] at w'
    by_cases h : p (a, x) = true
    · rw [List.filter_cons_of_pos h]
      simp only [Tab.wfFrom, Bool.and_eq_true, decide_eq_true_eq]
      exact ⟨w'.1, ih (some a) w'.2⟩
    · rw [List.filter_cons_of_neg h]
      refine Tab.wfFrom_weak d lo a _ ?_ (ih (some a) w'.2)
      intro l hl
      subst hl
      have := w'.1.1
      simp at this
      omega

theorem Tab.wf_filter (d : α) (p : Nat × α → Bool) (t : Tab α) (w : Tab.wf d t = true) : Tab.wf d (t.filter p) = true :=
  Tab.wfFrom_filter d p t none w

/-! ## Keys strictly rising, whatever the values -/

omit [DecidableEq α] in
/-- Taking a key out keeps the keys strictly rising. -/
theorem Tab.rising_del (t : Tab α) (k : Nat) (h : (t.map Prod.fst).Pairwise (· < ·)) :
    ((Tab.del t k).map Prod.fst).Pairwise (· < ·) := by
  induction t with
  | nil => exact h
  | cons q t ih =>
    obtain ⟨a, x⟩ := q
    simp only [List.map_cons, List.pairwise_cons] at h
    simp only [Tab.del]
    split
    · exact ih h.2
    · simp only [List.map_cons, List.pairwise_cons]
      refine ⟨fun b hb => h.1 b ?_, ih h.2⟩
      clear ih h
      induction t with
      | nil => simp [Tab.del] at hb
      | cons q t iht =>
        obtain ⟨c, y⟩ := q
        simp only [Tab.del] at hb
        split at hb
        · exact List.mem_cons_of_mem _ (iht hb)
        · rcases List.mem_cons.1 hb with hb | hb
          · exact List.mem_cons.2 (.inl hb)
          · exact List.mem_cons_of_mem _ (iht hb)

omit [DecidableEq α] in
theorem Tab.fst_ins (t : Tab α) (k : Nat) (v : α) (b : Nat) (hb : b ∈ (Tab.ins t k v).map Prod.fst) :
    b = k ∨ b ∈ t.map Prod.fst := by
  induction t with
  | nil => simpa [Tab.ins] using hb
  | cons q t ih =>
    obtain ⟨a, x⟩ := q
    simp only [Tab.ins] at hb
    split at hb
    · simpa using hb
    · simp only [List.map_cons, List.mem_cons] at hb ⊢
      rcases hb with hb | hb
      · exact .inr (.inl hb)
      · exact (ih hb).imp id .inr

omit [DecidableEq α] in
theorem Tab.rising_ins (t : Tab α) (k : Nat) (v : α) (h : (t.map Prod.fst).Pairwise (· < ·)) (n : ∀ p ∈ t, p.1 ≠ k) :
    ((Tab.ins t k v).map Prod.fst).Pairwise (· < ·) := by
  induction t with
  | nil => simp [Tab.ins]
  | cons q t ih =>
    obtain ⟨a, x⟩ := q
    have hp := h
    simp only [List.map_cons, List.pairwise_cons] at hp
    simp only [Tab.ins]
    split
    · rename_i lt
      simp only [List.map_cons, List.pairwise_cons]
      refine ⟨fun b hb => ?_, hp⟩
      rcases List.mem_cons.1 hb with hb | hb
      · omega
      · exact Nat.lt_trans lt (hp.1 b hb)
    · simp only [List.map_cons, List.pairwise_cons]
      have ne : a ≠ k := n (a, x) List.mem_cons_self
      refine ⟨fun b hb => ?_, ih hp.2 (fun p hp => n p (List.mem_cons_of_mem _ hp))⟩
      rcases Tab.fst_ins t k v b hb with hb | hb
      · omega
      · exact hp.1 b hb

/-- An update keeps the keys strictly rising. -/
theorem Tab.rising_set (d : α) (t : Tab α) (k : Nat) (v : α) (h : (t.map Prod.fst).Pairwise (· < ·)) :
    ((Tab.set d t k v).map Prod.fst).Pairwise (· < ·) := by
  unfold Tab.set
  split
  · exact Tab.rising_del t k h
  · exact Tab.rising_ins _ k v (Tab.rising_del t k h) (Tab.del_ne t k)

end Sys2Proof
end

