-- ==== Sys2Proof/Laws/Regs.lean ====
section
/-!
SUPPORT. Laws of registers and fields: what a read gives after a write of the same register, of another one, and of a field.
-/

namespace Sys2Proof

/-! ## Fields of a word -/

/-- A number with `w` bits at `lo` replaced. -/
def insBits (n lo w v : Nat) : Nat := n - n / 2 ^ lo % 2 ^ w * 2 ^ lo + v % 2 ^ w * 2 ^ lo

theorem insBits_split (n lo w v : Nat) :
    insBits n lo w v = (n / 2 ^ lo / 2 ^ w * 2 ^ w + v % 2 ^ w) * 2 ^ lo + n % 2 ^ lo := by
  unfold insBits
  have h1 : n = n / 2 ^ lo * 2 ^ lo + n % 2 ^ lo := by rw [Nat.mul_comm]; exact (Nat.div_add_mod n (2 ^ lo)).symm
  have h2 : n / 2 ^ lo = n / 2 ^ lo / 2 ^ w * 2 ^ w + n / 2 ^ lo % 2 ^ w := by
    rw [Nat.mul_comm]; exact (Nat.div_add_mod (n / 2 ^ lo) (2 ^ w)).symm
  generalize n / 2 ^ lo = q at *
  generalize n % 2 ^ lo = c at *
  generalize q / 2 ^ w * 2 ^ w = a at *
  generalize q % 2 ^ w = f at *
  subst h2
  rw [h1, Nat.add_mul, Nat.add_mul]
  omega

theorem insBits_low (n lo w v : Nat) : insBits n lo w v % 2 ^ lo = n % 2 ^ lo := by
  rw [insBits_split, Nat.add_mod, Nat.mul_mod_left, Nat.zero_add, Nat.mod_mod, Nat.mod_mod]

theorem insBits_div (n lo w v : Nat) : insBits n lo w v / 2 ^ lo = n / 2 ^ lo / 2 ^ w * 2 ^ w + v % 2 ^ w := by
  rw [insBits_split]
  have hp : 0 < 2 ^ lo := Nat.two_pow_pos lo
  rw [Nat.mul_comm, Nat.mul_add_div hp, Nat.div_eq_of_lt (Nat.mod_lt _ hp), Nat.add_zero]

theorem insBits_get (n lo w v : Nat) : insBits n lo w v / 2 ^ lo % 2 ^ w = v % 2 ^ w := by
  rw [insBits_div, Nat.add_mod, Nat.mul_mod_left, Nat.zero_add, Nat.mod_mod, Nat.mod_mod]

theorem insBits_high (n lo w v : Nat) : insBits n lo w v / 2 ^ (lo + w) = n / 2 ^ (lo + w) := by
  have hp : 0 < 2 ^ w := Nat.two_pow_pos w
  rw [Nat.pow_add, ← Nat.div_div_eq_div_mul, ← Nat.div_div_eq_div_mul, insBits_div, Nat.mul_comm, Nat.mul_add_div hp,
    Nat.div_eq_of_lt (Nat.mod_lt _ hp), Nat.add_zero]

theorem insBits_lt (n lo w v k : Nat) (hk : lo + w ≤ k) (hn : n < 2 ^ k) : insBits n lo w v < 2 ^ k := by
  have h : insBits n lo w v / 2 ^ (lo + w) < 2 ^ (k - (lo + w)) := by
    rw [insBits_high]
    apply Nat.div_lt_of_lt_mul
    rw [← Nat.pow_add, Nat.add_sub_cancel' hk]
    exact hn
  have := Nat.lt_mul_of_div_lt h (Nat.two_pow_pos (lo + w))
  rwa [Nat.mul_comm, ← Nat.pow_add, Nat.add_sub_cancel' hk] at this

/-- A field of the low bits depends on those bits only. -/
theorem slice_low (n lo w k : Nat) (h : lo + w ≤ k) : n / 2 ^ lo % 2 ^ w = n % 2 ^ k / 2 ^ lo % 2 ^ w := by
  have hk : k = lo + (k - lo) := by omega
  rw [hk, Nat.pow_add, Nat.mod_mul_right_div_self]
  have : 2 ^ (k - lo) = 2 ^ w * 2 ^ (k - lo - w) := by rw [← Nat.pow_add]; congr 1; omega
  rw [this, Nat.mod_mul_right_mod]

theorem Fld.into_toNat (f : Fld) (x : Word) (v : Nat) (h : f.lo + f.w ≤ 32) : (f.into x v).toNat = insBits x.toNat f.lo f.w v := by
  have hx : x.toNat < 2 ^ 32 := x.isLt
  have := insBits_lt x.toNat f.lo f.w v 32 h hx
  show (BitVec.ofNat 32 (insBits x.toNat f.lo f.w v)).toNat = _
  rw [BitVec.toNat_ofNat, Nat.mod_eq_of_lt this]

/-- A field reads as written. -/
theorem Fld.of_into_same (f : Fld) (x : Word) (v : Nat) (h : f.lo + f.w ≤ 32) : f.of (f.into x v) = v % 2 ^ f.w := by
  show (f.into x v).toNat / 2 ^ f.lo % 2 ^ f.w = _
  rw [Fld.into_toNat f x v h, insBits_get]

/-- A field beside the one written is unchanged. -/
theorem Fld.of_into_ne (f g : Fld) (x : Word) (v : Nat) (h : f.lo + f.w ≤ 32) (d : g.lo + g.w ≤ f.lo ∨ f.lo + f.w ≤ g.lo) :
    g.of (f.into x v) = g.of x := by
  show (f.into x v).toNat / 2 ^ g.lo % 2 ^ g.w = x.toNat / 2 ^ g.lo % 2 ^ g.w
  rw [Fld.into_toNat f x v h]
  rcases d with d | d
  · rw [slice_low _ g.lo g.w f.lo d, insBits_low, ← slice_low _ g.lo g.w f.lo d]
  · have e : 2 ^ g.lo = 2 ^ (f.lo + f.w) * 2 ^ (g.lo - (f.lo + f.w)) := by rw [← Nat.pow_add]; congr 1; omega
    rw [e, ← Nat.div_div_eq_div_mul, insBits_high, Nat.div_div_eq_div_mul]

namespace Machine

/-! ## Registers -/

@[simp] theorem Block.rd_wr_same (b : Block) (r : Reg) (v : Word) (i j : Nat) : (b.wr r v i j).rd r i j = v := by
  simp [Block.rd, Block.wr]

theorem Block.rd_wr_ne (b : Block) (r q : Reg) (v : Word) (i j k l : Nat) (h : q.addr k l ≠ r.addr i j) :
    (b.wr r v i j).rd q k l = b.rd q k l := by
  simp only [Block.rd, Block.wr]
  exact Tab.get_set_ne _ _ _ _ h

@[simp] theorem Block.get_wr_same (b : Block) (f : Fld) (v : Word) (i j : Nat) : (b.wr f.reg v i j).get f i j = f.of v := by
  simp [Block.get]

theorem Block.get_wr_ne (b : Block) (r : Reg) (g : Fld) (v : Word) (i j k l : Nat) (h : g.reg.addr k l ≠ r.addr i j) :
    (b.wr r v i j).get g k l = b.get g k l := by
  simp [Block.get, Block.rd_wr_ne b r g.reg v i j k l h]

/-! ## Fields -/

theorem Block.rd_put_same (b : Block) (f : Fld) (v i j : Nat) : (b.put f v i j).rd f.reg i j = f.into (b.rd f.reg i j) v := by
  simp [Block.put]

theorem Block.rd_put_ne (b : Block) (f : Fld) (q : Reg) (v i j k l : Nat) (h : q.addr k l ≠ f.reg.addr i j) :
    (b.put f v i j).rd q k l = b.rd q k l := Block.rd_wr_ne b f.reg q _ i j k l h

/-- A field reads as written. -/
theorem Block.get_put_same (b : Block) (f : Fld) (v i j : Nat) (h : f.lo + f.w ≤ 32) : (b.put f v i j).get f i j = v % 2 ^ f.w := by
  simp [Block.get, Block.rd_put_same, Fld.of_into_same f _ v h]

/-- A field of another register is unchanged. -/
theorem Block.get_put_ne (b : Block) (f g : Fld) (v i j k l : Nat) (h : g.reg.addr k l ≠ f.reg.addr i j) :
    (b.put f v i j).get g k l = b.get g k l := by
  simp [Block.get, Block.rd_put_ne b f g.reg v i j k l h]

/-- A field beside the one written is unchanged. -/
theorem Block.get_put_beside (b : Block) (f g : Fld) (v i j : Nat) (r : g.reg = f.reg) (h : f.lo + f.w ≤ 32)
    (d : g.lo + g.w ≤ f.lo ∨ f.lo + f.w ≤ g.lo) : (b.put f v i j).get g i j = b.get g i j := by
  simp [Block.get, r, Block.rd_put_same, Fld.of_into_ne f g _ v h d]

/-- The table of registers outside one address is unchanged. -/
theorem Block.regs_wr_ne (b : Block) (r : Reg) (v : Word) (i j a : Nat) (d : Word) (h : a ≠ r.addr i j) :
    Tab.get d (b.wr r v i j).regs a = Tab.get d b.regs a := Tab.get_set_ne _ d _ _ h

theorem Block.regs_put_ne (b : Block) (f : Fld) (v i j a : Nat) (d : Word) (h : a ≠ f.reg.addr i j) :
    Tab.get d (b.put f v i j).regs a = Tab.get d b.regs a := Block.regs_wr_ne b f.reg _ i j a d h

end Machine

end Sys2Proof
end

