-- ==== Sys2Proof/Laws/Bus.lean ====
section
/-!
SUPPORT. Laws of the register fabric: all that a command which is one register write can do.
-/

namespace Sys2Proof.Machine

/-- A master that may write, at an open page: the block behind the page decides. -/
theorem Block.command_open (b : Block) (m : Master) (r : Reg) (i j : Nat) (w : Word) (hp : placeOkay r i j = true)
    (hb : b.busOpen m = true) (ho : b.openPage (r.page + i) = true) :
    b.command m r i j w = match b.pageWrite m ⟨r, i, j⟩ w with
      | (b', .ok) => b'
      | (b', .refused c) => b'.refuse (r.page + i) (r.off + j * r.stride) m c := by
  simp only [Block.openPage, Bool.and_eq_true, Bool.not_eq_true'] at ho
  simp only [Block.command, hp, Block.cmdWrite, hb, Block.writeVia, ho.1, ho.2, ite_true, Bool.not_true, Bool.false_eq_true, ite_false]
  rcases h : b.pageWrite m ⟨r, i, j⟩ w with ⟨b', a⟩
  cases a <;> rfl

/-- The write is accepted. -/
theorem Block.command_ok (b b' : Block) (m : Master) (r : Reg) (i j : Nat) (w : Word) (hp : placeOkay r i j = true)
    (hb : b.busOpen m = true) (ho : b.openPage (r.page + i) = true) (h : b.pageWrite m ⟨r, i, j⟩ w = (b', .ok)) :
    b.command m r i j w = b' := by
  rw [Block.command_open b m r i j w hp hb ho, h]

/-- The write is refused. -/
theorem Block.command_refused (b b' : Block) (m : Master) (r : Reg) (i j c : Nat) (w : Word) (hp : placeOkay r i j = true)
    (hb : b.busOpen m = true) (ho : b.openPage (r.page + i) = true) (h : b.pageWrite m ⟨r, i, j⟩ w = (b', .refused c)) :
    b.command m r i j w = b'.refuse (r.page + i) (r.off + j * r.stride) m c := by
  rw [Block.command_open b m r i j w hp hb ho, h]

/-- A master that may not write changes nothing. -/
theorem Block.command_shut (b : Block) (m : Master) (r : Reg) (i j : Nat) (w : Word) (h : b.busOpen m = false) :
    b.command m r i j w = b := by
  simp [Block.command, Block.cmdWrite, h]

/-- A fenced page or one that does not exist discards the write. -/
theorem Block.command_closed (b : Block) (m : Master) (r : Reg) (i j : Nat) (w : Word) (h : b.openPage (r.page + i) = false) :
    b.command m r i j w = b := by
  simp only [Block.openPage, Bool.and_eq_false_iff, Bool.not_eq_false'] at h
  rcases h with h | h <;> (simp only [Block.command, Block.cmdWrite, Block.writeVia, h]; split <;> try rfl) <;> split <;> try rfl
  simp only [Bool.not_eq_true', ite_true]
  split <;> rfl

/-- The pages below 0x14 exist in every variant but ETH's, which the TM6432 lacks. -/
theorem Block.pageExists_global (b : Block) (p : Nat) (h : p < 0x14) (e : p ≠ 6) : b.pageExists p = true := by
  simp [Block.pageExists, h, e]

theorem Block.pageExists_leg (b : Block) (n : Nat) (h : n < b.numLegs) : b.pageExists (0x20 + n) = true := by
  simp [Block.pageExists, h]

theorem Block.pageExists_axis (b : Block) (n : Nat) (h : n < b.numAxes) : b.pageExists (0x60 + n) = true := by
  simp [Block.pageExists, h]

theorem Block.pageExists_conv (b : Block) (n : Nat) (h : n < b.numConv) : b.pageExists (0xB0 + n) = true := by
  simp [Block.pageExists, h]

theorem Block.pageExists_ring (b : Block) (n : Nat) (h : n < b.numRings) : b.pageExists (0xD0 + n) = true := by
  simp [Block.pageExists, h]

theorem Block.pageExists_ctx (b : Block) (n : Nat) (h : n < b.numCtx) : b.pageExists (0x140 + n) = true := by
  simp [Block.pageExists, h]

theorem Block.pageExists_fb (b : Block) (n : Nat) (h : n < 24) : b.pageExists (0x78 + n) = true := by
  simp [Block.pageExists]; omega

theorem Block.pageExists_bank (b : Block) (n : Nat) (h : n < 44) : b.pageExists (0x110 + n) = true := by
  simp [Block.pageExists]; omega

end Sys2Proof.Machine
end

