-- ==== Sys2Proof/Laws/Frame.lean ====
section
/-!
SUPPORT. What the refresh of machine safety, of overrides and of drive states can change: pads, axes, contexts, groups, and registers of the
pages of SEC, CFU and SHL and of the pages from 0x20 on. Everything else of the block stays.
-/

namespace Sys2Proof.Machine

/-- The block without what such a refresh can change. -/
def Block.shell (b : Block) : Block := { b with regs := [], legs := [], axes := [], lcs := [], stgs := [], shl := {} }

/-- A page that such a refresh never writes. -/
abbrev Calm (p : Nat) : Prop := p ≠ 3 ∧ p ≠ 0xE ∧ p ≠ 0x13 ∧ p < 0x20

/-- From `b` to `c` nothing changed but what such a refresh can change. -/
structure Inside (b c : Block) : Prop where
  shell : c.shell = b.shell
  rd : ∀ r i j, Calm (r.addr i j / 4096) → c.rd r i j = b.rd r i j

namespace Inside

theorem refl (b : Block) : Inside b b := ⟨rfl, fun _ _ _ _ => rfl⟩

theorem trans {a b c : Block} (h : Inside a b) (k : Inside b c) : Inside a c :=
  ⟨k.shell.trans h.shell, fun r i j p => (k.rd r i j p).trans (h.rd r i j p)⟩

theorem wr {a b : Block} (h : Inside a b) (q : Reg) (v : Word) (i j : Nat) (hq : ¬ Calm (q.addr i j / 4096)) : Inside a (b.wr q v i j) :=
  ⟨h.shell, fun r k l p => by
    rw [Block.rd_wr_ne b q r v i j k l (fun e => hq (e ▸ p))]
    exact h.rd r k l p⟩

theorem wrUnit {a b : Block} (h : Inside a b) (q : Reg) (v : Word) (i j : Nat) (hq : 0x20 ≤ q.page) : Inside a (b.wr q v i j) := by
  refine h.wr q v i j ?_
  unfold Reg.addr
  omega

theorem put {a b : Block} (h : Inside a b) (f : Fld) (v i j : Nat) (hq : ¬ Calm (f.reg.addr i j / 4096)) : Inside a (b.put f v i j) :=
  h.wr _ _ _ _ hq

theorem putUnit {a b : Block} (h : Inside a b) (f : Fld) (v i j : Nat) (hq : 0x20 ≤ f.reg.page) : Inside a (b.put f v i j) :=
  h.wrUnit _ _ _ _ hq

theorem evt {a b : Block} (h : Inside a b) (p k : Nat) (hp : ¬ Calm p) : Inside a (b.evt p k) := by
  refine h.put _ _ _ _ ?_
  have : HDR.EVT_STAT_BITS.reg.addr p 0 / 4096 = p := by
    show ((0 + p) * 4096 + 0xC + 0 * 0) / 4096 = p
    omega
  rwa [this]

theorem each {a b : Block} (h : Inside a b) (l : List Nat) (f : Block → Nat → Block) (hf : ∀ c n, Inside c (f c n)) :
    Inside a (b.each l f) := by
  unfold Block.each
  induction l generalizing b with
  | nil => exact h
  | cons n l ih => exact ih (h.trans (hf b n))

theorem setLeg {a b : Block} (h : Inside a b) (n : Nat) (x : LegSt) : Inside a (b.setLeg n x) := ⟨h.shell, h.rd⟩
theorem setAx {a b : Block} (h : Inside a b) (n : Nat) (x : AxSt) : Inside a (b.setAx n x) := ⟨h.shell, h.rd⟩
theorem setLc {a b : Block} (h : Inside a b) (n : Nat) (x : LcSt) : Inside a (b.setLc n x) := ⟨h.shell, h.rd⟩
theorem setStg {a b : Block} (h : Inside a b) (n : Nat) (x : StgSt) : Inside a (b.setStg n x) := ⟨h.shell, h.rd⟩
theorem setShl {a b : Block} (h : Inside a b) (x : ShlSt) : Inside a { b with shl := x } := ⟨h.shell, h.rd⟩

end Inside

theorem hotPage (n : Nat) : ¬ Calm (0x20 + n) := by omega
theorem hotAxis (n : Nat) : ¬ Calm (0x60 + n) := by omega

theorem blank_inside (b : Block) (leg : Nat) : Inside b (b.blank leg) := (Inside.refl b).setLeg _ _

theorem padMoved_inside (b : Block) (leg : Nat) (o : Bool × Bool) : Inside b (b.padMoved leg o) := by
  unfold Block.padMoved
  split
  · exact .refl b
  · exact blank_inside b leg

theorem padRefresh_inside (b : Block) (leg : Nat) : Inside b (b.padRefresh leg) := by
  unfold Block.padRefresh
  dsimp only
  split
  · split
    · exact .refl b
    · exact (((Inside.refl b).setLeg _ _).trans (padMoved_inside _ _ _)).evt _ _ (hotPage leg)
  · exact .refl b

theorem debugLower_inside (b : Block) : Inside b b.debugLower := by
  unfold Block.debugLower
  split
  · exact (((Inside.refl b).put SEC.SEC_STAT_LEVEL 1 0 0 (by decide)).put SEC.SEC_STAT_HALTED 0 0 0 (by decide)).evt 3 0 (by decide)
  · exact .refl b

theorem padsRefresh_inside (b : Block) : Inside b b.padsRefresh :=
  ((Inside.refl b).each _ _ padRefresh_inside).trans (debugLower_inside _)

theorem setDrv_inside (b : Block) (a st : Nat) : Inside b (b.setDrv a st) := by
  unfold Block.setDrv Block.stamp
  simp only
  exact (((((Inside.refl b).putUnit _ _ _ _ (by decide)).putUnit _ _ _ _ (by decide)).wrUnit _ _ _ _ (by decide)).wrUnit _ _ _ _
    (by decide)).evt _ _ (hotAxis a)

theorem mask_inside (b : Block) (a : Nat) (v : Bool) : Inside b (b.mask a v) := by
  unfold Block.mask
  split
  · exact (Inside.refl b).putUnit _ _ _ _ (by decide)
  · exact (Inside.refl b).each _ _ (fun c n => (Inside.refl c).setLeg n _)

theorem toIdle_inside (b : Block) (a : Nat) : Inside b (b.toIdle a) :=
  (((Inside.refl b).setAx _ _).trans (setDrv_inside _ _ _)).trans (mask_inside _ _ _)

theorem toAsc_inside (b : Block) (a : Nat) (x y : Bool) : Inside b (b.toAsc a x y) :=
  ((((Inside.refl b).setAx _ _).trans (setDrv_inside _ _ _)).putUnit _ _ _ _ (by decide)).trans (mask_inside _ _ _)

theorem toHeld_inside (b : Block) (a src : Nat) : Inside b (b.toHeld a src) :=
  ((((setDrv_inside b a 9).putUnit AX.AX_DRV_HELD_SRC src a 0 (by decide)).setAx _ _).trans (mask_inside _ _ _)).evt _ _ (by decide)

theorem axesHeld_inside (b : Block) : Inside b b.axesHeld := by
  refine (Inside.refl b).each _ _ (fun c a => ?_)
  simp only
  split
  · split
    · exact (Inside.refl c).putUnit _ _ _ _ (by decide)
    · exact toHeld_inside c a _
  · split
    · exact ((Inside.refl c).putUnit _ _ _ _ (by decide)).trans (setDrv_inside _ _ _)
    · exact .refl c

theorem overridesChanged_inside (b : Block) : Inside b b.overridesChanged := (padsRefresh_inside b).trans (axesHeld_inside _)

theorem rampRestart_inside (b : Block) (c : Nat) : Inside b (rampRestart b c) := by
  unfold rampRestart
  simp only
  repeat' split
  all_goals first
    | with_reducible exact .refl b
    | with_reducible exact (Inside.refl b).setLc _ _

theorem restartRamps_inside (b : Block) (a : Nat) : Inside b (b.restartRamps a rampRestart) :=
  (Inside.refl b).each _ _ rampRestart_inside

theorem startFrom_inside (b : Block) (a : Nat) : Inside b (b.startFrom a rampRestart) := by
  unfold Block.startFrom
  simp only
  have h := Inside.refl b
  split
  · exact (h.setAx _ _).trans (setDrv_inside _ _ _)
  · refine Inside.trans ?_ (mask_inside _ _ _)
    split
    · exact ((h.setAx _ _).trans (setDrv_inside _ _ _)).trans (restartRamps_inside _ _)
    · exact (h.setAx _ _).trans (setDrv_inside _ _ _)

theorem seedDc_inside (b : Block) (a : Nat) : Inside b (b.seedDc a) := by
  unfold Block.seedDc
  dsimp only
  split
  · exact ((Inside.refl b).setAx _ _).putUnit AX.AX_EST_W _ _ _ (by decide)
  · exact (((Inside.refl b).setAx _ _).putUnit AX.AX_EST_W _ _ _ (by decide)).putUnit AX.AX_DRV_W_VALID _ _ _ (by decide)
  · exact (Inside.refl b).setAx _ _

theorem opAct_inside (b : Block) (a op : Nat) : Inside b (b.opAct a op rampRestart) := by
  unfold Block.opAct
  simp only
  repeat' split
  all_goals first
    | with_reducible exact .refl b
    | with_reducible exact toIdle_inside b a
    | with_reducible exact startFrom_inside b a
    | with_reducible exact setDrv_inside b a _
    | with_reducible exact toAsc_inside b a _ _
    | with_reducible exact (setDrv_inside b a _).trans (mask_inside _ _ _)
    | with_reducible exact ((seedDc_inside b a).trans (setDrv_inside _ _ _)).trans (restartRamps_inside _ _)
    | with_reducible exact (((Inside.refl b).setAx _ _).trans (setDrv_inside _ _ _)).trans (mask_inside _ _ _)
    | with_reducible exact (Inside.refl b).setAx _ _
    | with_reducible exact (Inside.refl b).putUnit _ _ _ _ (by decide)

theorem stopSignal_inside (b : Block) (a : Nat) : Inside b (b.stopSignal a rampRestart) := by
  unfold Block.stopSignal
  split
  · exact .refl b
  · exact opAct_inside b a 2

theorem setGrp_inside (b : Block) (g st : Nat) : Inside b (b.setGrp g st) :=
  (Inside.refl b).put _ _ _ _ (show ¬ Calm (SHL.GRP_STATE.addr 0 0 / 4096) by decide)

theorem enterSto_inside (b : Block) (g : Nat) : Inside b (b.enterSto g) := by
  unfold Block.enterSto
  simp only
  have h := (((setGrp_inside b g 0).evt 0x13 g (by decide)).setStg g
    { ((b.setGrp g 0).evt 0x13 g).stg g with
        latch := setBit (setBit (((b.setGrp g 0).evt 0x13 g).stg g).latch 2 false) 3 false, env := none })
  exact h.setShl _

theorem sdiClear_inside (b : Block) (g : Nat) : Inside b (b.sdiClear g) := by
  unfold Block.sdiClear
  refine Inside.setStg ?_ _ _
  split
  · refine (Inside.refl b).put _ _ _ _ ?_
    have h : SHL.SPD_SDI_ACC.reg.addr 0 g / 4096 = 0x13 := by
      show ((0x13 + 0) * 4096 + 0xC0 + g * 4) / 4096 = 0x13
      omega
    rw [h]
    decide
  · exact .refl b

theorem enterPermit_inside (b : Block) (g : Nat) : Inside b (b.enterPermit g) := (setGrp_inside b g 2).trans (sdiClear_inside _ _)

theorem enterSs1_inside (b : Block) (g : Nat) : Inside b (b.enterSs1 g) := by
  unfold Block.enterSs1
  simp only
  split
  · exact ((setGrp_inside b g 3).setStg _ _).each _ _ stopSignal_inside
  · exact (setGrp_inside b g 3).setStg _ _

theorem grpStep_inside (b : Block) (g : Nat) : Inside b (b.grpStep g) := by
  unfold Block.grpStep
  extract_lets s sto any
  split
  · rename_i s' b' _ _
    have h : Inside b b' := (Inside.refl b).setStg g s'
    clear_value b'
    split
    · exact h
    · split
      · exact h.trans (enterPermit_inside b' g)
      · exact h.trans (setGrp_inside b' g 1)
  · split
    · exact enterSto_inside b g
    · exact .refl b
  · split
    · exact enterSto_inside b g
    · split
      · exact enterSs1_inside b g
      · exact .refl b
  · split
    · exact enterSto_inside b g
    · exact .refl b

theorem spdRefresh_inside (b : Block) (g : Nat) : Inside b (b.spdRefresh g) := by
  unfold Block.spdRefresh
  dsimp only
  have h : ∀ x, Inside b ((b.setMap SHL.GRP_FAULT_SLS_ACT g (b.spdSel g)).setStg g x) :=
    fun x => ((Inside.refl b).put SHL.GRP_FAULT_SLS_ACT _ 0 0 (by decide)).setStg _ x
  split
  · exact (h _).trans (sdiClear_inside _ _)
  · exact h _

theorem cdrRefresh_inside (b : Block) : Inside b b.cdrRefresh := by
  refine (Inside.refl b).each _ _ (fun c n => ?_)
  simp only
  split
  · exact .refl c
  · exact ((Inside.refl c).put SHL.CDR_STAT_DRIVEN _ 0 0 (by decide)).setShl _

theorem unlatch_inside (b : Block) (k : Nat) : Inside b (b.unlatch k) := by
  refine (Inside.refl b).each _ _ (fun c g => ?_)
  simp only
  split
  · exact (Inside.refl c).setStg _ _
  · exact .refl c

theorem cfbUnlatch_inside (b : Block) : Inside b b.cfbUnlatch := (Inside.refl b).each _ _ (fun c _ => unlatch_inside c _)

theorem shlApply_inside (b : Block) : Inside b b.shlApply := by
  unfold Block.shlApply
  simp only
  exact ((((Inside.refl b).each _ _ (fun c n => (Inside.refl c).setLeg n _)).put SHL.OVR_LO_LEG _ 0 0 (by decide)).put SHL.OVR_HI_LEG _ 0 0
    (by decide)).trans (overridesChanged_inside _)

theorem shlStatus_inside (b : Block) : Inside b b.shlStatus := by
  unfold Block.shlStatus
  simp only
  refine Inside.put (Inside.put (Inside.put (Inside.put ?_ _ _ 0 0 (by decide)) _ _ 0 0 (by decide)) _ _ 0 0 (by decide)) _ _ 0 0 (by decide)
  split
  · exact .refl b
  · exact ((Inside.refl b).put SHL.SHL_STAT_CONFIRMED _ 0 0 (by decide)).evt 0x13 8 (by decide)

/-- All that a refresh of machine safety can change. -/
theorem shlRefresh_inside (b : Block) : Inside b b.shlRefresh := by
  unfold Block.shlRefresh
  simp only
  refine Inside.trans ?_ (shlStatus_inside _)
  refine Inside.trans ?_ (shlApply_inside _)
  refine Inside.trans ?_ (cdrRefresh_inside _)
  refine Inside.each ?_ _ _ (fun c g => grpStep_inside c g)
  refine Inside.trans ?_ (cfbUnlatch_inside _)
  refine Inside.trans ?_ (cdrRefresh_inside _)
  exact ((Inside.refl b).each _ _ spdRefresh_inside).each _ _
    (fun c g => ((grpStep_inside c g).trans (grpStep_inside _ g)).trans (grpStep_inside _ g))

/-! ## The fields that a refresh leaves -/

@[simp] theorem Block.shlRefresh_ts (b : Block) : b.shlRefresh.ts = b.ts := by
  have h := congrArg Block.ts (shlRefresh_inside b).shell
  exact h
@[simp] theorem Block.shlRefresh_latches (b : Block) : b.shlRefresh.latches = b.latches := by
  have h := congrArg Block.latches (shlRefresh_inside b).shell
  exact h
@[simp] theorem Block.shlRefresh_snap (b : Block) : b.shlRefresh.snap = b.snap := by
  have h := congrArg Block.snap (shlRefresh_inside b).shell
  exact h
@[simp] theorem Block.shlRefresh_wires (b : Block) : b.shlRefresh.wires = b.wires := by
  have h := congrArg Block.wires (shlRefresh_inside b).shell
  exact h
@[simp] theorem Block.shlRefresh_free (b : Block) : b.shlRefresh.free = b.free := by
  have h := congrArg Block.free (shlRefresh_inside b).shell
  exact h
@[simp] theorem Block.shlRefresh_deferred (b : Block) : b.shlRefresh.deferred = b.deferred := by
  have h := congrArg Block.deferred (shlRefresh_inside b).shell
  exact h
@[simp] theorem Block.shlRefresh_crm (b : Block) : b.shlRefresh.crm = b.crm := by
  have h := congrArg Block.crm (shlRefresh_inside b).shell
  exact h
@[simp] theorem Block.shlRefresh_tbs (b : Block) : b.shlRefresh.tbs = b.tbs := by
  have h := congrArg Block.tbs (shlRefresh_inside b).shell
  exact h
@[simp] theorem Block.shlRefresh_mbxs (b : Block) : b.shlRefresh.mbxs = b.mbxs := by
  have h := congrArg Block.mbxs (shlRefresh_inside b).shell
  exact h
@[simp] theorem Block.shlRefresh_cpOk (b : Block) : b.shlRefresh.cpOk = b.cpOk := by
  have h := congrArg Block.cpOk (shlRefresh_inside b).shell
  exact h
@[simp] theorem Block.shlRefresh_pinSp (b : Block) : b.shlRefresh.pinSp = b.pinSp := by
  have h := congrArg Block.pinSp (shlRefresh_inside b).shell
  exact h
@[simp] theorem Block.shlRefresh_fbs (b : Block) : b.shlRefresh.fbs = b.fbs := by
  have h := congrArg Block.fbs (shlRefresh_inside b).shell
  exact h
@[simp] theorem Block.shlRefresh_pcoLatch (b : Block) : b.shlRefresh.pcoLatch = b.pcoLatch := by
  have h := congrArg Block.pcoLatch (shlRefresh_inside b).shell
  exact h
@[simp] theorem Block.shlRefresh_pcoPulse (b : Block) : b.shlRefresh.pcoPulse = b.pcoPulse := by
  have h := congrArg Block.pcoPulse (shlRefresh_inside b).shell
  exact h
@[simp] theorem Block.shlRefresh_rings (b : Block) : b.shlRefresh.rings = b.rings := by
  have h := congrArg Block.rings (shlRefresh_inside b).shell
  exact h
@[simp] theorem Block.shlRefresh_spuPush (b : Block) : b.shlRefresh.spuPush = b.spuPush := by
  have h := congrArg Block.spuPush (shlRefresh_inside b).shell
  exact h
@[simp] theorem Block.shlRefresh_spuPop (b : Block) : b.shlRefresh.spuPop = b.spuPop := by
  have h := congrArg Block.spuPop (shlRefresh_inside b).shell
  exact h
@[simp] theorem Block.shlRefresh_upset (b : Block) : b.shlRefresh.upset = b.upset := by
  have h := congrArg Block.upset (shlRefresh_inside b).shell
  exact h
@[simp] theorem Block.shlRefresh_handover (b : Block) : b.shlRefresh.handover = b.handover := by
  have h := congrArg Block.handover (shlRefresh_inside b).shell
  exact h
@[simp] theorem Block.shlRefresh_bankNew (b : Block) : b.shlRefresh.bankNew = b.bankNew := by
  have h := congrArg Block.bankNew (shlRefresh_inside b).shell
  exact h
@[simp] theorem Block.shlRefresh_wakeWait (b : Block) : b.shlRefresh.wakeWait = b.wakeWait := by
  have h := congrArg Block.wakeWait (shlRefresh_inside b).shell
  exact h
@[simp] theorem Block.shlRefresh_xsp (b : Block) : b.shlRefresh.xsp = b.xsp := by
  have h := congrArg Block.xsp (shlRefresh_inside b).shell
  exact h
@[simp] theorem Block.shlRefresh_eth (b : Block) : b.shlRefresh.eth = b.eth := by
  have h := congrArg Block.eth (shlRefresh_inside b).shell
  exact h
@[simp] theorem Block.shlRefresh_can0 (b : Block) : b.shlRefresh.can0 = b.can0 := by
  have h := congrArg Block.can0 (shlRefresh_inside b).shell
  exact h
@[simp] theorem Block.shlRefresh_can1 (b : Block) : b.shlRefresh.can1 = b.can1 := by
  have h := congrArg Block.can1 (shlRefresh_inside b).shell
  exact h
@[simp] theorem Block.shlRefresh_convs (b : Block) : b.shlRefresh.convs = b.convs := by
  have h := congrArg Block.convs (shlRefresh_inside b).shell
  exact h
@[simp] theorem Block.shlRefresh_samples (b : Block) : b.shlRefresh.samples = b.samples := by
  have h := congrArg Block.samples (shlRefresh_inside b).shell
  exact h
@[simp] theorem Block.shlRefresh_buses (b : Block) : b.shlRefresh.buses = b.buses := by
  have h := congrArg Block.buses (shlRefresh_inside b).shell
  exact h
@[simp] theorem Block.shlRefresh_sess (b : Block) : b.shlRefresh.sess = b.sess := by
  have h := congrArg Block.sess (shlRefresh_inside b).shell
  exact h
@[simp] theorem Block.shlRefresh_fcr (b : Block) : b.shlRefresh.fcr = b.fcr := by
  have h := congrArg Block.fcr (shlRefresh_inside b).shell
  exact h
@[simp] theorem Block.shlRefresh_otp (b : Block) : b.shlRefresh.otp = b.otp := by
  have h := congrArg Block.otp (shlRefresh_inside b).shell
  exact h
@[simp] theorem Block.shlRefresh_sec (b : Block) : b.shlRefresh.sec = b.sec := by
  have h := congrArg Block.sec (shlRefresh_inside b).shell
  exact h
@[simp] theorem Block.shlRefresh_hsp (b : Block) : b.shlRefresh.hsp = b.hsp := by
  have h := congrArg Block.hsp (shlRefresh_inside b).shell
  exact h
@[simp] theorem Block.shlRefresh_spu (b : Block) : b.shlRefresh.spu = b.spu := by
  have h := congrArg Block.spu (shlRefresh_inside b).shell
  exact h
@[simp] theorem Block.overridesChanged_ts (b : Block) : b.overridesChanged.ts = b.ts := by
  have h := congrArg Block.ts (overridesChanged_inside b).shell
  exact h
@[simp] theorem Block.overridesChanged_latches (b : Block) : b.overridesChanged.latches = b.latches := by
  have h := congrArg Block.latches (overridesChanged_inside b).shell
  exact h
@[simp] theorem Block.overridesChanged_snap (b : Block) : b.overridesChanged.snap = b.snap := by
  have h := congrArg Block.snap (overridesChanged_inside b).shell
  exact h
@[simp] theorem Block.overridesChanged_wires (b : Block) : b.overridesChanged.wires = b.wires := by
  have h := congrArg Block.wires (overridesChanged_inside b).shell
  exact h
@[simp] theorem Block.overridesChanged_free (b : Block) : b.overridesChanged.free = b.free := by
  have h := congrArg Block.free (overridesChanged_inside b).shell
  exact h
@[simp] theorem Block.overridesChanged_deferred (b : Block) : b.overridesChanged.deferred = b.deferred := by
  have h := congrArg Block.deferred (overridesChanged_inside b).shell
  exact h
@[simp] theorem Block.overridesChanged_crm (b : Block) : b.overridesChanged.crm = b.crm := by
  have h := congrArg Block.crm (overridesChanged_inside b).shell
  exact h
@[simp] theorem Block.overridesChanged_tbs (b : Block) : b.overridesChanged.tbs = b.tbs := by
  have h := congrArg Block.tbs (overridesChanged_inside b).shell
  exact h
@[simp] theorem Block.overridesChanged_mbxs (b : Block) : b.overridesChanged.mbxs = b.mbxs := by
  have h := congrArg Block.mbxs (overridesChanged_inside b).shell
  exact h
@[simp] theorem Block.overridesChanged_cpOk (b : Block) : b.overridesChanged.cpOk = b.cpOk := by
  have h := congrArg Block.cpOk (overridesChanged_inside b).shell
  exact h
@[simp] theorem Block.overridesChanged_pinSp (b : Block) : b.overridesChanged.pinSp = b.pinSp := by
  have h := congrArg Block.pinSp (overridesChanged_inside b).shell
  exact h
@[simp] theorem Block.overridesChanged_fbs (b : Block) : b.overridesChanged.fbs = b.fbs := by
  have h := congrArg Block.fbs (overridesChanged_inside b).shell
  exact h
@[simp] theorem Block.overridesChanged_pcoLatch (b : Block) : b.overridesChanged.pcoLatch = b.pcoLatch := by
  have h := congrArg Block.pcoLatch (overridesChanged_inside b).shell
  exact h
@[simp] theorem Block.overridesChanged_pcoPulse (b : Block) : b.overridesChanged.pcoPulse = b.pcoPulse := by
  have h := congrArg Block.pcoPulse (overridesChanged_inside b).shell
  exact h
@[simp] theorem Block.overridesChanged_rings (b : Block) : b.overridesChanged.rings = b.rings := by
  have h := congrArg Block.rings (overridesChanged_inside b).shell
  exact h
@[simp] theorem Block.overridesChanged_spuPush (b : Block) : b.overridesChanged.spuPush = b.spuPush := by
  have h := congrArg Block.spuPush (overridesChanged_inside b).shell
  exact h
@[simp] theorem Block.overridesChanged_spuPop (b : Block) : b.overridesChanged.spuPop = b.spuPop := by
  have h := congrArg Block.spuPop (overridesChanged_inside b).shell
  exact h
@[simp] theorem Block.overridesChanged_upset (b : Block) : b.overridesChanged.upset = b.upset := by
  have h := congrArg Block.upset (overridesChanged_inside b).shell
  exact h
@[simp] theorem Block.overridesChanged_handover (b : Block) : b.overridesChanged.handover = b.handover := by
  have h := congrArg Block.handover (overridesChanged_inside b).shell
  exact h
@[simp] theorem Block.overridesChanged_bankNew (b : Block) : b.overridesChanged.bankNew = b.bankNew := by
  have h := congrArg Block.bankNew (overridesChanged_inside b).shell
  exact h
@[simp] theorem Block.overridesChanged_wakeWait (b : Block) : b.overridesChanged.wakeWait = b.wakeWait := by
  have h := congrArg Block.wakeWait (overridesChanged_inside b).shell
  exact h
@[simp] theorem Block.overridesChanged_xsp (b : Block) : b.overridesChanged.xsp = b.xsp := by
  have h := congrArg Block.xsp (overridesChanged_inside b).shell
  exact h
@[simp] theorem Block.overridesChanged_eth (b : Block) : b.overridesChanged.eth = b.eth := by
  have h := congrArg Block.eth (overridesChanged_inside b).shell
  exact h
@[simp] theorem Block.overridesChanged_can0 (b : Block) : b.overridesChanged.can0 = b.can0 := by
  have h := congrArg Block.can0 (overridesChanged_inside b).shell
  exact h
@[simp] theorem Block.overridesChanged_can1 (b : Block) : b.overridesChanged.can1 = b.can1 := by
  have h := congrArg Block.can1 (overridesChanged_inside b).shell
  exact h
@[simp] theorem Block.overridesChanged_convs (b : Block) : b.overridesChanged.convs = b.convs := by
  have h := congrArg Block.convs (overridesChanged_inside b).shell
  exact h
@[simp] theorem Block.overridesChanged_samples (b : Block) : b.overridesChanged.samples = b.samples := by
  have h := congrArg Block.samples (overridesChanged_inside b).shell
  exact h
@[simp] theorem Block.overridesChanged_buses (b : Block) : b.overridesChanged.buses = b.buses := by
  have h := congrArg Block.buses (overridesChanged_inside b).shell
  exact h
@[simp] theorem Block.overridesChanged_sess (b : Block) : b.overridesChanged.sess = b.sess := by
  have h := congrArg Block.sess (overridesChanged_inside b).shell
  exact h
@[simp] theorem Block.overridesChanged_fcr (b : Block) : b.overridesChanged.fcr = b.fcr := by
  have h := congrArg Block.fcr (overridesChanged_inside b).shell
  exact h
@[simp] theorem Block.overridesChanged_otp (b : Block) : b.overridesChanged.otp = b.otp := by
  have h := congrArg Block.otp (overridesChanged_inside b).shell
  exact h
@[simp] theorem Block.overridesChanged_sec (b : Block) : b.overridesChanged.sec = b.sec := by
  have h := congrArg Block.sec (overridesChanged_inside b).shell
  exact h
@[simp] theorem Block.overridesChanged_hsp (b : Block) : b.overridesChanged.hsp = b.hsp := by
  have h := congrArg Block.hsp (overridesChanged_inside b).shell
  exact h
@[simp] theorem Block.overridesChanged_spu (b : Block) : b.overridesChanged.spu = b.spu := by
  have h := congrArg Block.spu (overridesChanged_inside b).shell
  exact h

end Sys2Proof.Machine
end

