-- ==== Sys2Proof/Laws/Fuse.lean ====
section
/-!
SUPPORT. What a block reads back from fuse words that are stored under their code (R51, R73).
-/

namespace Sys2Proof.Machine

/-- A datum stored under its code, alike at every margin. -/
def stored (d : Word) : FuseRaw := ⟨codeword d, codeword d, codeword d⟩

/-- Fuse words stored under their code. -/
def storedWords (l : List (Nat × Word)) : Tab FuseRaw := l.map (fun x => (x.1, stored x.2))

theorem rawData_codeword (d : Word) : rawData (codeword d) = d := by
  apply BitVec.eq_of_toNat_eq
  have := d.isLt
  simp only [rawData, codeword, BitVec.toNat_ofNat]
  omega

theorem fuseDecode_codeword (d : Word) : fuseDecode (codeword d) = some (d, false) := by
  simp [fuseDecode, rawData_codeword]

theorem fuseMajority_stored (d : Word) : fuseMajority (stored d) = some d := by
  simp [fuseMajority, stored, fuseDecode_codeword]

theorem codeword_zero : codeword 0#32 = 0#39 := by decide

theorem codeword_eq_zero (d : Word) : codeword d = 0 ↔ d = 0 := by
  constructor
  · intro h
    have := rawData_codeword d
    rw [h] at this
    rw [← this]
    decide
  · rintro rfl
    exact codeword_zero

theorem get_storedWords (l : List (Nat × Word)) (w : Nat) : Tab.get ⟨0#39, 0#39, 0#39⟩ (storedWords l) w = stored (Tab.get 0#32 l w) := by
  induction l with
  | nil => simp [storedWords, Tab.get, stored, codeword_zero]
  | cons x t ih =>
    obtain ⟨k, v⟩ := x
    by_cases h : k = w
    · simp [storedWords, Tab.get, h]
    · simpa [storedWords, Tab.get, h] using ih

/-- The value of a word is what was stored. -/
theorem fuseVal_storedWords {b : Block} {l : List (Nat × Word)} (h : b.otp.fuses = storedWords l) (w : Nat) :
    b.fuseVal w = Tab.get 0 l w := by
  simp [Block.fuseVal, Block.fuse, h, get_storedWords, fuseMajority_stored]

/-- A word is programmed where the datum stored is not zero. -/
theorem burnt_storedWords {b : Block} {l : List (Nat × Word)} (h : b.otp.fuses = storedWords l) (w : Nat) :
    b.burnt w = (Tab.get 0 l w != 0) := by
  have hz := codeword_eq_zero (Tab.get 0#32 l w)
  rw [Bool.eq_iff_iff]
  simpa [Block.burnt, Block.fuse, h, get_storedWords, stored] using not_congr hz

/-- Past BLANK a finalise flag that is programmed with no flag word is the fault of start-up that comes before every other. -/
theorem startFault_of_flag {b : Block} {k : Nat} (h : sealedUnits.find? b.badFlagAt = some k) : b.startFault = some (3, k) := by
  unfold Block.startFault
  extract_lets lc words checked badFlag unread badSum v
  have hk : badFlag = some k := h
  rw [hk]
  rfl

end Sys2Proof.Machine
end

