-- ==== Sys2Proof/Laws/Legs.lean ====
section
/-!
SUPPORT. What the shared operations do that drive the two commands of a leg, and that an update of one leg or of one register keeps the
invariants of Safety.lean.
-/

namespace Sys2Proof.Machine

/-- Behind the interlock a command that is on stays on only where stage 3 commands it; none comes on (R146). -/
@[simp] theorem LegSt.drive_hi (l : LegSt) (h lo : Bool) (pos : Nat) : (l.drive h lo pos).hi = (l.hi && h) := rfl
@[simp] theorem LegSt.drive_lo (l : LegSt) (h lo : Bool) (pos : Nat) : (l.drive h lo pos).lo = (l.lo && lo) := rfl

/-- At the return to the edge path a command is on where the edge path and the pad have it (R155). -/
@[simp] theorem LegSt.returnFrom_hi (l : LegSt) (now : Nat) (out : Bool × Bool) : (l.returnFrom now out).hi = (l.hi && out.1) := rfl
@[simp] theorem LegSt.returnFrom_lo (l : LegSt) (now : Nat) (out : Bool × Bool) : (l.returnFrom now out).lo = (l.lo && out.2) := rfl

theorem Block.leg_setLeg_same (b : Block) (n : Nat) (l : LegSt) : (b.setLeg n l).leg n = l := Tab.get_set_same _ _ _ _

theorem Block.leg_setLeg_ne (b : Block) {n k : Nat} (l : LegSt) (h : k ≠ n) : (b.setLeg n l).leg k = b.leg k :=
  Tab.get_set_ne _ _ _ _ h

/-- An update of one leg that does not turn both its commands on keeps the commands of every leg exclusive. -/
theorem Block.exclusive_setLeg (b : Block) (n : Nat) (l : LegSt) (hb : b.exclusive) (hl : ¬ (l.hi = true ∧ l.lo = true)) :
    (b.setLeg n l).exclusive := by
  intro k
  by_cases h : k = n
  · rw [h, Block.leg_setLeg_same]; exact hl
  · rw [Block.leg_setLeg_ne b l h]; exact hb k

/-- A change of command through the interlock keeps them exclusive. -/
theorem Block.exclusive_drive (b : Block) (n : Nat) (h lo : Bool) (pos : Nat) (hb : b.exclusive) :
    (b.setLeg n ((b.leg n).drive h lo pos)).exclusive :=
  b.exclusive_setLeg n _ hb (fun c => hb n (by simp at c; exact ⟨c.1.1, c.2.1⟩))

/-- So does the return of a pad to the edge path. -/
theorem Block.exclusive_returnFrom (b : Block) (n now : Nat) (out : Bool × Bool) (hb : b.exclusive) :
    (b.setLeg n ((b.leg n).returnFrom now out)).exclusive :=
  b.exclusive_setLeg n _ hb (fun c => hb n (by simp at c; exact ⟨c.1.1, c.2.1⟩))

/-- A register write touches no leg. -/
theorem Block.exclusive_wr (b : Block) (r : Reg) (v : Word) (i j : Nat) (hb : b.exclusive) : (b.wr r v i j).exclusive := hb

/-- A register write keeps the register table in its form. -/
theorem Block.regsRising_wr (b : Block) (r : Reg) (v : Word) (i j : Nat) (hb : b.regsRising) : (b.wr r v i j).regsRising :=
  Tab.rising_set _ _ _ _ hb

end Sys2Proof.Machine
end

