-- ==== Sys2Proof/Laws/Mem.lean ====
section
/-!
SUPPORT. Laws of the memory: a read after a write, and that every operation over banks, rings and the register fabric keeps the canonical
form.
-/

namespace Sys2Proof.Machine

/-! ## Bytes -/

@[simp] theorem memByte_memSet_same (m : List Host.Cell) (a : Nat) (v : Byte) : memByte (memSet m a v) a = v :=
  Tab.get_set_same 0 m a v

theorem memByte_memSet_ne (m : List Host.Cell) (a c : Nat) (v : Byte) (h : c ≠ a) : memByte (memSet m a v) c = memByte m c :=
  Tab.get_set_ne 0 0 m v h

/-- A word write touches its four bytes only. -/
theorem memByte_memPut_out (m : List Host.Cell) (a c : Nat) (w : Word) (h : c < a ∨ a + 4 ≤ c) : memByte (memPut m a w) c = memByte m c := by
  unfold memPut
  rw [memByte_memSet_ne, memByte_memSet_ne, memByte_memSet_ne, memByte_memSet_ne] <;> omega

/-- The bytes of a word just written. -/
theorem memByte_memPut_in (m : List Host.Cell) (a k : Nat) (w : Word) (h : k < 4) : memByte (memPut m a w) (a + k) = byteOf w k := by
  unfold memPut
  have hk : k = 0 ∨ k = 1 ∨ k = 2 ∨ k = 3 := by omega
  rcases hk with rfl | rfl | rfl | rfl
  · rw [memByte_memSet_ne, memByte_memSet_ne, memByte_memSet_ne] <;> simp
  · rw [memByte_memSet_ne, memByte_memSet_ne] <;> simp
  · rw [memByte_memSet_ne] <;> simp
  · simp

/-- The four bytes of a word make the word again. -/
theorem wordOf_byteOf (w : Word) : wordOf (byteOf w 0) (byteOf w 1) (byteOf w 2) (byteOf w 3) = w := by
  apply BitVec.eq_of_toNat_eq
  have hw : w.toNat < 2 ^ 32 := w.isLt
  simp only [wordOf, byteOf, BitVec.toNat_ofNat]
  omega

/-- A word just written reads back. -/
theorem memWord_memPut_same (m : List Host.Cell) (a : Nat) (w : Word) : memWord (memPut m a w) a = w := by
  unfold memWord
  have h0 := memByte_memPut_in m a 0 w (by omega)
  rw [Nat.add_zero] at h0
  rw [h0, memByte_memPut_in m a 1 w (by omega), memByte_memPut_in m a 2 w (by omega), memByte_memPut_in m a 3 w (by omega),
    wordOf_byteOf]

/-- A word elsewhere is as before. -/
theorem memWord_memPut_ne (m : List Host.Cell) (a c : Nat) (w : Word) (h : c + 4 ≤ a ∨ a + 4 ≤ c) :
    memWord (memPut m a w) c = memWord m c := by
  unfold memWord
  rw [memByte_memPut_out, memByte_memPut_out, memByte_memPut_out, memByte_memPut_out] <;> omega

/-! ## The canonical form of the table -/

theorem memSet_wf {m : List Host.Cell} (a : Nat) (v : Byte) (h : Memory.wf m = true) : Memory.wf (memSet m a v) = true :=
  Tab.wf_set 0 m a v h

theorem memPut_wf {m : List Host.Cell} (a : Nat) (w : Word) (h : Memory.wf m = true) : Memory.wf (memPut m a w) = true :=
  memSet_wf _ _ (memSet_wf _ _ (memSet_wf _ _ (memSet_wf _ _ h)))

theorem memPuts_wf (ws : List Word) {m : List Host.Cell} (a : Nat) (h : Memory.wf m = true) : Memory.wf (memPuts m a ws) = true := by
  induction ws generalizing m a with
  | nil => exact h
  | cons w ws ih => exact ih _ (memPut_wf a w h)

/-- A fold whose every step keeps a property keeps it. -/
theorem foldl_keeps {α β : Type} (l : List α) (f : β → α → β) (p : β → Prop) (x : β) (hf : ∀ y a, p y → p (f y a)) (h : p x) :
    p (l.foldl f x) := by
  induction l generalizing x with
  | nil => exact h
  | cons a l ih => exact ih _ (hf x a h)

theorem memClear_wf {m : List Host.Cell} (lo hi : Nat) (h : Memory.wf m = true) : Memory.wf (memClear m lo hi) = true :=
  Tab.wf_filter 0 _ m h

theorem parityRecompute_wf {m : List Host.Cell} (k lo hi : Nat) (h : Memory.wf m = true) : Memory.wf (parityRecompute m k lo hi) = true := by
  unfold parityRecompute
  dsimp only
  exact foldl_keeps _ _ (fun m => Memory.wf m = true) _ (fun _ _ hm => memSet_wf _ _ hm) (memClear_wf _ _ h)

/-! ## Banks -/

variable {s : State}

/-- A state made with a memory in canonical form; stated over the constructor so that no check compares blocks. -/
theorem keepMem {b : Block} {m : List Host.Cell} {p : List Instr} (h : Memory.wf m = true) : Memory.wf (State.mk b m p).mem = true := h

/-- The same for the second of a pair. -/
theorem sndMem {α : Type} {x : α} {t : State} (h : Memory.wf t.mem = true) : Memory.wf (x, t).2.mem = true := h

theorem putWord_wf (a : Nat) (w : Word) (h : Memory.wf s.mem = true) : Memory.wf (s.putWord a w).mem = true := by
  unfold State.putWord
  split
  · split
    · exact memPut_wf _ _ (memPut_wf _ _ h)
    · exact memPut_wf _ _ h
  · exact memPut_wf _ _ h

theorem lostWord_wf (n a : Nat) (m : Master) (x : Nat) (h : Memory.wf s.mem = true) : Memory.wf (s.lostWord n a m x).2.mem = true := keepMem h

theorem parityRange_wf (k lo hi : Nat) (h : Memory.wf s.mem = true) : Memory.wf (s.parityRange k lo hi).mem = true :=
  parityRecompute_wf k lo hi h

theorem recomputeTo_wf (k hi : Nat) (h : Memory.wf s.mem = true) : Memory.wf (s.recomputeTo k hi).mem = true := by
  unfold State.recomputeTo
  dsimp only
  split
  · exact h
  · refine parityRange_wf k _ hi (foldl_keeps _ _ (fun t : State => Memory.wf t.mem = true) _ ?_ ?_)
    · exact fun y c hy => lostWord_wf _ _ _ _ hy
    · exact h

theorem recomputeStep_wf (k : Nat) (h : Memory.wf s.mem = true) : Memory.wf (s.recomputeStep k).mem = true := by
  unfold State.recomputeStep
  split
  · exact h
  · exact recomputeTo_wf (s := ⟨_, _, _⟩) k _ h

theorem rebuild_wf (n a : Nat) (m : Master) (x : Nat) (h : Memory.wf s.mem = true) : Memory.wf (s.rebuild n a m x).2.mem = true := by
  unfold State.rebuild
  dsimp only
  have h := recomputeStep_wf (n / 8) h
  split
  · exact memPut_wf _ _ h
  · exact lostWord_wf _ _ _ _ h

theorem readBank_wf (n a : Nat) (m : Master) (x : Nat) (h : Memory.wf s.mem = true) : Memory.wf (s.readBank n a m x).2.2.mem = true := by
  unfold State.readBank
  split
  · exact keepMem h
  · exact keepMem h
  · exact rebuild_wf n a m x h

theorem readParity_wf (k a : Nat) (h : Memory.wf s.mem = true) : Memory.wf (s.readParity k a).mem = true := by
  unfold State.readParity
  dsimp only
  split
  · exact keepMem h
  · exact keepMem h
  · split
    · exact memPut_wf _ _ h
    · exact keepMem h

theorem readOld_wf (n a : Nat) (m : Master) (c : Bool) (h : Memory.wf s.mem = true) : Memory.wf (s.readOld n a m c).2.mem = true := by
  unfold State.readOld
  split
  · exact readParity_wf _ _ (readBank_wf _ _ _ _ h)
  · split
    · exact readBank_wf _ _ _ _ h
    · exact h

theorem parityGood_wf (n a : Nat) (h : Memory.wf s.mem = true) : Memory.wf (s.parityGood n a).mem = true := by
  unfold State.parityGood
  dsimp only
  split
  · exact keepMem h
  · exact h

theorem storeWord_wf (m : Master) (a : Nat) (w mask : Word) (h : Memory.wf s.mem = true) :
    Memory.wf (s.storeWord m a w mask).mem = true := by
  unfold State.storeWord
  split
  · exact putWord_wf _ _ h
  · exact parityGood_wf _ _ (putWord_wf _ _ (readOld_wf _ _ _ _ (recomputeStep_wf _ h)))

theorem storeWords_wf (m : Master) (ws : List Word) {s : State} (a : Nat) (h : Memory.wf s.mem = true) :
    Memory.wf (s.storeWords m a ws).mem = true := by
  induction ws generalizing s a with
  | nil => exact keepMem h
  | cons w ws ih => exact ih _ (storeWord_wf m a w _ h)

theorem bankScrub_wf (a : Nat) (seen : Ecc) (h : Memory.wf s.mem = true) : Memory.wf (s.bankScrub a seen).mem = true := by
  unfold State.bankScrub
  dsimp only
  split
  · exact keepMem h
  · split
    · split
      · exact keepMem h
      · split
        · exact keepMem h
        · exact keepMem h
        · exact rebuild_wf (s := { s with b := s.b.see a seen }) _ a .hw 0 h
    · split
      · exact keepMem h
      · exact readParity_wf _ _ (recomputeStep_wf (s := ⟨_, _, _⟩) _ h)

theorem stripeDone_wf (k : Nat) (h : Memory.wf s.mem = true) : Memory.wf (s.stripeDone k).mem = true := by
  unfold State.stripeDone
  split
  · exact keepMem h
  · exact keepMem (recomputeTo_wf k 16384 h)

theorem bankInitDone_wf (n : Nat) (h : Memory.wf s.mem = true) : Memory.wf (s.bankInitDone n).mem = true := by
  unfold State.bankInitDone
  split
  · exact keepMem h
  · exact memClear_wf _ _ h

theorem quarantineDone_wf (n : Nat) (h : Memory.wf s.mem = true) : Memory.wf (s.quarantineDone n).mem = true := by
  unfold State.quarantineDone
  split
  · exact keepMem h
  · dsimp only
    split
    · exact parityRange_wf (s := ⟨_, _, _⟩) _ 0 _ (memClear_wf _ _ h)
    · exact memClear_wf _ _ h

/-! ## Rings -/

theorem writeEntry_wf (n : Nat) (e : List Word) (h : Memory.wf s.mem = true) : Memory.wf (s.writeEntry n e).mem = true :=
  storeWords_wf _ e _ h

theorem accept_wf (n : Nat) (e : List Word) (h : Memory.wf s.mem = true) : Memory.wf (s.accept n e).mem = true :=
  writeEntry_wf n e (keepMem h)

theorem pushEntry_wf (n : Nat) (e : List Word) (h : Memory.wf s.mem = true) : Memory.wf (s.pushEntry n e).2.mem = true := by
  unfold State.pushEntry
  dsimp only
  split
  · exact sndMem (keepMem h)
  split
  · exact sndMem h
  split
  · exact sndMem (keepMem h)
  split
  · exact sndMem (keepMem h)
  · exact sndMem (accept_wf n e (keepMem h))
  · split
    · exact sndMem (accept_wf n e (keepMem h))
    · exact sndMem (accept_wf n e (keepMem h))
  · split
    · exact sndMem (accept_wf n e (keepMem h))
    · exact sndMem (keepMem (writeEntry_wf n _ (keepMem h)))

theorem entryAt_wf (n i : Nat) (m : Master) (h : Memory.wf s.mem = true) : Memory.wf (s.entryAt n i m).2.mem = true := by
  unfold State.entryAt
  refine foldl_keeps _ _ (fun x : List Word × State => Memory.wf x.2.mem = true) _ ?_ h
  intro y k hy
  dsimp only
  split
  · split
    · exact readBank_wf _ _ _ _ hy
    · exact hy
  · exact hy

theorem stagedWrite_wf (n : Nat) (h : Memory.wf s.mem = true) : Memory.wf (s.stagedWrite n).mem = true := by
  unfold State.stagedWrite
  dsimp only
  split
  · exact keepMem h
  · split
    · exact keepMem h
    · split
      · refine pushEntry_wf _ _ ?_
        exact keepMem h
      · exact keepMem h

theorem served3_wf (h : Memory.wf s.mem = true) : Memory.wf s.served3.mem = true := by
  unfold State.served3
  generalize List.range s.b.numRings = l
  induction l generalizing s with
  | nil => exact h
  | cons n l ih => exact ih (stagedWrite_wf n (stagedWrite_wf n h))

theorem stagedWrite_of_empty (n : Nat) (h : (s.b.ring n).staged = []) : s.stagedWrite n = s := by
  simp only [State.stagedWrite, h]

/-- With nothing staged QRE has nothing to serve before a word of the ports. -/
theorem served3_of_empty (h : ∀ n, n < s.b.numRings → (s.b.ring n).staged = []) : s.served3 = s := by
  unfold State.served3
  suffices ∀ l : List Nat, (∀ n ∈ l, (s.b.ring n).staged = []) →
      l.foldl (fun s n => (s.stagedWrite n).stagedWrite n) s = s from
    this _ (fun n hn => h n (List.mem_range.mp hn))
  intro l hl
  induction l with
  | nil => rfl
  | cons n l ih =>
    have e := stagedWrite_of_empty n (hl n (List.mem_cons_self ..))
    simp only [List.foldl_cons, e]
    exact ih (fun k hk => hl k (List.mem_cons_of_mem _ hk))

theorem spuPushWord_wf (w : Word) (h : Memory.wf s.mem = true) : Memory.wf (s.spuPushWord w).mem = true := by
  unfold State.spuPushWord
  dsimp only
  replace h := served3_wf h
  split
  · split
    · exact keepMem h
    · split
      · exact keepMem h
      · exact keepMem (pushEntry_wf _ _ (keepMem h))
  · exact keepMem h

theorem spuPopWord_wf (h : Memory.wf s.mem = true) : Memory.wf s.spuPopWord.2.mem = true := by
  unfold State.spuPopWord
  dsimp only
  replace h := served3_wf h
  split
  · split
    · exact sndMem (keepMem h)
    · next p t heq =>
      have ht : Memory.wf t.mem = true := by
        split at heq
        · cases heq
          exact h
        · split at heq
          · cases heq
          · cases heq
            exact entryAt_wf _ _ _ h
      split
      · exact sndMem (keepMem ht)
      · exact sndMem (keepMem ht)
  · exact sndMem (keepMem h)

/-! ## Records and images -/

theorem recordStore_wf (ws : List Word) {s : State} (a : Nat) (h : Memory.wf s.mem = true) : Memory.wf (s.recordStore a ws).mem = true := by
  induction ws generalizing s a with
  | nil => exact h
  | cons w ws ih =>
    unfold State.recordStore
    dsimp only
    refine ih _ ?_
    split
    · split
      · exact storeWord_wf _ _ _ _ h
      · exact keepMem h
    · exact h

theorem secWords_wf (n : Nat) {s : State} (a : Nat) (h : Memory.wf s.mem = true) : Memory.wf (s.secWords a n).2.mem = true := by
  induction n generalizing s a with
  | zero => exact h
  | succ n ih =>
    unfold State.secWords
    dsimp only
    refine ih _ ?_
    split
    · split
      · exact readBank_wf _ _ _ _ h
      · exact h
    · exact h

theorem copyPayload_wf (ws : List Word) {s : State} (a : Nat) (h : Memory.wf s.mem = true) : Memory.wf (s.copyPayload a ws).mem = true := by
  induction ws generalizing s a with
  | nil => exact h
  | cons w ws ih =>
    unfold State.copyPayload
    dsimp only
    refine ih _ ?_
    split
    · split
      · exact storeWord_wf _ _ _ _ h
      · exact keepMem h
    · exact h

/-! ## The register fabric -/

theorem busRead_wf (m : Master) (a x : Nat) (h : Memory.wf s.mem = true) : Memory.wf (s.busRead m a x).2.2.2.mem = true := by
  unfold State.busRead
  split
  · dsimp only
    split
    · exact keepMem h
    · split
      · exact spuPopWord_wf h
      · exact keepMem h
  · split
    · split
      · exact keepMem h
      · exact readBank_wf _ _ _ _ h
    · split
      · exact keepMem h
      · split
        · exact keepMem h
        · exact keepMem h

theorem regWrite_wf (m : Master) (x : Place) (w mask : Word) (h : Memory.wf s.mem = true) :
    Memory.wf (s.regWrite m x w mask).2.mem = true := by
  unfold State.regWrite
  simp only
  split
  · exact keepMem h
  · split
    · simpa only using spuPushWord_wf _ h
    · exact keepMem h

theorem refuseAt_wf (p o : Nat) (m : Master) (c : Nat) (h : Memory.wf s.mem = true) :
    Memory.wf (s.refuseAt p o m c).2.mem = true := by
  unfold State.refuseAt
  exact keepMem h

theorem busWrite_wf (m : Master) (a : Nat) (w mask : Word) (h : Memory.wf s.mem = true) :
    Memory.wf (s.busWrite m a w mask).2.mem = true := by
  unfold State.busWrite
  dsimp only
  split
  · exact regWrite_wf _ _ _ _ h
  · split
    · split
      · exact refuseAt_wf _ _ _ _ h
      · exact storeWord_wf _ _ _ _ h
    · split
      · split
        · exact refuseAt_wf _ _ _ _ h
        · simp only
          split
          · exact memPut_wf _ _ h
          · exact keepMem h
      · split
        · exact refuseAt_wf _ _ _ _ h
        · exact keepMem h

theorem regCommand_wf (m : Master) (a : Nat) (w : Word) (h : Memory.wf s.mem = true) : Memory.wf (s.regCommand m a w).mem = true := by
  unfold State.regCommand
  split
  · exact busWrite_wf _ _ _ _ h
  · exact keepMem h

end Sys2Proof.Machine
end

