-- ==== Sys2Proof/Laws/Same.lean ====
section
/-!
SUPPORT. Frames built one update at a time: a chain of register writes at addresses of a list leaves every other register, and everything
that is no register.
-/

namespace Sys2Proof.Machine

@[simp] theorem Block.noRegs_wr (b : Block) (r : Reg) (v : Word) (i j : Nat) : (b.wr r v i j).noRegs = b.noRegs := by
  simp only [Block.noRegs, Block.wr]

/-- The block after registers at addresses of `l` were written: nothing else changed. -/
structure Wrote (l : List Nat) (b c : Block) : Prop where
  shell : c.noRegs = b.noRegs
  rd : ∀ r i j, r.addr i j ∉ l → c.rd r i j = b.rd r i j

namespace Wrote

variable {l : List Nat} {b c : Block}

theorem refl (l : List Nat) (b : Block) : Wrote l b b := ⟨rfl, fun _ _ _ _ => rfl⟩

theorem trans {d : Block} (h : Wrote l b c) (k : Wrote l c d) : Wrote l b d :=
  ⟨k.shell.trans h.shell, fun r i j p => (k.rd r i j p).trans (h.rd r i j p)⟩

theorem wr (h : Wrote l b c) (q : Reg) (v : Word) (i j : Nat) (hm : q.addr i j ∈ l) : Wrote l b (c.wr q v i j) := by
  refine ⟨(Block.noRegs_wr c q v i j).trans h.shell, fun r k n p => ?_⟩
  rw [Block.rd_wr_ne c q r v i j k n (fun e => p (by rw [e]; exact hm))]
  exact h.rd r k n p

theorem put (h : Wrote l b c) (f : Fld) (v i j : Nat) (hm : f.reg.addr i j ∈ l) : Wrote l b (c.put f v i j) := h.wr _ _ _ _ hm

theorem flag (h : Wrote l b c) (f : Fld) (v : Bool) (i j : Nat) (hm : f.reg.addr i j ∈ l) : Wrote l b (c.flag f v i j) :=
  h.wr _ _ _ _ hm

theorem orBits (h : Wrote l b c) (f : Fld) (v i j : Nat) (hm : f.reg.addr i j ∈ l) : Wrote l b (c.orBits f v i j) := h.wr _ _ _ _ hm

theorem setMap (h : Wrote l b c) (f : Fld) (k : Nat) (v : Bool) (i j : Nat) (hm : f.reg.addr i j ∈ l) : Wrote l b (c.setMap f k v i j) :=
  h.wr _ _ _ _ hm

theorem wrapInc (h : Wrote l b c) (f : Fld) (i j : Nat) (hm : f.reg.addr i j ∈ l) : Wrote l b (c.wrapInc f i j) := h.wr _ _ _ _ hm

theorem evt (h : Wrote l b c) (p k : Nat) (hm : HDR.EVT_STAT.addr p 0 ∈ l) : Wrote l b (c.evt p k) := h.wr _ _ _ _ hm

theorem store (h : Wrote l b c) (r : Reg) (w : Word) (i j : Nat) (hm : r.addr i j ∈ l) : Wrote l b (c.store r w i j) := h.wr _ _ _ _ hm

theorem stamp (h : Wrote l b c) (lo hi : Reg) (i j : Nat) (hl : lo.addr i j ∈ l) (hh : hi.addr i j ∈ l) : Wrote l b (c.stamp lo hi i j) :=
  (h.wr _ _ _ _ hl).wr _ _ _ _ hh

theorem bump (h : Wrote l b c) (n o : Fld) (i j : Nat) (hn : n.reg.addr i j ∈ l) (ho : o.reg.addr i j ∈ l) : Wrote l b (c.bump n o i j) := by
  unfold Block.bump
  split
  · exact h.put _ _ _ _ ho
  · exact h.put _ _ _ _ hn

theorem each (h : Wrote l b c) (ns : List Nat) (f : Block → Nat → Block) (hf : ∀ d n, Wrote l d (f d n)) : Wrote l b (c.each ns f) := by
  unfold Block.each
  induction ns generalizing c with
  | nil => exact h
  | cons n ns ih => exact ih (h.trans (hf c n))

/-- A command that wrote registers only, as a frame of its state. -/
theorem only {s : State} (h : Wrote l s.b c) : OnlyRegs l s { s with b := c } := ⟨rfl, rfl, h.rd, h.shell⟩

/-- The same where more than registers is hidden. -/
theorem same {s : State} (h : Wrote l s.b c) (hide : Block → Block) (hh : hide c = hide s.b) : SameBut l hide s { s with b := c } :=
  ⟨rfl, rfl, h.rd, hh⟩

end Wrote

end Sys2Proof.Machine
end

