-- ==== Sys2Proof/WellFormed.lean ====
section
/-!
DEFINITION. Which commands name things that the largest device has (R1, R2, R81): units, pins, pages and addresses in range. `exec`
does not rest on it: an event of a unit that does not exist changes nothing, and a write to one reaches no register.
-/

namespace Sys2Proof

def legOk (n : Nat) : Bool := n < 64
def axisOk (n : Nat) : Bool := n < 24
def fbOk (n : Nat) : Bool := n < 24
def pcOk (n : Nat) : Bool := n < 32
def sesOk (n : Nat) : Bool := n < 4
def mbxOk (n : Nat) : Bool := n < 2
def ctxOk (n : Nat) : Bool := n < 160
def bankOk (n : Nat) : Bool := n < 44
def ringOk (n : Nat) : Bool := n < 64
def grpOk (n : Nat) : Bool := n < 8
def convOk (n : Nat) : Bool := n < 32
def busOk (n : Nat) : Bool := n < 8
def chOk (n : Nat) : Bool := n < 49
def wakePinOk (n : Nat) : Bool := n < 4
def pcoPinOk (n : Nat) : Bool := n < 8
def cmdPinOk (n : Nat) : Bool := n < 24
def tbOk (n : Nat) : Bool := n < 8
def dllOk (n : Nat) : Bool := n < 2
def canOk (n : Nat) : Bool := n < 2
def descOk (n : Nat) : Bool := n < 16
def degradeOk (n : Nat) : Bool := n < 3
def srcOk (n : Nat) : Bool := 0 < n && n < 0x4F
def pageOk (n : Nat) : Bool := n < 0x200
def addrOk (n : Nat) : Bool := n < 0x1000000
def stripeOk (n : Nat) : Bool := n < 5
def wirePairOk (n : Nat) : Bool := n < 3
def pairOk (n : Nat) : Bool := n < 4
def cfbOk (n : Nat) : Bool := n < 16
def hallOk (n : Nat) : Bool := n < 8
def opOk (n : Nat) : Bool := n < 16
def slacksOk (l : List Nat) : Bool := l.length == 16
/-- The bytes of data that a data length code stands for. -/
def canLen (f : CanFrame) : Nat :=
  if f.remote then 0 else if f.fd then [0, 1, 2, 3, 4, 5, 6, 7, 8, 12, 16, 20, 24, 32, 48, 64].getD f.dlc 0 else min 8 f.dlc
def canFrameOk (f : CanFrame) : Bool := f.dlc < 16 && f.data.length == canLen f && !(f.fd && f.remote) && f.crc < 2 ^ 21
def headerOk (l : List (BitVec 32)) : Bool := l.length == 64

/-- The operands of a command are in range. -/
def Instr.wf (i : Instr) : Bool :=
  match i with
  | .porstNAssert => true
  | .porstNRelease _ => true
  | .supplyRailChange _ _ => true
  | .vqpsChange _ => true
  | .startupArrayReadDone => true
  | .startupDigestsDone => true
  | .pllLock _ => true
  | .pllLockTimeout => true
  | .coreRelease => true
  | .pllCheckWindow _ _ => true
  | .pllLoss => true
  | .pllRelockAttempt => true
  | .nwCheckWindow _ => true
  | .avsEvaluate slacks => slacksOk slacks
  | .avsSettleElapsed => true
  | .modeRequest _ _ => true
  | .modeTransitionDone => true
  | .coreResetRequest _ _ => true
  | .dormantEntryComplete => true
  | .wakeInputChange pin _ => wakePinOk pin
  | .wakeQualified pin => wakePinOk pin
  | .wakeSettleElapsed => true
  | .bankGroupAwake => true
  | .wakeComplete => true
  | .otpRead _ _ => true
  | .otpProgram _ _ => true
  | .otpRestrike _ _ => true
  | .otpFinalise _ _ _ => true
  | .otpAdvance _ _ => true
  | .otpUnknownOp _ op _ => opOk op
  | .otpCommandDone _ _ => true
  | .hspRead _ _ _ => true
  | .hspWrite _ _ => true
  | .hspWriteMasked _ _ => true
  | .hspStatus _ _ => true
  | .hspIdent _ _ => true
  | .hspRingPush _ _ => true
  | .hspRingPop _ _ => true
  | .debugEnter _ => true
  | .debugChallenge _ _ => true
  | .hspBadCommand _ _ _ => true
  | .hspShortFrame _ _ _ _ => true
  | .hspSelectTimeout _ _ _ _ => true
  | .counterLowRead _ addr => addrOk addr
  | .pageLock _ page _ => pageOk page
  | .registerWrite _ addr _ => addrOk addr
  | .xspDescriptorArm _ n _ => descOk n
  | .xspEphemerisFire n => descOk n
  | .xspGo _ _ => true
  | .xspSwTransferStart => true
  | .xspTransferDone _ _ => true
  | .firmwareLoad header _ _ => headerOk header
  | .flashRetry => true
  | .bootLoad _ _ => true
  | .authDone => true
  | .ethFrameReceived _ => true
  | .ethTransmitStart => true
  | .ethTransmitDone => true
  | .mdioGo _ _ => true
  | .mdioPoll => true
  | .mdioFrameDone _ => true
  | .canFrameReceived c f => canOk c && canFrameOk f
  | .canTransmitStart c => canOk c
  | .canTransmitDone c _ => canOk c
  | .canBusOffRecovery c => canOk c
  | .canRecover _ c _ => canOk c
  | .tbStart _ k _ => tbOk k
  | .tbFirstMeridian k => tbOk k
  | .tbStop _ k _ => tbOk k
  | .tbGo _ k _ => tbOk k
  | .constellationTick k _ => tbOk k
  | .legWindowOpen leg => legOk leg
  | .legCommit leg _ => legOk leg
  | .legGo _ leg => legOk leg
  | .groupGo _ _ _ => true
  | .legEdge leg _ => legOk leg
  | .interlockTurnOn leg _ => legOk leg
  | .egaInterlock x => legOk x.leg
  | .dllLock g => dllOk g
  | .dllUnlock g => dllOk g
  | .dllCodeUpdate g _ => dllOk g
  | .legTrimMeasure leg _ => legOk leg
  | .overcurrentTrip leg _ => legOk leg
  | .blankingEnd leg _ _ => legOk leg
  | .hardOvercurrentTrip x => legOk x.leg
  | .fltNChange leg _ => legOk leg
  | .legDriverFault leg => legOk leg
  | .legFaultRelease _ leg _ => legOk leg
  | .nodeCrossing leg _ _ _ => legOk leg
  | .edgeSenseWindowEnd x => legOk x.leg
  | .nodeStuckTimeout leg => legOk leg
  | .servoClear _ leg _ => legOk leg
  | .sampleHold axis _ => axisOk axis
  | .conversionDone conv _ => convOk conv
  | .converterSelftest conv _ _ => convOk conv
  | .converterSelftestSkip conv => convOk conv
  | .busConversionDone bus _ => busOk bus
  | .hkConversionDone ch _ => chOk ch
  | .mbxCreate _ mbx => mbxOk mbx
  | .mbxDestroy _ mbx => mbxOk mbx
  | .mbxReform _ mbx => mbxOk mbx
  | .mbxCheck _ mbx => mbxOk mbx
  | .mbxBadOp _ mbx op => mbxOk mbx && opOk op
  | .mbxQueuedStart mbx => mbxOk mbx
  | .axisCommitMeridian axis => axisOk axis
  | .axisDestroyMeridian axis => axisOk axis
  | .axisReformMeridian axis => axisOk axis
  | .mailboxDone mbx => mbxOk mbx
  | .cmdPinMeasure pin _ _ => cmdPinOk pin
  | .cmdLoss pin => cmdPinOk pin
  | .cmdPinRecover pin => cmdPinOk pin
  | .loopRunStart ctx => ctxOk ctx
  | .loopRunComplete ctx _ => ctxOk ctx
  | .lcSwap _ ctx _ => ctxOk ctx
  | .lcXfer _ ctx _ => ctxOk ctx
  | .lcRampRestart _ ctx _ => ctxOk ctx
  | .ctxScrub addr _ => addrOk addr
  | .storeScrub addr _ => addrOk addr
  | .coverPlanDone => true
  | .axCmdStart _ axis _ => axisOk axis
  | .axCmdStop _ axis _ => axisOk axis
  | .axCmdCoast _ axis _ => axisOk axis
  | .axCmdBrakeAsc _ axis _ => axisOk axis
  | .axCmdBrakeDc _ axis _ => axisOk axis
  | .axCmdBadOp _ axis _ => axisOk axis
  | .axisCommandAct axis => axisOk axis
  | .catchTimeout axis => axisOk axis
  | .hfiTimeout axis => axisOk axis
  | .alignDone axis => axisOk axis
  | .relockTimeout axis => axisOk axis
  | .rideTimeout axis => axisOk axis
  | .cfuStall axis => axisOk axis
  | .dcTimeout axis => axisOk axis
  | .holdTimeout axis => axisOk axis
  | .quadCount fb _ _ => fbOk fb
  | .indexEvent fb => fbOk fb
  | .hallTransition fb h => fbOk fb && hallOk h
  | .wireDisagree fb pair _ => fbOk fb && wirePairOk pair
  | .ssiTrigger fb => fbOk fb
  | .ssiReadingDone fb _ => fbOk fb
  | .fbFreeLatch fb => fbOk fb
  | .speedZeroTimeout fb => fbOk fb
  | .pcTargetWrite _ pc _ => pcOk pc
  | .pcDisarm _ pc _ => pcOk pc
  | .pcoPulseEnd pin => pcoPinOk pin
  | .fbRearm _ fb _ => fbOk fb
  | .fbHomeArm _ fb _ => fbOk fb
  | .sesArm _ ses _ => sesOk ses
  | .sesTrig _ ses _ => sesOk ses
  | .sesStop _ ses _ => sesOk ses
  | .sesClear _ ses _ => sesOk ses
  | .tcuRecordWrite ses => sesOk ses
  | .bankInitDone bank => bankOk bank
  | .bankScrub addr _ => addrOk addr
  | .stripeEnable _ _ => true
  | .stripeRecomputeDone stripe => stripeOk stripe
  | .bankHandover _ bank _ => bankOk bank
  | .bankHandoverTakeEffect bank => bankOk bank
  | .bankTwilight _ bank _ => bankOk bank
  | .bankWake _ bank _ => bankOk bank
  | .bankReady bank => bankOk bank
  | .quarantineScrubDone bank => bankOk bank
  | .rgCreate _ ring _ => ringOk ring
  | .rgDestroy _ ring _ => ringOk ring
  | .rgThaw _ ring _ => ringOk ring
  | .spuRhWrite _ _ => true
  | .spuRingPushWord _ _ => true
  | .spuRingPopWord _ => true
  | .ringStagedEntryWrite ring => ringOk ring
  | .fcrSourceRaised r => srcOk r.src
  | .spuLockstep => true
  | .spuWatchdog => true
  | .watchdogKick _ _ => true
  | .escWindowExpire src => srcOk src
  | .srcCountClear _ src _ => srcOk src
  | .fenceRequest _ _ => true
  | .unfence _ _ => true
  | .unfenceCheckDone _ => true
  | .haltClear _ _ => true
  | .axisRelease _ _ => true
  | .firstClear _ _ => true
  | .swRaise _ _ => true
  | .degradeClear _ n _ => degradeOk n
  | .stoWireFiltered pair _ _ => pairOk pair
  | .stoDiscrepancy pair => pairOk pair
  | .shlAck _ _ => true
  | .ss1Timeout grp => grpOk grp
  | .speedWindowEnd grp => grpOk grp
  | .shlCount ch taps => fbOk ch && decide (taps.hall < 8)
  | .shlEnc (.wire ch) | .shlEnc (.hall ch) => fbOk ch
  | .cfbTransitionEnd cdr => grpOk cdr
  | .shlCfb cdr => grpOk cdr
  | .cdrDropDelay cdr => grpOk cdr
  | .cdrRequest _ _ => true
  | .pllRelease _ _ => true
  | .futraCopy _ _ _ => true
  | .futraSkewTimeout _ => true
  | .futraTimeout => true
  | .pchBeat _ _ => true
  | .pchLost => true
  | .pchRequest _ _ => true
  | .pchCheckWrite _ _ => true
  | .shlCheckDone => true
  | .swapWindowTimeout => true
  | .shlSelfcheck => true
  | .lifecycleArm _ _ => true
  | .debugVerifyDone => true
  | .challengeExpire => true
  | .swapCheck _ _ => true
  | .swapCheckDone => true
  | .swapGo _ _ => true
  | .jtagIdcode => true
  | .jtagSamplePreload => true
  | .jtagExtest => true
  | .jtagClamp => true
  | .jtagHighz => true
  | .jtagDtmcs => true
  | .jtagDmi _ _ _ => true
  | .jtagBypass _ => true
  | .debugHalt => true
  | .debugResume => true
  | .ndmreset => true
  | .timeStampWrap => true
  | .cfbInputChange cfb _ => cfbOk cfb
  | .shlTapsValid ch => fbOk ch
  | .spuBankAccess write width addr _ _ => addrOk addr && !(write && width == .fetch)
  | .mailboxChecksComplete mbx => mbxOk mbx
  | .canBusError c _ => canOk c
  | .canBusIntegration c => canOk c

end Sys2Proof
end

