-- ==== Sys2Proof/Tests/Slice0.lean ====
section
/-!
SUPPORT. The model's own tests: what WellFormed refuses, and, for every statement that has hypotheses, states and operands that meet
them.
-/

namespace Sys2Proof.Tests

open Sys2Proof.Machine

/-- A running block in a mode, with fields put: each with its value, the unit of its page and its element. -/
def blk (mode : Nat) (l : List (Fld × Nat × Nat × Nat)) : Block :=
  l.foldl (fun b x => b.put x.1 x.2.1 x.2.2.1 x.2.2.2)
    (({ ts := 1000, crm := { phase := .run, porstLow := false } } : Block).put CRM.MODE_CUR mode)

/-- A clause over what an empty option holds. -/
theorem none_elim {α : Type} {x : Option α} (hx : x.isNone = true) {p : α → Prop} : ∀ q, x = some q → p q := by
  intro q h
  simp [h] at hx

/-- A Futra PDU for a connection, with its check, where SHL_CHECK is zero. -/
def pdu (conn seq : Nat) : List Byte :=
  let p := [0x10, BitVec.ofNat 8 conn, BitVec.ofNat 8 (seq / 256), BitVec.ofNat 8 seq] ++ List.replicate 8 (0 : Byte)
  p ++ bytesBE (crc32c 0 p)


/-- States and operands that meet the hypotheses of IdleTick. -/
theorem witness_idleTick :
    (∃ s : State, s.pending = [] ∧ s.b.wires = [] ∧ s.b.ts ≠ BitVec.allOnes 64 ∧ s.b.spuRuns = false) ∧
    (∃ s : State, s.pending = [] ∧ s.b.wires = [] ∧ s.b.ts ≠ BitVec.allOnes 64 ∧ s.b.spuRuns = true) :=
  ⟨⟨⟨{ blk 1 [(SEC.SEC_STAT_HALTED, 1, 0, 0)] with ts := BitVec.allOnes 64 - 1 }, [], []⟩, by decide⟩,
   ⟨⟨{ blk 1 [] with ts := BitVec.allOnes 64 - 1 }, [], []⟩, by decide⟩⟩

/-- States and operands that meet the hypotheses of MemoryFrame. -/
theorem witness_memoryFrame :
    (∃ c : Instr, touchesMemory c = false) :=
  ⟨.porstNAssert, by decide⟩

/-- States and operands that meet the hypotheses of StepKeepsMemoryForm. -/
theorem witness_stepKeepsMemoryForm :
    (∃ s : State, ∃ t : State, Memory.wf s.mem = true ∧ step s = .next t) :=
  ⟨State.reset, State.reset, by decide, rfl⟩

/-- States and operands that meet the hypotheses of StepKeepsLegsExclusive. -/
theorem witness_stepKeepsLegsExclusive :
    (∃ s : State, ∃ t : State, s.b.exclusive ∧ step s = .next t) :=
  ⟨State.reset, State.reset, fun _ h => Bool.noConfusion h.1, rfl⟩

/-- States and operands that meet the hypotheses of StepKeepsRegisterForm. -/
theorem witness_stepKeepsRegisterForm :
    (∃ s : State, ∃ t : State, s.b.regsRising ∧ step s = .next t) :=
  ⟨State.reset, State.reset, List.Pairwise.nil, rfl⟩

/-- States and operands that meet the hypotheses of ResetState. -/
theorem witness_resetState :
    (∃ g : Nat, g < 8) :=
  ⟨7, by decide⟩

/-- States and operands that meet the hypotheses of ClocksAndPins. -/
theorem witness_clocksAndPins :
    (∃ s : State, s.b.crm.porstLow = true ∧ s.b.crm.vddOk = true ∧ s.b.crm.vddaOk = true ∧ s.b.crm.vddio18Ok = true) ∧
    (∃ s : State, ∃ rail : Rail, rail ≠ .vddio33 ∧ s.b.crm.phase ≠ .held) ∧
    (∃ s : State, s.b.otp.run = none) ∧
    (∃ s : State, ∃ cycles, s.b.crm.phase = .pllWait ∧ cycles ≤ 4000) ∧
    (∃ s : State, s.b.crm.phase = .pllWait) ∧
    (∃ s : State, s.b.crm.phase = .lossWait) ∧
    (∃ s : State, ∃ count, ∃ nw, s.b.crm.phase = .run ∧ nw ≤ 2 ∧ (12 ≤ count ∧ count ≤ 20 ∨ s.b.crm.pllBad = false)) ∧
    (∃ s : State, ∃ count, ∃ nw, s.b.crm.phase = .run ∧ nw ≤ 2 ∧ (12 ≤ count ∧ count ≤ 20 ∨ s.b.crm.pllBad = false)) ∧
    (∃ s : State, ∃ count, s.b.running = true ∧ 148 ≤ count ∧ count ≤ 180) ∧
    (∃ s : State, ∃ count, s.b.running = true ∧ 148 ≤ count ∧ count ≤ 180) ∧
    (∃ s : State, ∃ count, s.b.running = true ∧ s.b.crm.nwBad = true ∧ (count < 148 ∨ 180 < count)) ∧
    (∃ s : State, ∃ x : Nat, ∃ xs : List Nat, ∃ n : Nat, s.b.running = true ∧ s.b.on CRM.AVS_CFG_EN = true ∧ xs.length < 16 ∧ n = xs.foldl
      min x ∧ 4 ≤ n ∧ s.b.crm.avsSettling = false ∧ n < s.b.get CRM.AVS_SLACK_SLACK_LO ∧ s.b.get CRM.AVS_CFG_VID_MIN ≤ s.b.get
      CRM.AVS_STAT_VID_NOW ∧ s.b.get CRM.AVS_STAT_VID_NOW < s.b.get CRM.AVS_CFG_VID_MAX) ∧
    (∃ s : State, ∃ x : Nat, ∃ xs : List Nat, ∃ n : Nat, s.b.running = true ∧ s.b.on CRM.AVS_CFG_EN = true ∧ xs.length < 16 ∧ n = xs.foldl
      min x ∧ 4 ≤ n ∧ s.b.get CRM.AVS_SLACK_SLACK_LO ≤ n ∧ s.b.get CRM.AVS_SLACK_SLACK_HI < n ∧ (s.b.crm.avsSettling = true ∨
      s.b.crm.avsHigh + 1 < 64 ∨ s.b.get CRM.AVS_STAT_VID_NOW ≤ s.b.get CRM.AVS_CFG_VID_MIN)) ∧
    (∃ s : State, ∃ x : Nat, ∃ xs : List Nat, ∃ n : Nat, s.b.running = true ∧ s.b.on CRM.AVS_CFG_EN = true ∧ xs.length < 16 ∧ n = xs.foldl
      min x ∧ 4 ≤ n ∧ s.b.get CRM.AVS_SLACK_SLACK_LO ≤ n ∧ s.b.get CRM.AVS_SLACK_SLACK_HI < n ∧ (s.b.crm.avsSettling = true ∨
      s.b.crm.avsHigh + 1 < 64 ∨ s.b.get CRM.AVS_STAT_VID_NOW ≤ s.b.get CRM.AVS_CFG_VID_MIN)) ∧
    (∃ s : State, ∃ x : Nat, ∃ xs : List Nat, ∃ n : Nat, s.b.running = true ∧ s.b.on CRM.AVS_CFG_EN = true ∧ xs.length < 16 ∧ n = xs.foldl
      min x ∧ 4 ≤ n ∧ s.b.get CRM.AVS_SLACK_SLACK_LO ≤ n ∧ s.b.get CRM.AVS_SLACK_SLACK_HI < n ∧ (s.b.crm.avsSettling = true ∨
      s.b.crm.avsHigh + 1 < 64 ∨ s.b.get CRM.AVS_STAT_VID_NOW ≤ s.b.get CRM.AVS_CFG_VID_MIN)) ∧
    (∃ s : State, ∃ x : Nat, ∃ xs : List Nat, ∃ n : Nat, s.b.running = true ∧ s.b.on CRM.AVS_CFG_EN = true ∧ xs.length < 16 ∧ n = xs.foldl
      min x ∧ 4 ≤ n ∧ s.b.get CRM.AVS_SLACK_SLACK_LO ≤ n ∧ s.b.get CRM.AVS_SLACK_SLACK_HI < n ∧ s.b.crm.avsSettling = false ∧ 64 ≤
      s.b.crm.avsHigh + 1 ∧ s.b.get CRM.AVS_CFG_VID_MIN < s.b.get CRM.AVS_STAT_VID_NOW) ∧
    (∃ s : State, ∃ x : Nat, ∃ xs : List Nat, ∃ n : Nat, s.b.running = true ∧ s.b.on CRM.AVS_CFG_EN = true ∧ xs.length < 16 ∧ n = xs.foldl
      min x ∧ s.b.mode ≠ 5 ∧ s.b.fenced 1 = false ∧ n < 4) ∧
    (∃ s : State, ∃ x : Nat, ∃ xs : List Nat, ∃ n : Nat, s.b.running = true ∧ s.b.on CRM.AVS_CFG_EN = true ∧ xs.length < 16 ∧ n = xs.foldl
      min x ∧ s.b.mode ≠ 5 ∧ s.b.fenced 1 = false ∧ n < s.b.get CRM.AVS_SLACK_SLACK_LO ∧ s.b.get CRM.AVS_STAT_VID_NOW = s.b.get
      CRM.AVS_CFG_VID_MAX) ∧
    (∃ s : State, s.b.running = true) :=
  ⟨⟨State.reset, by decide⟩,
   ⟨⟨(blk 1 []), [], []⟩, .vdd, by decide⟩,
   ⟨⟨(blk 1 []), [], []⟩, by decide⟩,
   ⟨⟨{ blk 1 [] with crm := { phase := .pllWait, porstLow := false } }, [], []⟩, 4000, by decide⟩,
   ⟨⟨{ blk 1 [] with crm := { phase := .pllWait, porstLow := false } }, [], []⟩, by decide⟩,
   ⟨⟨{ blk 1 [] with crm := { phase := .lossWait, porstLow := false } }, [], []⟩, by decide⟩,
   ⟨⟨(blk 1 []), [], []⟩, 21, 2, by decide⟩,
   ⟨⟨{ blk 1 [] with crm := { phase := .run, porstLow := false, pllBad := true } }, [], []⟩, 20, 2, by decide⟩,
   ⟨⟨(blk 1 []), [], []⟩, 180, by decide⟩,
   ⟨⟨(blk 1 []), [], []⟩, 148, by decide⟩,
   ⟨⟨{ blk 1 [] with crm := { phase := .run, porstLow := false, nwBad := true } }, [], []⟩, 147, by decide⟩,
   ⟨⟨(blk 1 [(CRM.AVS_CFG_EN, 1, 0, 0), (CRM.AVS_SLACK_SLACK_LO, 5, 0, 0), (CRM.AVS_SLACK_SLACK_HI, 9, 0, 0), (CRM.AVS_CFG_VID_MIN, 8, 0,
     0), (CRM.AVS_CFG_VID_MAX, 12, 0, 0), (CRM.AVS_STAT_VID_NOW, 8, 0, 0)]), [], []⟩, 7, [4], 4, by decide⟩,
   ⟨⟨{ blk 1 [(CRM.AVS_CFG_EN, 1, 0, 0), (CRM.AVS_SLACK_SLACK_LO, 5, 0, 0), (CRM.AVS_SLACK_SLACK_HI, 9, 0, 0), (CRM.AVS_CFG_VID_MIN, 8, 0, 0), (CRM.AVS_CFG_VID_MAX, 12, 0, 0), (CRM.AVS_STAT_VID_NOW, 9, 0, 0)] with crm := { phase := .run, porstLow := false, avsHigh := 62, avsSettling := false } },
     [], []⟩, 10, [], 10, by decide⟩,
   ⟨⟨{ blk 1 [(CRM.AVS_CFG_EN, 1, 0, 0), (CRM.AVS_SLACK_SLACK_LO, 5, 0, 0), (CRM.AVS_SLACK_SLACK_HI, 9, 0, 0), (CRM.AVS_CFG_VID_MIN, 8, 0, 0), (CRM.AVS_CFG_VID_MAX, 12, 0, 0), (CRM.AVS_STAT_VID_NOW, 9, 0, 0)] with crm := { phase := .run, porstLow := false, avsHigh := 63, avsSettling := true } },
     [], []⟩, 10, [], 10, by decide⟩,
   ⟨⟨{ blk 1 [(CRM.AVS_CFG_EN, 1, 0, 0), (CRM.AVS_SLACK_SLACK_LO, 5, 0, 0), (CRM.AVS_SLACK_SLACK_HI, 9, 0, 0), (CRM.AVS_CFG_VID_MIN, 8, 0, 0), (CRM.AVS_CFG_VID_MAX, 12, 0, 0), (CRM.AVS_STAT_VID_NOW, 8, 0, 0)] with crm := { phase := .run, porstLow := false, avsHigh := 63, avsSettling := false } },
     [], []⟩, 10, [], 10, by decide⟩,
   ⟨⟨{ blk 1 [(CRM.AVS_CFG_EN, 1, 0, 0), (CRM.AVS_SLACK_SLACK_LO, 5, 0, 0), (CRM.AVS_SLACK_SLACK_HI, 9, 0, 0), (CRM.AVS_CFG_VID_MIN, 8, 0, 0), (CRM.AVS_CFG_VID_MAX, 12, 0, 0), (CRM.AVS_STAT_VID_NOW, 9, 0, 0)] with crm := { phase := .run, porstLow := false, avsHigh := 63, avsSettling := false } },
     [], []⟩, 11, [10], 10, by decide⟩,
   ⟨⟨(blk 1 [(CRM.AVS_CFG_EN, 1, 0, 0), (CRM.AVS_SLACK_SLACK_LO, 5, 0, 0), (CRM.AVS_SLACK_SLACK_HI, 9, 0, 0), (CRM.AVS_CFG_VID_MIN, 8, 0,
     0), (CRM.AVS_CFG_VID_MAX, 12, 0, 0), (CRM.AVS_STAT_VID_NOW, 9, 0, 0)]), [], []⟩, 11, [3], 3, by decide⟩,
   ⟨⟨(blk 1 [(CRM.AVS_CFG_EN, 1, 0, 0), (CRM.AVS_SLACK_SLACK_LO, 5, 0, 0), (CRM.AVS_SLACK_SLACK_HI, 9, 0, 0), (CRM.AVS_CFG_VID_MIN, 8, 0,
     0), (CRM.AVS_CFG_VID_MAX, 12, 0, 0), (CRM.AVS_STAT_VID_NOW, 12, 0, 0)]), [], []⟩, 11, [4], 4, by decide⟩,
   ⟨⟨{ blk 1 [] with ts := BitVec.allOnes 64 }, [], []⟩, by decide⟩⟩

/-- States and operands that meet the hypotheses of ModeRequests. -/
theorem witness_modeRequests :
    (∃ s : State, ∃ m : Master, ∃ w : Word, ∃ t5 : Bool, s.writable m 1 = true ∧ s.b.on CRM.MODE_BUSY = false ∧ t5 = ((s.b.mode == 1 ||
      (s.b.mode == 4 && !s.b.on FCR.HALT_CAUSE_PENDING)) && CRM.MODE_REQ_TARGET.of w == 5) ∧ ((s.b.mode = 1 ∨ s.b.mode = 2 ∨ s.b.mode = 3) ∧
      CRM.MODE_REQ_TARGET.of w = 4) ∨ (s.b.mode = 4 ∧ CRM.MODE_REQ_TARGET.of w = 1 ∧ s.b.on FCR.HALT_CAUSE_PENDING = false) ∨ ((s.b.mode = 2
      ∨ s.b.mode = 3) ∧ CRM.MODE_REQ_TARGET.of w = 1 ∧ s.b.energised = false)) ∧
    (∃ s : State, ∃ m : Master, ∃ w : Word, ∃ t5 : Bool, s.writable m 1 = true ∧ s.b.on CRM.MODE_BUSY = false ∧ t5 = ((s.b.mode == 1 ||
      (s.b.mode == 4 && !s.b.on FCR.HALT_CAUSE_PENDING)) && CRM.MODE_REQ_TARGET.of w == 5) ∧ ((s.b.mode = 1 ∨ s.b.mode = 2 ∨ s.b.mode = 3) ∧
      CRM.MODE_REQ_TARGET.of w = 4) ∨ (s.b.mode = 4 ∧ CRM.MODE_REQ_TARGET.of w = 1 ∧ s.b.on FCR.HALT_CAUSE_PENDING = false) ∨ ((s.b.mode = 2
      ∨ s.b.mode = 3) ∧ CRM.MODE_REQ_TARGET.of w = 1 ∧ s.b.energised = false)) ∧
    (∃ s : State, ∃ m : Master, ∃ w : Word, ∃ t5 : Bool, s.writable m 1 = true ∧ s.b.on CRM.MODE_BUSY = false ∧ t5 = ((s.b.mode == 1 ||
      (s.b.mode == 4 && !s.b.on FCR.HALT_CAUSE_PENDING)) && CRM.MODE_REQ_TARGET.of w == 5) ∧ ((s.b.mode = 1 ∨ s.b.mode = 2 ∨ s.b.mode = 3) ∧
      CRM.MODE_REQ_TARGET.of w = 4) ∨ (s.b.mode = 4 ∧ CRM.MODE_REQ_TARGET.of w = 1 ∧ s.b.on FCR.HALT_CAUSE_PENDING = false) ∨ ((s.b.mode = 2
      ∨ s.b.mode = 3) ∧ CRM.MODE_REQ_TARGET.of w = 1 ∧ s.b.energised = false)) ∧
    (∃ s : State, ∃ m : Master, ∃ w : Word, ∃ t5 : Bool, s.writable m 1 = true ∧ s.b.on CRM.MODE_BUSY = false ∧ t5 = ((s.b.mode == 1 ||
      (s.b.mode == 4 && !s.b.on FCR.HALT_CAUSE_PENDING)) && CRM.MODE_REQ_TARGET.of w == 5) ∧ ((s.b.mode = 1 ∨ s.b.mode = 2 ∨ s.b.mode = 3) ∧
      CRM.MODE_REQ_TARGET.of w = 4) ∨ (s.b.mode = 4 ∧ CRM.MODE_REQ_TARGET.of w = 1 ∧ s.b.on FCR.HALT_CAUSE_PENDING = false) ∨ ((s.b.mode = 2
      ∨ s.b.mode = 3) ∧ CRM.MODE_REQ_TARGET.of w = 1 ∧ s.b.energised = false)) ∧
    (∃ s : State, ∃ m : Master, ∃ w : Word, ∃ t5 : Bool, s.writable m 1 = true ∧ s.b.on CRM.MODE_BUSY = false ∧ t5 = ((s.b.mode == 1 ||
      (s.b.mode == 4 && !s.b.on FCR.HALT_CAUSE_PENDING)) && CRM.MODE_REQ_TARGET.of w == 5) ∧ ((s.b.mode = 1 ∨ s.b.mode = 2 ∨ s.b.mode = 3) ∧
      CRM.MODE_REQ_TARGET.of w = 4) ∨ (s.b.mode = 4 ∧ CRM.MODE_REQ_TARGET.of w = 1 ∧ s.b.on FCR.HALT_CAUSE_PENDING = false) ∨ ((s.b.mode = 2
      ∨ s.b.mode = 3) ∧ CRM.MODE_REQ_TARGET.of w = 1 ∧ s.b.energised = false)) ∧
    (∃ s : State, ∃ m : Master, ∃ w : Word, ∃ t5 : Bool, s.writable m 1 = true ∧ s.b.on CRM.MODE_BUSY = false ∧ t5 = ((s.b.mode == 1 ||
      (s.b.mode == 4 && !s.b.on FCR.HALT_CAUSE_PENDING)) && CRM.MODE_REQ_TARGET.of w == 5) ∧ (s.b.mode = 1 ∨ (s.b.mode = 4 ∧ s.b.on
      FCR.HALT_CAUSE_PENDING = false)) ∧ CRM.MODE_REQ_TARGET.of w = 2 ∧ s.b.on SHL.SHL_STAT_CONFIRMED = true) ∧
    (∃ s : State, ∃ m : Master, ∃ w : Word, ∃ t5 : Bool, s.writable m 1 = true ∧ s.b.on CRM.MODE_BUSY = false ∧ t5 = ((s.b.mode == 1 ||
      (s.b.mode == 4 && !s.b.on FCR.HALT_CAUSE_PENDING)) && CRM.MODE_REQ_TARGET.of w == 5) ∧ (s.b.mode = 1 ∨ (s.b.mode = 4 ∧ s.b.on
      FCR.HALT_CAUSE_PENDING = false)) ∧ CRM.MODE_REQ_TARGET.of w = 2 ∧ s.b.on SHL.SHL_STAT_CONFIRMED = true) ∧
    (∃ s : State, ∃ m : Master, ∃ w : Word, ∃ t5 : Bool, s.writable m 1 = true ∧ s.b.on CRM.MODE_BUSY = false ∧ t5 = ((s.b.mode == 1 ||
      (s.b.mode == 4 && !s.b.on FCR.HALT_CAUSE_PENDING)) && CRM.MODE_REQ_TARGET.of w == 5) ∧ t5 = true ∧ s.b.energised = false ∧ s.b.get
      CRM.WAKE_CFG_EN ≠ 0 ∧ s.b.cfuBusy = false) ∧
    (∃ s : State, ∃ m : Master, ∃ w : Word, ∃ t5 : Bool, s.writable m 1 = true ∧ s.b.on CRM.MODE_BUSY = false ∧ t5 = ((s.b.mode == 1 ||
      (s.b.mode == 4 && !s.b.on FCR.HALT_CAUSE_PENDING)) && CRM.MODE_REQ_TARGET.of w == 5) ∧ t5 = true ∧ s.b.energised = false ∧ s.b.get
      CRM.WAKE_CFG_EN ≠ 0 ∧ s.b.cfuBusy = false) ∧
    (∃ s : State, ∃ m : Master, ∃ w : Word, ∃ t5 : Bool, ∃ code : Nat, s.writable m 1 = true ∧ s.b.on CRM.MODE_BUSY = false ∧ t5 =
      ((s.b.mode == 1 || (s.b.mode == 4 && !s.b.on FCR.HALT_CAUSE_PENDING)) && CRM.MODE_REQ_TARGET.of w == 5) ∧ (code = 1 ∧ (s.b.mode,
      CRM.MODE_REQ_TARGET.of w) ∉ modePairs) ∨ (code = 2 ∧ (s.b.mode = 1 ∨ (s.b.mode = 4 ∧ s.b.on FCR.HALT_CAUSE_PENDING = false)) ∧
      CRM.MODE_REQ_TARGET.of w = 2 ∧ s.b.on SHL.SHL_STAT_CONFIRMED = false) ∨ (code = 3 ∧ s.b.energised = true ∧ (t5 = true ∨ ((s.b.mode = 2
      ∨ s.b.mode = 3) ∧ CRM.MODE_REQ_TARGET.of w = 1))) ∨ (code = 4 ∧ s.b.mode = 4 ∧ s.b.on FCR.HALT_CAUSE_PENDING = true ∧
      (CRM.MODE_REQ_TARGET.of w = 1 ∨ CRM.MODE_REQ_TARGET.of w = 2 ∨ CRM.MODE_REQ_TARGET.of w = 5)) ∨ (code = 5 ∧ t5 = true ∧ s.b.energised
      = false ∧ s.b.get CRM.WAKE_CFG_EN ≠ 0 ∧ s.b.cfuBusy = true) ∨ (code = 6 ∧ t5 = true ∧ s.b.energised = false ∧ s.b.get CRM.WAKE_CFG_EN
      = 0)) ∧
    (∃ s : State, ∃ m : Master, ∃ w : Word, ∃ t5 : Bool, ∃ code : Nat, s.writable m 1 = true ∧ s.b.on CRM.MODE_BUSY = false ∧ t5 =
      ((s.b.mode == 1 || (s.b.mode == 4 && !s.b.on FCR.HALT_CAUSE_PENDING)) && CRM.MODE_REQ_TARGET.of w == 5) ∧ (code = 1 ∧ (s.b.mode,
      CRM.MODE_REQ_TARGET.of w) ∉ modePairs) ∨ (code = 2 ∧ (s.b.mode = 1 ∨ (s.b.mode = 4 ∧ s.b.on FCR.HALT_CAUSE_PENDING = false)) ∧
      CRM.MODE_REQ_TARGET.of w = 2 ∧ s.b.on SHL.SHL_STAT_CONFIRMED = false) ∨ (code = 3 ∧ s.b.energised = true ∧ (t5 = true ∨ ((s.b.mode = 2
      ∨ s.b.mode = 3) ∧ CRM.MODE_REQ_TARGET.of w = 1))) ∨ (code = 4 ∧ s.b.mode = 4 ∧ s.b.on FCR.HALT_CAUSE_PENDING = true ∧
      (CRM.MODE_REQ_TARGET.of w = 1 ∨ CRM.MODE_REQ_TARGET.of w = 2 ∨ CRM.MODE_REQ_TARGET.of w = 5)) ∨ (code = 5 ∧ t5 = true ∧ s.b.energised
      = false ∧ s.b.get CRM.WAKE_CFG_EN ≠ 0 ∧ s.b.cfuBusy = true) ∨ (code = 6 ∧ t5 = true ∧ s.b.energised = false ∧ s.b.get CRM.WAKE_CFG_EN
      = 0)) ∧
    (∃ s : State, ∃ m : Master, ∃ w : Word, ∃ t5 : Bool, ∃ code : Nat, s.writable m 1 = true ∧ s.b.on CRM.MODE_BUSY = false ∧ t5 =
      ((s.b.mode == 1 || (s.b.mode == 4 && !s.b.on FCR.HALT_CAUSE_PENDING)) && CRM.MODE_REQ_TARGET.of w == 5) ∧ (code = 1 ∧ (s.b.mode,
      CRM.MODE_REQ_TARGET.of w) ∉ modePairs) ∨ (code = 2 ∧ (s.b.mode = 1 ∨ (s.b.mode = 4 ∧ s.b.on FCR.HALT_CAUSE_PENDING = false)) ∧
      CRM.MODE_REQ_TARGET.of w = 2 ∧ s.b.on SHL.SHL_STAT_CONFIRMED = false) ∨ (code = 3 ∧ s.b.energised = true ∧ (t5 = true ∨ ((s.b.mode = 2
      ∨ s.b.mode = 3) ∧ CRM.MODE_REQ_TARGET.of w = 1))) ∨ (code = 4 ∧ s.b.mode = 4 ∧ s.b.on FCR.HALT_CAUSE_PENDING = true ∧
      (CRM.MODE_REQ_TARGET.of w = 1 ∨ CRM.MODE_REQ_TARGET.of w = 2 ∨ CRM.MODE_REQ_TARGET.of w = 5)) ∨ (code = 5 ∧ t5 = true ∧ s.b.energised
      = false ∧ s.b.get CRM.WAKE_CFG_EN ≠ 0 ∧ s.b.cfuBusy = true) ∨ (code = 6 ∧ t5 = true ∧ s.b.energised = false ∧ s.b.get CRM.WAKE_CFG_EN
      = 0)) ∧
    (∃ s : State, ∃ m : Master, ∃ w : Word, ∃ t5 : Bool, ∃ code : Nat, s.writable m 1 = true ∧ s.b.on CRM.MODE_BUSY = false ∧ t5 =
      ((s.b.mode == 1 || (s.b.mode == 4 && !s.b.on FCR.HALT_CAUSE_PENDING)) && CRM.MODE_REQ_TARGET.of w == 5) ∧ (code = 1 ∧ (s.b.mode,
      CRM.MODE_REQ_TARGET.of w) ∉ modePairs) ∨ (code = 2 ∧ (s.b.mode = 1 ∨ (s.b.mode = 4 ∧ s.b.on FCR.HALT_CAUSE_PENDING = false)) ∧
      CRM.MODE_REQ_TARGET.of w = 2 ∧ s.b.on SHL.SHL_STAT_CONFIRMED = false) ∨ (code = 3 ∧ s.b.energised = true ∧ (t5 = true ∨ ((s.b.mode = 2
      ∨ s.b.mode = 3) ∧ CRM.MODE_REQ_TARGET.of w = 1))) ∨ (code = 4 ∧ s.b.mode = 4 ∧ s.b.on FCR.HALT_CAUSE_PENDING = true ∧
      (CRM.MODE_REQ_TARGET.of w = 1 ∨ CRM.MODE_REQ_TARGET.of w = 2 ∨ CRM.MODE_REQ_TARGET.of w = 5)) ∨ (code = 5 ∧ t5 = true ∧ s.b.energised
      = false ∧ s.b.get CRM.WAKE_CFG_EN ≠ 0 ∧ s.b.cfuBusy = true) ∨ (code = 6 ∧ t5 = true ∧ s.b.energised = false ∧ s.b.get CRM.WAKE_CFG_EN
      = 0)) ∧
    (∃ s : State, ∃ m : Master, ∃ w : Word, ∃ t5 : Bool, ∃ code : Nat, s.writable m 1 = true ∧ s.b.on CRM.MODE_BUSY = false ∧ t5 =
      ((s.b.mode == 1 || (s.b.mode == 4 && !s.b.on FCR.HALT_CAUSE_PENDING)) && CRM.MODE_REQ_TARGET.of w == 5) ∧ (code = 1 ∧ (s.b.mode,
      CRM.MODE_REQ_TARGET.of w) ∉ modePairs) ∨ (code = 2 ∧ (s.b.mode = 1 ∨ (s.b.mode = 4 ∧ s.b.on FCR.HALT_CAUSE_PENDING = false)) ∧
      CRM.MODE_REQ_TARGET.of w = 2 ∧ s.b.on SHL.SHL_STAT_CONFIRMED = false) ∨ (code = 3 ∧ s.b.energised = true ∧ (t5 = true ∨ ((s.b.mode = 2
      ∨ s.b.mode = 3) ∧ CRM.MODE_REQ_TARGET.of w = 1))) ∨ (code = 4 ∧ s.b.mode = 4 ∧ s.b.on FCR.HALT_CAUSE_PENDING = true ∧
      (CRM.MODE_REQ_TARGET.of w = 1 ∨ CRM.MODE_REQ_TARGET.of w = 2 ∨ CRM.MODE_REQ_TARGET.of w = 5)) ∨ (code = 5 ∧ t5 = true ∧ s.b.energised
      = false ∧ s.b.get CRM.WAKE_CFG_EN ≠ 0 ∧ s.b.cfuBusy = true) ∨ (code = 6 ∧ t5 = true ∧ s.b.energised = false ∧ s.b.get CRM.WAKE_CFG_EN
      = 0)) ∧
    (∃ s : State, ∃ m : Master, ∃ w : Word, ∃ t5 : Bool, ∃ code : Nat, s.writable m 1 = true ∧ s.b.on CRM.MODE_BUSY = false ∧ t5 =
      ((s.b.mode == 1 || (s.b.mode == 4 && !s.b.on FCR.HALT_CAUSE_PENDING)) && CRM.MODE_REQ_TARGET.of w == 5) ∧ (code = 1 ∧ (s.b.mode,
      CRM.MODE_REQ_TARGET.of w) ∉ modePairs) ∨ (code = 2 ∧ (s.b.mode = 1 ∨ (s.b.mode = 4 ∧ s.b.on FCR.HALT_CAUSE_PENDING = false)) ∧
      CRM.MODE_REQ_TARGET.of w = 2 ∧ s.b.on SHL.SHL_STAT_CONFIRMED = false) ∨ (code = 3 ∧ s.b.energised = true ∧ (t5 = true ∨ ((s.b.mode = 2
      ∨ s.b.mode = 3) ∧ CRM.MODE_REQ_TARGET.of w = 1))) ∨ (code = 4 ∧ s.b.mode = 4 ∧ s.b.on FCR.HALT_CAUSE_PENDING = true ∧
      (CRM.MODE_REQ_TARGET.of w = 1 ∨ CRM.MODE_REQ_TARGET.of w = 2 ∨ CRM.MODE_REQ_TARGET.of w = 5)) ∨ (code = 5 ∧ t5 = true ∧ s.b.energised
      = false ∧ s.b.get CRM.WAKE_CFG_EN ≠ 0 ∧ s.b.cfuBusy = true) ∨ (code = 6 ∧ t5 = true ∧ s.b.energised = false ∧ s.b.get CRM.WAKE_CFG_EN
      = 0)) ∧
    (∃ s : State, ∃ m : Master, s.writable m 1 = true ∧ s.b.on CRM.MODE_BUSY = true) :=
  ⟨⟨⟨(blk 2 []), [], []⟩, .hsp, CRM.MODE_REQ_TARGET.into 0 4, false, by decide⟩,
   ⟨⟨(blk 1 []), [], []⟩, .hsp, CRM.MODE_REQ_TARGET.into 0 4, false, by decide⟩,
   ⟨⟨(blk 3 []), [], []⟩, .hsp, CRM.MODE_REQ_TARGET.into 0 4, false, by decide⟩,
   ⟨⟨(blk 4 []), [], []⟩, .spu, CRM.MODE_REQ_TARGET.into 0 1, false, by decide⟩,
   ⟨⟨(blk 3 []), [], []⟩, .spu, CRM.MODE_REQ_TARGET.into 0 1, false, by decide⟩,
   ⟨⟨(blk 1 [(SHL.SHL_STAT_CONFIRMED, 1, 0, 0)]), [], []⟩, .hsp, CRM.MODE_REQ_TARGET.into 0 2, false, by decide⟩,
   ⟨⟨(blk 4 [(SHL.SHL_STAT_CONFIRMED, 1, 0, 0), (⟨FCR.DEGRADE_X, 0, 32⟩, 1, 0, 0)]), [], []⟩, .hsp, CRM.MODE_REQ_TARGET.into 0 2, false, by
     decide⟩,
   ⟨⟨(blk 1 [(CRM.WAKE_CFG_EN, 1, 0, 0)]), [], []⟩, .hsp, CRM.MODE_REQ_TARGET.into 0 5, true, by decide⟩,
   ⟨⟨(blk 4 [(CRM.WAKE_CFG_EN, 8, 0, 0)]), [], []⟩, .hsp, CRM.MODE_REQ_TARGET.into 0 5, true, by decide⟩,
   ⟨⟨(blk 2 []), [], []⟩, .hsp, CRM.MODE_REQ_TARGET.into 0 5, false, 1, by decide⟩,
   ⟨⟨(blk 1 []), [], []⟩, .hsp, CRM.MODE_REQ_TARGET.into 0 2, false, 2, by decide⟩,
   ⟨⟨{ blk 2 [(LEG.LEG_STAT_OWNER, 2, 63, 0)] with legs := [(63, { en := true, own := true })] }, [], []⟩, .hsp, CRM.MODE_REQ_TARGET.into 0
     1, false, 3, by decide⟩,
   ⟨⟨(blk 4 [(FCR.HALT_CAUSE_PENDING, 1, 0, 0)]), [], []⟩, .hsp, CRM.MODE_REQ_TARGET.into 0 5, false, 4, by decide⟩,
   ⟨⟨(blk 1 [(CRM.WAKE_CFG_EN, 1, 0, 0), (AX.AX_DRV_CMD_PEND, 1, 23, 0)]), [], []⟩, .hsp, CRM.MODE_REQ_TARGET.into 0 5, true, 5, by decide⟩,
   ⟨⟨(blk 1 []), [], []⟩, .hsp, CRM.MODE_REQ_TARGET.into 0 5, true, 6, by decide⟩,
   ⟨⟨(blk 2 [(CRM.MODE_BUSY, 1, 0, 0)]), [], []⟩, .hsp, by decide⟩⟩

/-- States and operands that meet the hypotheses of ModeSteps. -/
theorem witness_modeSteps :
    (∃ s : State, s.b.running = true ∧ s.b.mode = 1 ∧ s.b.crm.haltReq = false) ∧
    (∃ s : State, ∃ m : Master, ∃ w : Word, s.writable m 1 = true ∧ CRM.RST_CTL_KEY.of w = 0x5A ∧ (s.b.mode = 1 ∨ s.b.mode = 4) ∧
      s.b.energised = false) ∧
    (∃ s : State, s.b.crm.phase = .dormantEntry ∧ s.b.crm.wakeSeen = false) ∧
    (∃ s : State, ∃ pin : Nat, ∃ level : Bool, pin < 4 ∧ bit s.b.crm.wakeLevel pin ≠ level) ∧
    (∃ s : State, ∃ pin : Nat, pin < 4 ∧ s.b.crm.phase = .dormant ∧ bit s.b.crm.wakeQual pin = true ∧ bit s.b.crm.wakePre pin = false) ∧
    (∃ s : State, s.b.crm.phase = .wakeSettle) ∧
    (∃ s : State, ∃ g : List Nat, ∃ rest : List (List Nat), s.b.crm.phase = .wakeBanks ∧ s.b.crm.wakeGroups = g :: rest) ∧
    (∃ s : State, s.b.crm.phase = .wakeBanks ∧ s.b.crm.wakeGroups = []) :=
  ⟨⟨⟨(blk 1 [(CRM.MODE_BUSY, 1, 0, 0)]), [], []⟩, by decide⟩,
   ⟨⟨(blk 4 []), [], []⟩, .hsp, CRM.RST_CTL_KEY.into 0 0x5A, by decide⟩,
   ⟨⟨{ blk 5 [(CRM.MODE_BUSY, 1, 0, 0)] with crm := { phase := .dormantEntry, porstLow := false } }, [], []⟩, by decide⟩,
   ⟨⟨(blk 1 []), [], []⟩, 3, true, by decide⟩,
   ⟨⟨{ blk 5 [] with crm := { phase := .dormant, porstLow := false, wakeQual := 8, vidSaved := 9 } }, [], []⟩, 3, by decide⟩,
   ⟨⟨{ blk 5 [] with crm := { phase := .wakeSettle, porstLow := false } }, [], []⟩, by decide⟩,
   ⟨⟨{ blk 5 [(BK.BANK_STAT_PWR, 1, 43, 0), (BK.BANK_STAT_PWR, 1, 42, 0)] with crm := { phase := .wakeBanks, porstLow := false, wakeGroups := [[1, 43], [42]] } },
     [], []⟩, [1, 43], [[42]], by decide⟩,
   ⟨⟨{ blk 5 [] with crm := { phase := .wakeBanks, porstLow := false } }, [], []⟩, by decide⟩⟩

/-- States and operands that meet the hypotheses of Constellations. -/
theorem witness_constellations :
    (∃ s : State, ∃ k : Nat, ∃ m : Master, ∃ w : Word, k < 8 ∧ s.writable m 0xF = true ∧ s.b.on EGA.TB_CFG_EN 0 k = false ∧
      EGA.TB_CFG_SYNC.of w = 0 ∧ s.b.tbInUse k = false ∧ s.b.xspAllows k (s.b.rd EGA.TB_PERIOD 0 k).toNat = true) ∧
    (∃ s : State, ∃ k : Nat, k < 8 ∧ s.b.running = true ∧ s.b.on EGA.TB_STAT_RUN 0 k = true ∧ (s.b.tb k).starting = true ∧ (s.b.tb
      k).wasRunning = false) ∧
    (∃ s : State, ∃ k : Nat, ∃ m : Master, ∃ w : Word, k < 8 ∧ s.writable m 0xF = true ∧ s.b.on EGA.TB_CFG_EN 0 k = true ∧ s.b.tbInUse k =
      false ∧ s.b.xspHolds k = false ∧ EGA.TB_CFG_SYNC.of w < 9) ∧
    (∃ s : State, ∃ k : Nat, k < 8 ∧ s.b.running = true ∧ s.b.on EGA.TB_STAT_RUN 0 k = true ∧ (s.b.tb k).starting = false ∧ (s.b.tb
      k).sealed = none ∧ (s.b.tb k).pend = none) ∧
    (∃ s : State, ∃ m : Master, ∃ k : Nat, k < 8 ∧ s.writable m 0xF = true ∧ s.b.on EGA.TB_STAT_RUN 0 k = true ∧ s.b.xspAllows k (s.b.rd
      EGA.TB_PERIOD 0 k).toNat = true ∧ s.b.periodRefusal k (s.b.rd EGA.TB_PERIOD 0 k).toNat = none ∧ s.b.tbWindow k = false) ∧
    (∃ s : State, ∃ m : Master, ∃ k : Nat, k < 8 ∧ s.writable m 0xF = true ∧ s.b.on EGA.TB_STAT_RUN 0 k = true ∧ s.b.xspAllows k (s.b.rd
      EGA.TB_PERIOD 0 k).toNat = true ∧ s.b.periodRefusal k (s.b.rd EGA.TB_PERIOD 0 k).toNat = none ∧ s.b.tbWindow k = true) :=
  ⟨⟨⟨(blk 1 [(⟨EGA.TB_PERIOD, 0, 32⟩, 64000, 0, 7)]), [], []⟩, 7, .hsp, 0, by decide⟩,
   ⟨⟨{ blk 1 [(EGA.TB_STAT_RUN, 1, 0, 7)] with tbs := [(7, { starting := true })] }, [], []⟩, 7, by decide⟩,
   ⟨⟨(blk 1 [(EGA.TB_STAT_RUN, 1, 0, 7), (EGA.TB_CFG_EN, 1, 0, 7)]), [], []⟩, 7, .hsp, EGA.TB_CFG_SYNC.into 0 8, by decide⟩,
   ⟨⟨(blk 1 [(EGA.TB_STAT_RUN, 1, 0, 7), (⟨EGA.TB_PERIOD, 0, 32⟩, 64000, 0, 7), (⟨EGA.TB_PERIOD_ACT, 0, 32⟩, 64000, 0, 7)]), [], []⟩, 7, by
     decide⟩,
   ⟨⟨(blk 1 [(EGA.TB_STAT_RUN, 1, 0, 7), (⟨EGA.TB_PERIOD, 0, 32⟩, 64000, 0, 7), (⟨EGA.TB_PERIOD_ACT, 0, 32⟩, 32000, 0, 7)]), [], []⟩, .hsp,
     7, by decide⟩,
   ⟨⟨(blk 1 [(EGA.TB_STAT_RUN, 1, 0, 7), (⟨EGA.TB_PERIOD, 0, 32⟩, 64000, 0, 7), (⟨EGA.TB_PERIOD_ACT, 0, 32⟩, 32000, 0, 7), (⟨EGA.TB_MTS_LO,
     0, 32⟩, 502, 0, 7)]), [], []⟩, .hsp, 7, by decide⟩⟩

/-- States and operands that meet the hypotheses of CompareCommits. -/
theorem witness_compareCommits :
    (∃ s : State, ∃ leg : Nat, ∃ m : Master, leg < s.b.numLegs ∧ s.writable m (0x20 + leg) = true ∧ 2 ≤ s.b.legOwner leg) ∧
    (∃ s : State, ∃ leg : Nat, ∃ m : Master, leg < s.b.numLegs ∧ s.writable m (0x20 + leg) = true ∧ 2 ≤ s.b.legOwner leg) ∧
    (∃ s : State, ∃ leg : Nat, ∃ m : Master, ∃ hi : Bool, ∃ w : Word, leg < s.b.numLegs ∧ s.writable m 0xF = true ∧ leg ∈ (bitsOf w.toNat
      32).map (fun k => if hi then k + 32 else k) ∧ (∀ n, n ∈ (bitsOf w.toNat 32).map (fun k => if hi then k + 32 else k) → n < s.b.numLegs
      ∧ 2 ≤ s.b.legOwner n ∧ s.b.legTb n = s.b.legTb leg ∧ s.b.get LEG.LEG_CFG_STAGGER n = s.b.get LEG.LEG_CFG_STAGGER leg)) ∧
    (∃ s : State, ∃ leg : Nat, ∃ m : Master, ∃ hi : Bool, ∃ w : Word, leg < s.b.numLegs ∧ s.writable m 0xF = true ∧ leg ∈ (bitsOf w.toNat
      32).map (fun k => if hi then k + 32 else k) ∧ (∀ n, n ∈ (bitsOf w.toNat 32).map (fun k => if hi then k + 32 else k) → n < s.b.numLegs
      ∧ 2 ≤ s.b.legOwner n ∧ s.b.legTb n = s.b.legTb leg ∧ s.b.get LEG.LEG_CFG_STAGGER n = s.b.get LEG.LEG_CFG_STAGGER leg)) ∧
    (∃ s : State, ∃ leg : Nat, leg < s.b.numLegs ∧ s.b.running = true ∧ s.b.tbRuns (s.b.legTb leg) = true ∧ (s.b.leg leg).window = false) ∧
    (∃ s : State, ∃ leg : Nat, ∃ p : CmpPair, s.b.commits leg = true ∧ (s.b.leg leg).frozen = some p) ∧
    (∃ s : State, ∃ leg : Nat, ∃ p : CmpPair, s.b.commits leg = true ∧ (s.b.leg leg).frozen = some p) :=
  ⟨⟨⟨(blk 1 [(LEG.LEG_STAT_OWNER, 2, 63, 0), (⟨LEG.LEG_CMP1, 0, 32⟩, 100, 63, 0), (⟨LEG.LEG_CMP2, 0, 32⟩, 200, 63, 0)]), [], []⟩, 63, .hsp,
    by decide⟩,
   ⟨⟨{ blk 1 [(LEG.LEG_STAT_OWNER, 2, 63, 0), (⟨LEG.LEG_CMP1, 0, 32⟩, 100, 63, 0), (⟨LEG.LEG_CMP2, 0, 32⟩, 200, 63, 0)] with legs := [(63, { window := true, pending := some ⟨1, 2⟩ })] },
     [], []⟩, 63, .hsp, by decide⟩,
   ⟨⟨{ blk 1 [(LEG.LEG_STAT_OWNER, 2, 31, 0), (⟨LEG.LEG_CMP1, 0, 32⟩, 100, 31, 0), (⟨LEG.LEG_CMP2, 0, 32⟩, 200, 31, 0), (LEG.LEG_STAT_OWNER, 2, 0, 0), (⟨LEG.LEG_CMP1, 0, 32⟩, 100, 0, 0), (⟨LEG.LEG_CMP2, 0, 32⟩, 200, 0, 0)] with legs := [(0, { staged := some ⟨1, 2⟩ })] },
     [], []⟩, 31, .hsp, false, 0x80000001, by decide⟩,
   ⟨⟨(blk 1 [(LEG.LEG_STAT_OWNER, 2, 63, 0), (⟨LEG.LEG_CMP1, 0, 32⟩, 100, 63, 0), (⟨LEG.LEG_CMP2, 0, 32⟩, 200, 63, 0), (LEG.LEG_STAT_OWNER,
     2, 32, 0), (⟨LEG.LEG_CMP1, 0, 32⟩, 100, 32, 0), (⟨LEG.LEG_CMP2, 0, 32⟩, 200, 32, 0)]), [], []⟩, 32, .spu, true, 0x80000001, by decide⟩,
   ⟨⟨{ blk 1 [(EGA.TB_STAT_RUN, 1, 0, 0), (LEG.LEG_STAT_OWNER, 2, 63, 0)] with legs := [(63, { staged := some ⟨1, 2⟩ })] }, [], []⟩, 63, by
     decide⟩,
   ⟨⟨{ blk 1 [(EGA.TB_STAT_RUN, 1, 0, 0), (⟨EGA.TB_PERIOD_ACT, 0, 32⟩, 64000, 0, 0), (LEG.LEG_STAT_OWNER, 2, 63, 0)] with legs := [(63, { frozen := some ⟨5, 6⟩, window := true })] },
     [], []⟩, 63, ⟨5, 6⟩, by decide⟩,
   ⟨⟨{ blk 1 [(EGA.TB_STAT_RUN, 1, 0, 0), (⟨EGA.TB_PERIOD_ACT, 0, 32⟩, 64000, 0, 0), (LEG.LEG_STAT_OWNER, 2, 63, 0)] with legs := [(63, { frozen := some ⟨5, 6⟩, staged := some ⟨5, 7⟩, pending := some ⟨8, 9⟩, pendFresh := true, window := true })] },
     [], []⟩, 63, ⟨5, 6⟩, by decide⟩⟩

set_option maxRecDepth 20000 in
/-- States and operands that meet the hypotheses of EdgeProtection. -/
theorem witness_edgeProtection :
    (∃ s : State, ∃ leg : Nat, ∃ pos, leg < s.b.numLegs ∧ s.b.commits leg = true ∧ pos < s.b.period (s.b.legTb leg)) ∧
    (∃ s : State, ∃ leg : Nat, ∃ pos : Nat, ∃ side : Bool, ∃ dt, ∃ kind, leg < s.b.numLegs ∧ s.b.running = true ∧ (s.b.leg leg).padWait =
      none ∧ (s.b.leg leg).turnOn = some side ∧ (s.b.leg leg).hi = false ∧ (s.b.leg leg).lo = false ∧ s.b.deadTime leg = some (dt, kind) ∧
      (∀ q, (s.b.leg leg).offOf side = some q → (dt : Int) ≤ pos - q) ∧ (∀ e, s.b.onEnd leg side pos = some e → 16 * LEG.LEG_DT_MIN_PULSE.of
      (s.b.eff LEG.LEG_DT leg 0) ≤ e - pos)) ∧
    (∃ s : State, ∃ leg : Nat, ∃ since, leg < s.b.numLegs ∧ s.b.running = true ∧ (s.b.leg leg).padWait = some since ∧ s.b.now < since + 6 ∧
      (s.b.leg leg).turnOn = none) ∧
    (∃ s : State, ∃ leg : Nat, leg < s.b.numLegs ∧ s.b.running = true) ∧
    (∃ s : State, s.b.running = true ∧ s.b.on EGA.EGA_CTL_DLL_EN = true ∧ s.b.on EGA.EGA_STAT_DLL_LOCK0 = true ∧ s.b.get EGA.DLL_CODE0_FINE
      < 63) ∧
    (∃ s : State, ∃ leg, ∃ trim : Int, s.b.running = true ∧ leg < s.b.numLegs ∧ -31 ≤ trim ∧ trim ≤ 31 ∧ s.b.tbRuns (s.b.legTb leg) = false)
      ∧
    (∃ s : State, ∃ leg, ∃ trim : Int, s.b.running = true ∧ leg < s.b.numLegs ∧ -31 ≤ trim ∧ trim ≤ 31 ∧ s.b.tbRuns (s.b.legTb leg) = true)
      :=
  ⟨⟨⟨{ blk 1 [(EGA.TB_STAT_RUN, 1, 0, 0), (⟨EGA.TB_PERIOD_ACT, 0, 32⟩, 64000, 0, 0), (LEG.LEG_STAT_OWNER, 2, 63, 0)] with legs := [(63, { hi := true, cmdHi := true, own := true, en := true })] },
    [], []⟩, 63, 63999, by decide⟩,
   ⟨⟨{ blk 1 [(EGA.TB_STAT_RUN, 1, 0, 0), (⟨EGA.TB_PERIOD_ACT, 0, 32⟩, 64000, 0, 0), (LEG.LEG_DT_DT_FLOOR, 400, 63, 0), (LEG.LEG_CFG_FORM, 0, 63, 0), (⟨LEG.LEG_ACT1, 0, 32⟩, 16777215, 63, 0), (⟨LEG.LEG_ACT2, 0, 32⟩, 16777215, 63, 0)] with legs := [(63, { turnOn := some true, chop := some true, own := true, en := true })] },
     [], []⟩, 63, 100, true, 400, 0, by decide, by decide, by decide, by decide, by decide, by decide, by decide, none_elim (by decide),
     none_elim (by decide)⟩,
   ⟨⟨{ blk 1 [] with legs := [(63, { padWait := some 997 })] }, [], []⟩, 63, 997, by decide⟩,
   ⟨⟨{ blk 1 [] with legs := [(63, { hi := true, turnOn := some false })] }, [], []⟩, 63, by decide⟩,
   ⟨⟨(blk 1 [(EGA.EGA_CTL_DLL_EN, 1, 0, 0), (EGA.EGA_STAT_DLL_LOCK0, 1, 0, 0), (EGA.DLL_CODE0_FINE, 62, 0, 0)]), [], []⟩, by decide⟩,
   ⟨⟨(blk 1 []), [], []⟩, 63, (-31), by decide⟩,
   ⟨⟨(blk 1 [(EGA.TB_STAT_RUN, 1, 0, 0)]), [], []⟩, 63, 31, by decide⟩⟩

/-- States and operands that meet the hypotheses of LegFaults. -/
theorem witness_legFaults :
    (∃ s : State, ∃ leg : Nat, ∃ positive : Bool, ∃ i : Int, s.b.senses leg = true ∧ (s.b.leg leg).blanking = false ∧ s.b.on
      LEG.LEG_CFG_CHOP_EN leg = true ∧ (s.b.leg leg).chop = none ∧ s.b.beyond leg positive i = true ∧ s.b.beyond leg (!positive) i = false ∧
      (if positive then (s.b.leg leg).hi else (s.b.leg leg).lo) = true) ∧
    (∃ s : State, ∃ leg : Nat, ∃ positive : Bool, ∃ i : Int, s.b.senses leg = true ∧ (s.b.leg leg).blanking = false ∧ s.b.on
      LEG.LEG_CFG_CHOP_EN leg = true ∧ (s.b.leg leg).chop = none ∧ s.b.beyond leg positive i = true ∧ s.b.beyond leg (!positive) i = false ∧
      (if positive then (s.b.leg leg).hi else (s.b.leg leg).lo) = true) ∧
    (∃ s : State, ∃ leg : Nat, s.b.senses leg = true ∧ (s.b.leg leg).blanking = true ∧ (s.b.leg leg).tripPos = false ∧ (s.b.leg leg).tripNeg
      = false ∧ (s.b.leg leg).tripHard = false) ∧
    (∃ s : State, ∃ leg : Nat, ∃ i : Int, s.b.senses leg = true ∧ (s.b.leg leg).blanking = true ∧ s.b.beyondHard leg i = true) ∧
    (∃ s : State, ∃ leg : Nat, ∃ i : Int, s.b.senses leg = true ∧ (s.b.leg leg).blanking = false ∧ s.b.beyondHard leg i = true) ∧
    (∃ s : State, ∃ leg : Nat, leg < s.b.numLegs) ∧
    (∃ s : State, ∃ leg : Nat, leg < s.b.numLegs ∧ s.b.running = true ∧ s.b.on LEG.LEG_FLT_EN leg = true ∧ (s.b.leg leg).fltLow = true ∧
      s.b.on LEG.LEG_FLT_HELD leg = false) ∧
    (∃ s : State, ∃ leg : Nat, ∃ m : Master, leg < s.b.numLegs ∧ s.writable m (0x20 + leg) = true ∧ (s.b.leg leg).fltLow = false) ∧
    (∃ s : State, ∃ leg : Nat, ∃ m : Master, leg < s.b.numLegs ∧ s.writable m (0x20 + leg) = true ∧ (s.b.leg leg).fltLow = true) ∧
    (∃ s : State, ∃ leg : Nat, ∃ cmp : NodeCmp, s.b.senses leg = true ∧ s.b.ns SC.NS_CFG_NS_EN leg = 0 ∧ cmp ≠ .lo) ∧
    (∃ s : State, ∃ leg : Nat, ∃ e : EdgeSt, ∃ t', s.b.senses leg = true ∧ (s.b.leg leg).edges = [e] ∧ e.lag = 0 ∧ e.live = true ∧ e.mid =
      none ∧ s.b.ns SC.NS_CFG_NS_EN leg = 1 ∧ t' ≤ 32 * (s.b.ns SC.DT_MAX_ADAPT_MAX leg + 500)) ∧
    (∃ s : State, ∃ leg : Nat, ∃ es : List EdgeSt, ∃ e : EdgeSt, s.b.senses leg = true ∧ (s.b.leg leg).edges = es ++ [e] ∧ e.live = true ∧
      e.mid ≠ none) ∧
    (∃ s : State, ∃ leg : Nat, ∃ e : EdgeSt, ∃ rest : List EdgeSt, s.b.senses leg = true ∧ (s.b.leg leg).edges = e :: rest ∧ s.b.blind leg =
      false ∧ e.left ≠ none ∧ e.settle = none ∧ e.stuck = false) ∧
    (∃ s : State, ∃ leg : Nat, ∃ m : Master, s.b.senses leg = true ∧ s.writable m (0xB0 + leg / 2) = true ∧ s.b.tbRuns (s.b.legTb leg) =
      false) ∧
    (∃ s : State, ∃ leg : Nat, ∃ m : Master, s.b.senses leg = true ∧ s.writable m (0xB0 + leg / 2) = true ∧ s.b.tbRuns (s.b.legTb leg) =
      true) :=
  ⟨⟨⟨{ blk 1 [(SNS.SNS_CTL_EN, 1, 0, 0), (SC.OC_LIM_POS, 100, 31, 1), (SC.OC_LIM_NEG, 100, 31, 1), (LEG.LEG_CFG_CHOP_EN, 1, 63, 0)] with legs := [(63, { hi := true })] },
    [], []⟩, 63, true, 100, by decide⟩,
   ⟨⟨{ blk 1 [(SNS.SNS_CTL_EN, 1, 0, 0), (SC.OC_LIM_POS, 100, 31, 1), (SC.OC_LIM_NEG, 100, 31, 1), (LEG.LEG_CFG_CHOP_EN, 1, 63, 0)] with legs := [(63, { lo := true })] },
     [], []⟩, 63, false, (-100), by decide⟩,
   ⟨⟨{ blk 1 [(SNS.SNS_CTL_EN, 1, 0, 0)] with legs := [(63, { blanking := true })] }, [], []⟩, 63, by decide⟩,
   ⟨⟨{ blk 1 [(SNS.SNS_CTL_EN, 1, 0, 0), (SC.OC_HARD_HARD_EN, 1, 31, 1), (SC.OC_HARD_HARD, 200, 31, 1)] with legs := [(63, { blanking := true })] },
     [], []⟩, 63, (-200), by decide⟩,
   ⟨⟨(blk 1 [(SNS.SNS_CTL_EN, 1, 0, 0), (SC.OC_HARD_HARD_EN, 1, 31, 1), (SC.OC_HARD_HARD, 200, 31, 1)]), [], []⟩, 63, 200, by decide⟩,
   ⟨⟨(blk 1 []), [], []⟩, 63, by decide⟩,
   ⟨⟨{ blk 1 [(LEG.LEG_FLT_EN, 1, 63, 0)] with legs := [(63, { fltLow := true })] }, [], []⟩, 63, by decide⟩,
   ⟨⟨(blk 1 [(LEG.LEG_FLT_HELD, 1, 63, 0)]), [], []⟩, 63, .hsp, by decide⟩,
   ⟨⟨{ blk 1 [(LEG.LEG_FLT_HELD, 1, 63, 0)] with legs := [(63, { fltLow := true })] }, [], []⟩, 63, .hsp, by decide⟩,
   ⟨⟨(blk 1 [(SNS.SNS_CTL_EN, 1, 0, 0), (SC.NS_CFG_NS_EN, 0, 31, 1)]), [], []⟩, 63, .hi, by decide⟩,
   ⟨⟨{ blk 1 [(SNS.SNS_CTL_EN, 1, 0, 0), (SC.NS_CFG_NS_EN, 1, 31, 1)] with legs := [(63, { edges := [⟨true, 0, false, none, none, none, none, none, false, 0, true⟩] })] },
     [], []⟩, 63, ⟨true, 0, false, none, none, none, none, none, false, 0, true⟩, 32, by decide⟩,
   ⟨⟨{ blk 1 [(SNS.SNS_CTL_EN, 1, 0, 0)] with legs := [(63, { edges := [⟨true, 0, false, none, none, none, none, none, false, 0, true⟩, ⟨false, 0, false, some 3, some 5, none, none, none, false, 0, true⟩] })] },
     [], []⟩, 63, [⟨true, 0, false, none, none, none, none, none, false, 0, true⟩], ⟨false, 0, false, some 3, some 5, none, none, none,
     false, 0, true⟩, by decide⟩,
   ⟨⟨{ blk 1 [(SNS.SNS_CTL_EN, 1, 0, 0), (SC.NS_CFG_NS_EN, 1, 31, 1)] with legs := [(63, { edges := [⟨false, 0, false, some 3, some 5, none, none, none, false, 0, true⟩] })] },
     [], []⟩, 63, ⟨false, 0, false, some 3, some 5, none, none, none, false, 0, true⟩, [], by decide⟩,
   ⟨⟨(blk 1 [(SNS.SNS_CTL_EN, 1, 0, 0), (⟨SC.PXT, 0, 32⟩, 5, 31, 17)]), [], []⟩, 63, .hsp, by decide⟩,
   ⟨⟨(blk 1 [(SNS.SNS_CTL_EN, 1, 0, 0), (EGA.TB_STAT_RUN, 1, 0, 0), (⟨SC.PXT, 0, 32⟩, 5, 31, 17)]), [], []⟩, 63, .hsp, by decide⟩⟩

/-- States and operands that meet the hypotheses of Conversions. -/
theorem witness_conversions :
    (∃ s : State, ∃ a : Nat, ∃ c : Nat, ∃ anti : Bool, ∃ g : Int, ∃ l : Int, a < s.b.numAxes ∧ s.b.running = true ∧ s.b.mode ≠ 0 ∧ s.b.on
      SNS.SNS_CTL_EN = true ∧ s.b.fenced 0x10 = false ∧ s.b.liveAxes.contains a = true ∧ s.b.tbRuns (s.b.axTb a) = true ∧ s.b.curCtx a =
      some c ∧ s.b.sampleSpan a (s.b.get LC.LC_SLOT_SLOT c) anti = some (g, l) ∧ (s.b.sample a).series = 0 ∧ s.b.placeHold a g l = none) ∧
    (∃ s : State, ∃ a : Nat, ∃ c : Nat, ∃ anti : Bool, ∃ g : Int, ∃ l : Int, ∃ w : Int × Int, ∃ n : Nat, ∃ rec : Option (Nat × Nat × Nat), a
      < s.b.numAxes ∧ s.b.running = true ∧ s.b.mode ≠ 0 ∧ s.b.on SNS.SNS_CTL_EN = true ∧ s.b.fenced 0x10 = false ∧ s.b.liveAxes.contains a =
      true ∧ s.b.tbRuns (s.b.axTb a) = true ∧ s.b.curCtx a = some c ∧ s.b.sampleSpan a (s.b.get LC.LC_SLOT_SLOT c) anti = some (g, l) ∧
      (s.b.sample a).series = 0 ∧ s.b.placeHold a g l = some (w, n + 1, rec)) ∧
    (∃ s : State, ∃ a : Nat, ∃ c : Nat, ∃ anti : Bool, ∃ g : Int, ∃ l : Int, ∃ n : Nat, a < s.b.numAxes ∧ s.b.running = true ∧ s.b.mode ≠ 0
      ∧ s.b.on SNS.SNS_CTL_EN = true ∧ s.b.fenced 0x10 = false ∧ s.b.liveAxes.contains a = true ∧ s.b.tbRuns (s.b.axTb a) = true ∧
      s.b.curCtx a = some c ∧ s.b.sampleSpan a (s.b.get LC.LC_SLOT_SLOT c) anti = some (g, l) ∧ (s.b.sample a).series = n + 2 ∧ (s.b.sample
      a).anti = anti) ∧
    (∃ s : State, ∃ k : Nat, ∃ h : HoldSt, ∃ rest : List HoldSt, s.b.running = true ∧ s.b.mode ≠ 0 ∧ k < s.b.numConv ∧ s.b.fenced (0xB0 + k)
      = false ∧ s.b.conv k = h :: rest) ∧
    (∃ s : State, ∃ k : Nat, ∃ h : HoldSt, ∃ rest : List HoldSt, s.b.running = true ∧ s.b.mode ≠ 0 ∧ k < s.b.numConv ∧ s.b.fenced (0xB0 + k)
      = false ∧ s.b.conv k = h :: rest) :=
  ⟨⟨⟨(blk 1 [(SNS.SNS_CTL_EN, 1, 0, 0), (EGA.TB_STAT_RUN, 1, 0, 0), (⟨EGA.TB_PERIOD_ACT, 0, 32⟩, 3000, 0, 0), (AX.AX_STATE_STATE, 2, 23, 0),
    (LC.LC_STAT_ST, 2, 5, 0), (LC.LC_CFG_AXIS, 23, 5, 0), (LC.LC_CFG_PROG, 1, 5, 0)]), [], []⟩, 23, 5, false, (((⟨(blk 1 [(SNS.SNS_CTL_EN,
    1, 0, 0), (EGA.TB_STAT_RUN, 1, 0, 0), (⟨EGA.TB_PERIOD_ACT, 0, 32⟩, 3000, 0, 0), (AX.AX_STATE_STATE, 2, 23, 0), (LC.LC_STAT_ST, 2, 5, 0),
    (LC.LC_CFG_AXIS, 23, 5, 0), (LC.LC_CFG_PROG, 1, 5, 0)]), [], []⟩ : State).b.sampleSpan 23 ((⟨(blk 1 [(SNS.SNS_CTL_EN, 1, 0, 0),
    (EGA.TB_STAT_RUN, 1, 0, 0), (⟨EGA.TB_PERIOD_ACT, 0, 32⟩, 3000, 0, 0), (AX.AX_STATE_STATE, 2, 23, 0), (LC.LC_STAT_ST, 2, 5, 0),
    (LC.LC_CFG_AXIS, 23, 5, 0), (LC.LC_CFG_PROG, 1, 5, 0)]), [], []⟩ : State).b.get LC.LC_SLOT_SLOT 5) false).getD (0, 0)).1, (((⟨(blk 1
    [(SNS.SNS_CTL_EN, 1, 0, 0), (EGA.TB_STAT_RUN, 1, 0, 0), (⟨EGA.TB_PERIOD_ACT, 0, 32⟩, 3000, 0, 0), (AX.AX_STATE_STATE, 2, 23, 0),
    (LC.LC_STAT_ST, 2, 5, 0), (LC.LC_CFG_AXIS, 23, 5, 0), (LC.LC_CFG_PROG, 1, 5, 0)]), [], []⟩ : State).b.sampleSpan 23 ((⟨(blk 1
    [(SNS.SNS_CTL_EN, 1, 0, 0), (EGA.TB_STAT_RUN, 1, 0, 0), (⟨EGA.TB_PERIOD_ACT, 0, 32⟩, 3000, 0, 0), (AX.AX_STATE_STATE, 2, 23, 0),
    (LC.LC_STAT_ST, 2, 5, 0), (LC.LC_CFG_AXIS, 23, 5, 0), (LC.LC_CFG_PROG, 1, 5, 0)]), [], []⟩ : State).b.get LC.LC_SLOT_SLOT 5) false).getD
    (0, 0)).2, by decide⟩,
   ⟨⟨(blk 1 [(SNS.SNS_CTL_EN, 1, 0, 0), (EGA.TB_STAT_RUN, 1, 0, 0), (⟨EGA.TB_PERIOD_ACT, 0, 32⟩, 64000, 0, 0), (AX.AX_STATE_STATE, 2, 23,
     0), (LC.LC_STAT_ST, 2, 5, 0), (LC.LC_CFG_AXIS, 23, 5, 0), (LC.LC_CFG_PROG, 1, 5, 0), (LC.LC_SLOT_SLOT, 50, 5, 0)]), [], []⟩, 23, 5,
     false, (((⟨(blk 1 [(SNS.SNS_CTL_EN, 1, 0, 0), (EGA.TB_STAT_RUN, 1, 0, 0), (⟨EGA.TB_PERIOD_ACT, 0, 32⟩, 64000, 0, 0),
     (AX.AX_STATE_STATE, 2, 23, 0), (LC.LC_STAT_ST, 2, 5, 0), (LC.LC_CFG_AXIS, 23, 5, 0), (LC.LC_CFG_PROG, 1, 5, 0), (LC.LC_SLOT_SLOT, 50,
     5, 0)]), [], []⟩ : State).b.sampleSpan 23 ((⟨(blk 1 [(SNS.SNS_CTL_EN, 1, 0, 0), (EGA.TB_STAT_RUN, 1, 0, 0), (⟨EGA.TB_PERIOD_ACT, 0,
     32⟩, 64000, 0, 0), (AX.AX_STATE_STATE, 2, 23, 0), (LC.LC_STAT_ST, 2, 5, 0), (LC.LC_CFG_AXIS, 23, 5, 0), (LC.LC_CFG_PROG, 1, 5, 0),
     (LC.LC_SLOT_SLOT, 50, 5, 0)]), [], []⟩ : State).b.get LC.LC_SLOT_SLOT 5) false).getD (0, 0)).1, (((⟨(blk 1 [(SNS.SNS_CTL_EN, 1, 0, 0),
     (EGA.TB_STAT_RUN, 1, 0, 0), (⟨EGA.TB_PERIOD_ACT, 0, 32⟩, 64000, 0, 0), (AX.AX_STATE_STATE, 2, 23, 0), (LC.LC_STAT_ST, 2, 5, 0),
     (LC.LC_CFG_AXIS, 23, 5, 0), (LC.LC_CFG_PROG, 1, 5, 0), (LC.LC_SLOT_SLOT, 50, 5, 0)]), [], []⟩ : State).b.sampleSpan 23 ((⟨(blk 1
     [(SNS.SNS_CTL_EN, 1, 0, 0), (EGA.TB_STAT_RUN, 1, 0, 0), (⟨EGA.TB_PERIOD_ACT, 0, 32⟩, 64000, 0, 0), (AX.AX_STATE_STATE, 2, 23, 0),
     (LC.LC_STAT_ST, 2, 5, 0), (LC.LC_CFG_AXIS, 23, 5, 0), (LC.LC_CFG_PROG, 1, 5, 0), (LC.LC_SLOT_SLOT, 50, 5, 0)]), [], []⟩ : State).b.get
     LC.LC_SLOT_SLOT 5) false).getD (0, 0)).2, (((⟨(blk 1 [(SNS.SNS_CTL_EN, 1, 0, 0), (EGA.TB_STAT_RUN, 1, 0, 0), (⟨EGA.TB_PERIOD_ACT, 0,
     32⟩, 64000, 0, 0), (AX.AX_STATE_STATE, 2, 23, 0), (LC.LC_STAT_ST, 2, 5, 0), (LC.LC_CFG_AXIS, 23, 5, 0), (LC.LC_CFG_PROG, 1, 5, 0),
     (LC.LC_SLOT_SLOT, 50, 5, 0)]), [], []⟩ : State).b.placeHold 23 (((⟨(blk 1 [(SNS.SNS_CTL_EN, 1, 0, 0), (EGA.TB_STAT_RUN, 1, 0, 0),
     (⟨EGA.TB_PERIOD_ACT, 0, 32⟩, 64000, 0, 0), (AX.AX_STATE_STATE, 2, 23, 0), (LC.LC_STAT_ST, 2, 5, 0), (LC.LC_CFG_AXIS, 23, 5, 0),
     (LC.LC_CFG_PROG, 1, 5, 0), (LC.LC_SLOT_SLOT, 50, 5, 0)]), [], []⟩ : State).b.sampleSpan 23 ((⟨(blk 1 [(SNS.SNS_CTL_EN, 1, 0, 0),
     (EGA.TB_STAT_RUN, 1, 0, 0), (⟨EGA.TB_PERIOD_ACT, 0, 32⟩, 64000, 0, 0), (AX.AX_STATE_STATE, 2, 23, 0), (LC.LC_STAT_ST, 2, 5, 0),
     (LC.LC_CFG_AXIS, 23, 5, 0), (LC.LC_CFG_PROG, 1, 5, 0), (LC.LC_SLOT_SLOT, 50, 5, 0)]), [], []⟩ : State).b.get LC.LC_SLOT_SLOT 5)
     false).getD (0, 0)).1 (((⟨(blk 1 [(SNS.SNS_CTL_EN, 1, 0, 0), (EGA.TB_STAT_RUN, 1, 0, 0), (⟨EGA.TB_PERIOD_ACT, 0, 32⟩, 64000, 0, 0),
     (AX.AX_STATE_STATE, 2, 23, 0), (LC.LC_STAT_ST, 2, 5, 0), (LC.LC_CFG_AXIS, 23, 5, 0), (LC.LC_CFG_PROG, 1, 5, 0), (LC.LC_SLOT_SLOT, 50,
     5, 0)]), [], []⟩ : State).b.sampleSpan 23 ((⟨(blk 1 [(SNS.SNS_CTL_EN, 1, 0, 0), (EGA.TB_STAT_RUN, 1, 0, 0), (⟨EGA.TB_PERIOD_ACT, 0,
     32⟩, 64000, 0, 0), (AX.AX_STATE_STATE, 2, 23, 0), (LC.LC_STAT_ST, 2, 5, 0), (LC.LC_CFG_AXIS, 23, 5, 0), (LC.LC_CFG_PROG, 1, 5, 0),
     (LC.LC_SLOT_SLOT, 50, 5, 0)]), [], []⟩ : State).b.get LC.LC_SLOT_SLOT 5) false).getD (0, 0)).2).getD ((0, 0), 0, none)).1, 0, none, by
     decide⟩,
   ⟨⟨{ blk 1 [(SNS.SNS_CTL_EN, 1, 0, 0), (EGA.TB_STAT_RUN, 1, 0, 0), (⟨EGA.TB_PERIOD_ACT, 0, 32⟩, 64000, 0, 0), (AX.AX_STATE_STATE, 2, 23, 0), (LC.LC_STAT_ST, 2, 5, 0), (LC.LC_CFG_AXIS, 23, 5, 0), (LC.LC_CFG_PROG, 1, 5, 0)] with samples := [(23, { series := 3 })] },
     [], []⟩, 23, 5, false,
     (((⟨{ blk 1 [(SNS.SNS_CTL_EN, 1, 0, 0), (EGA.TB_STAT_RUN, 1, 0, 0), (⟨EGA.TB_PERIOD_ACT, 0, 32⟩, 64000, 0, 0), (AX.AX_STATE_STATE, 2, 23, 0), (LC.LC_STAT_ST, 2, 5, 0), (LC.LC_CFG_AXIS, 23, 5, 0), (LC.LC_CFG_PROG, 1, 5, 0)] with samples := [(23, { series := 3 })] },
     [], []⟩ : State).b.sampleSpan 23
     ((⟨{ blk 1 [(SNS.SNS_CTL_EN, 1, 0, 0), (EGA.TB_STAT_RUN, 1, 0, 0), (⟨EGA.TB_PERIOD_ACT, 0, 32⟩, 64000, 0, 0), (AX.AX_STATE_STATE, 2, 23, 0), (LC.LC_STAT_ST, 2, 5, 0), (LC.LC_CFG_AXIS, 23, 5, 0), (LC.LC_CFG_PROG, 1, 5, 0)] with samples := [(23, { series := 3 })] },
     [], []⟩ : State).b.get LC.LC_SLOT_SLOT 5) false).getD (0, 0)).1,
     (((⟨{ blk 1 [(SNS.SNS_CTL_EN, 1, 0, 0), (EGA.TB_STAT_RUN, 1, 0, 0), (⟨EGA.TB_PERIOD_ACT, 0, 32⟩, 64000, 0, 0), (AX.AX_STATE_STATE, 2, 23, 0), (LC.LC_STAT_ST, 2, 5, 0), (LC.LC_CFG_AXIS, 23, 5, 0), (LC.LC_CFG_PROG, 1, 5, 0)] with samples := [(23, { series := 3 })] },
     [], []⟩ : State).b.sampleSpan 23
     ((⟨{ blk 1 [(SNS.SNS_CTL_EN, 1, 0, 0), (EGA.TB_STAT_RUN, 1, 0, 0), (⟨EGA.TB_PERIOD_ACT, 0, 32⟩, 64000, 0, 0), (AX.AX_STATE_STATE, 2, 23, 0), (LC.LC_STAT_ST, 2, 5, 0), (LC.LC_CFG_AXIS, 23, 5, 0), (LC.LC_CFG_PROG, 1, 5, 0)] with samples := [(23, { series := 3 })] },
     [], []⟩ : State).b.get LC.LC_SLOT_SLOT 5) false).getD (0, 0)).2, 1, by decide⟩,
   ⟨⟨{ blk 1 [] with convs := [(31, [⟨63, 23, 1, 900⟩])] }, [], []⟩, 31, ⟨63, 23, 1, 900⟩, [], by decide⟩,
   ⟨⟨{ blk 1 [] with convs := [(31, [⟨62, 23, 1, 900⟩])] }, [], []⟩, 31, ⟨62, 23, 1, 900⟩, [], by decide⟩⟩

/-- States and operands that meet the hypotheses of ConverterChecks. -/
theorem witness_converterChecks :
    (∃ s : State, ∃ k : Nat, ∃ d0 : Int, ∃ dh : Int, s.b.running = true ∧ s.b.mode ≠ 0 ∧ k < s.b.numConv ∧ s.b.on SC.SC_CTL_SELFTEST k =
      true ∧ s.b.fenced (0xB0 + k) = false ∧ d0.natAbs ≤ 16 ∧ dh.natAbs ≤ 16) ∧
    (∃ s : State, ∃ k : Nat, ∃ d0 : Int, ∃ dh : Int, s.b.running = true ∧ s.b.mode ≠ 0 ∧ k < s.b.numConv ∧ s.b.on SC.SC_CTL_SELFTEST k =
      true ∧ s.b.fenced (0xB0 + k) = false ∧ (16 < d0.natAbs ∨ 16 < dh.natAbs)) ∧
    (∃ s : State, ∃ n : Nat, ∃ raw : BitVec 14, ∃ v : Nat, s.b.running = true ∧ s.b.mode ≠ 0 ∧ s.b.on SNS.SNS_CTL_EN = true ∧ s.b.fenced
      0x10 = false ∧ n < 8 ∧ v = (clampI 0 16383 (corrected raw.toNat (sx 10 (s.b.get SNS.VB_CAL_OFFSET 0 n)) (sx 10 (s.b.get
      SNS.VB_CAL_GAIN 0 n)))).toNat ∧ s.b.get SNS.VB_CFG_UV 0 n ≤ v ∧ v ≤ s.b.get SNS.VB_CFG_OV 0 n) ∧
    (∃ s : State, ∃ n : Nat, ∃ raw : BitVec 14, ∃ v : Nat, s.b.running = true ∧ s.b.mode ≠ 0 ∧ s.b.on SNS.SNS_CTL_EN = true ∧ s.b.fenced
      0x10 = false ∧ n < 8 ∧ s.b.mode ≠ 5 ∧ v = (clampI 0 16383 (corrected raw.toNat (sx 10 (s.b.get SNS.VB_CAL_OFFSET 0 n)) (sx 10 (s.b.get
      SNS.VB_CAL_GAIN 0 n)))).toNat ∧ s.b.get SNS.VB_CFG_UV 0 n ≤ v ∧ s.b.get SNS.VB_CFG_OV 0 n < v ∧ s.b.mapBit SNS.SNS_STAT_BUS_OV n =
      false ∧ 2 ^ s.b.get SNS.VB_CFG_FILT 0 n ≤ (s.b.bus n).ov + 1) ∧
    (∃ s : State, ∃ ch : Nat, s.b.running = true ∧ s.b.mode ≠ 0 ∧ s.b.on SNS.SNS_CTL_EN = true ∧ s.b.fenced 0x10 = false ∧ s.b.hkScanned ch
      = true ∧ ch < 24) ∧
    (∃ s : State, ∃ ch : Nat, s.b.running = true ∧ s.b.mode ≠ 0 ∧ s.b.on SNS.SNS_CTL_EN = true ∧ s.b.fenced 0x10 = false ∧ s.b.hkScanned ch
      = true ∧ 24 ≤ ch ∧ ch < 49) ∧
    (∃ s : State, ∃ ch : Nat, s.b.running = true ∧ s.b.mode ≠ 0 ∧ s.b.on SNS.SNS_CTL_EN = true ∧ s.b.fenced 0x10 = false ∧ s.b.hkScanned ch
      = true ∧ 24 ≤ ch ∧ ch < 49) :=
  ⟨⟨⟨(blk 1 [(SC.SC_CTL_SELFTEST, 1, 31, 0)]), [], []⟩, 31, 16, (-16), by decide⟩,
   ⟨⟨(blk 1 [(SC.SC_CTL_SELFTEST, 1, 31, 0)]), [], []⟩, 31, 17, 0, by decide⟩,
   ⟨⟨(blk 1 [(SNS.SNS_CTL_EN, 1, 0, 0), (SNS.VB_CFG_OV, 100, 0, 7)]), [], []⟩, 7, 100, 100, by decide⟩,
   ⟨⟨{ blk 1 [(SNS.SNS_CTL_EN, 1, 0, 0), (SNS.VB_CFG_OV, 99, 0, 7), (SNS.VB_CFG_FILT, 2, 0, 7)] with buses := [(7, { ov := 3 })] }, [], []⟩,
     7, 100, 100, by decide⟩,
   ⟨⟨(blk 1 [(SNS.SNS_CTL_EN, 1, 0, 0), (SNS.HK_CTL0_EN, (2 ^ 23), 0, 0)]), [], []⟩, 23, by decide⟩,
   ⟨⟨(blk 1 [(SNS.SNS_CTL_EN, 1, 0, 0), (SNS.HK_CTL1_DIE, 1, 0, 0)]), [], []⟩, 48, by decide⟩,
   ⟨⟨(blk 1 [(SNS.SNS_CTL_EN, 1, 0, 0), (SNS.HK_CTL1_TS, 1, 0, 0)]), [], []⟩, 24, by decide⟩⟩

/-- States and operands that meet the hypotheses of MailboxAdmits. -/
theorem witness_mailboxAdmits :
    (∃ s : State, ∃ m : Master, ∃ i : Nat, i < 2 ∧ s.writable m 0xE = true ∧ mbxMaster i m = true ∧ (s.b.mbx i).stage = .idle ∧ (s.b.mbx (1
      - i)).stage = .idle ∧ 1 ≤ s.b.mode ∧ s.b.mode ≤ 3) ∧
    (∃ s : State, ∃ m : Master, ∃ i : Nat, i < 2 ∧ s.writable m 0xE = true ∧ mbxMaster i m = true ∧ (s.b.mbx i).stage = .idle ∧ (s.b.mbx (1
      - i)).stage = .idle ∧ 1 ≤ s.b.mode ∧ s.b.mode ≤ 3) ∧
    (∃ s : State, ∃ m : Master, ∃ i : Nat, i < 2 ∧ s.writable m 0xE = true ∧ mbxMaster i m = true ∧ (s.b.mbx i).stage = .idle ∧ (s.b.mbx (1
      - i)).stage = .idle ∧ 1 ≤ s.b.mode ∧ s.b.mode ≤ 4) ∧
    (∃ s : State, ∃ m : Master, ∃ i : Nat, ∃ op : Nat, i < 2 ∧ s.writable m 0xE = true ∧ mbxMaster i m = true ∧ (s.b.mbx i).stage = .idle ∧
      (s.b.mbx (1 - i)).stage = .idle ∧ (op % 16 = 0 ∨ 4 < op % 16)) ∧
    (∃ s : State, ∃ m : Master, ∃ i : Nat, ∃ op : Nat, i < 2 ∧ s.writable m 0xE = true ∧ mbxMaster i m = true ∧ (s.b.mbx i).stage = .idle ∧
      (s.b.mbx (1 - i)).stage = .idle ∧ (op % 16 = 0 ∨ 4 < op % 16)) ∧
    (∃ s : State, ∃ i : Nat, ∃ a : Nat, i < 2 ∧ s.b.running = true ∧ (s.b.mbx i).stage = .checking ∧ a = s.b.get CFU.MBX_P0_P0 0 i % 65536 %
      32 ∧ s.b.handleCheck (s.b.get CFU.MBX_P0_P0 0 i % 65536) = none ∧ s.b.axState a = 2 ∧ s.b.get CFU.MBX_CMD_OP 0 i = 2 ∧ s.b.get
      CFU.MBX_P1_P1 0 i % 2 = 1) ∧
    (∃ s : State, ∃ i : Nat, ∃ a : Nat, i < 2 ∧ s.b.running = true ∧ (s.b.mbx i).stage = .checking ∧ a = s.b.get CFU.MBX_P0_P0 0 i % 65536 %
      32 ∧ s.b.handleCheck (s.b.get CFU.MBX_P0_P0 0 i % 65536) = none ∧ s.b.axState a = 2 ∧ s.b.get CFU.MBX_CMD_OP 0 i = 3 ∧ 1 < s.b.get
      AX.AX_STATE_SETS a ∧ [1, 2, 4].contains (s.b.axComm a) = true ∧ s.b.get CFU.MBX_P1_P1 0 i % 8 ≠ 0 ∧ s.b.get CFU.MBX_P1_P1 0 i % 8 &&&
      s.b.get AX.AX_STATE_SETS_LIVE a = s.b.get CFU.MBX_P1_P1 0 i % 8 ∧ s.b.get CFU.MBX_P1_P1 0 i % 8 ≠ s.b.get AX.AX_STATE_SETS_LIVE a ∧ (∀
      j, j < 3 → (s.b.setLegs a j).length = 3 ∨ s.b.setLegs a j = []) ∧ (∀ j, j < 3 → bit (s.b.get AX.AX_STATE_SETS_LIVE a) j = true →
      s.b.setLegs a j ≠ [])) :=
  ⟨⟨⟨(blk 1 []), [], []⟩, .hsp, 0, by decide⟩,
   ⟨⟨(blk 3 []), [], []⟩, .spu, 1, by decide⟩,
   ⟨⟨(blk 4 []), [], []⟩, .spu, 1, by decide⟩,
   ⟨⟨(blk 1 []), [], []⟩, .hsp, 0, 5, by decide⟩,
   ⟨⟨(blk 1 []), [], []⟩, .hsp, 0, 16, by decide⟩,
   ⟨⟨{ blk 1 [(CFU.MBX_P0_P0, 23, 0, 1), (CFU.MBX_P1_P1, 1, 0, 1), (CFU.MBX_CMD_OP, 2, 0, 1), (AX.AX_STATE_STATE, 2, 23, 0)] with mbxs := [(1, { stage := .checking })] },
     [], []⟩, 1, 23, by decide⟩,
   ⟨⟨{ blk 1 [(CFU.MBX_P0_P0, 23, 0, 0), (CFU.MBX_P1_P1, 1, 0, 0), (CFU.MBX_CMD_OP, 3, 0, 0), (AX.AX_STATE_STATE, 2, 23, 0), (AX.AX_STATE_SETS, 2, 23, 0), (AX.AX_STATE_SETS_LIVE, 3, 23, 0), (⟨AX.AX_CFG, 4, 3⟩, 1, 23, 0), (⟨AX.AX_LEGS_LO, 0, 32⟩, 63, 23, 0)] with mbxs := [(0, { stage := .checking })] },
     [], []⟩, 0, 23, by decide⟩⟩

set_option maxRecDepth 20000 in
/-- States and operands that meet the hypotheses of MailboxMeridians. -/
theorem witness_mailboxMeridians :
    (∃ s : State, ∃ i : Nat, i < 2 ∧ s.b.running = true ∧ (s.b.mbx i).stage = .queued ∧ (s.b.mbx (1 - i)).stage = .idle ∧ s.b.get
      CFU.MBX_CMD_OP 0 i = 4 ∧ 1 ≤ s.b.mode ∧ s.b.mode ≤ 4) ∧
    (∃ s : State, ∃ i : Nat, ∃ ps : List Placed, i < 2 ∧ s.b.running = true ∧ (s.b.mbx i).stage = .checking ∧ s.b.createNo (s.b.mbxArgs i) =
      none ∧ s.b.createPlace (s.b.mbxArgs i) = (ps, none) ∧ s.b.get CFU.MBX_CMD_OP 0 i = 4) ∧
    (∃ s : State, ∃ i : Nat, ∃ ps : List Placed, ∃ a, i < 2 ∧ s.b.running = true ∧ (s.b.mbx i).stage = .checking ∧ s.b.createNo (s.b.mbxArgs
      i) = none ∧ s.b.createPlace (s.b.mbxArgs i) = (ps, none) ∧ s.b.get CFU.MBX_CMD_OP 0 i = 1 ∧ s.b.freeSlot = some a) ∧
    (∃ s : State, ∃ i : Nat, i < 2 ∧ s.b.running = true ∧ (s.b.mbx i).stage = .passed ∧ s.b.get CFU.MBX_CMD_OP 0 i ≠ 1) ∧
    (∃ s : State, ∃ a : Nat, a < s.b.numAxes ∧ s.b.running = true ∧ s.b.tbRuns (s.b.axTb a) = true ∧ s.b.axState a = 1 ∧ (s.b.ax a).faults =
      []) ∧
    (∃ s : State, ∃ a : Nat, a < s.b.numAxes ∧ s.b.running = true ∧ s.b.tbRuns (s.b.axTb a) = true ∧ s.b.axState a = 3) ∧
    (∃ s : State, ∃ a : Nat, a < s.b.numAxes ∧ s.b.running = true ∧ s.b.tbRuns (s.b.axTb a) = true ∧ s.b.axState a = 5) :=
  ⟨⟨⟨{ blk 4 [(CFU.MBX_CMD_OP, 4, 0, 1)] with mbxs := [(1, { stage := .queued })] }, [], []⟩, 1, by decide⟩,
   ⟨⟨{ blk 1 [(CFU.MBX_P0_P0, 3, 0, 0), (CFU.MBX_P2_MOD, 7, 0, 0), (CFU.MBX_P3_SP_SRC, 1, 0, 0), (EGA.TB_STAT_RUN, 1, 0, 0), (⟨EGA.TB_PERIOD_ACT, 0, 32⟩, 64000, 0, 0), (CFU.MBX_CMD_OP, 4, 0, 0)] with mbxs := [(0, { stage := .checking })] },
     [], []⟩, 0, [], by decide⟩,
   ⟨⟨{ blk 1 [(CFU.MBX_P0_P0, 3, 0, 0), (CFU.MBX_P2_MOD, 7, 0, 0), (CFU.MBX_P3_SP_SRC, 1, 0, 0), (EGA.TB_STAT_RUN, 1, 0, 0), (⟨EGA.TB_PERIOD_ACT, 0, 32⟩, 64000, 0, 0), (CFU.MBX_CMD_OP, 1, 0, 0)] with mbxs := [(0, { stage := .checking })] },
     [], []⟩, 0, [], 0, by decide⟩,
   ⟨⟨{ blk 1 [(CFU.MBX_CMD_OP, 2, 0, 0)] with mbxs := [(0, { stage := .passed })] }, [], []⟩, 0, by decide⟩,
   ⟨⟨(blk 1 [(EGA.TB_STAT_RUN, 1, 0, 0), (⟨EGA.TB_PERIOD_ACT, 0, 32⟩, 64000, 0, 0), (AX.AX_STATE_STATE, 1, 23, 0), (⟨AX.AX_LEGS_LO, 0, 32⟩,
     3, 23, 0)]), [], []⟩, 23, by decide⟩,
   ⟨⟨(blk 1 [(EGA.TB_STAT_RUN, 1, 0, 0), (⟨EGA.TB_PERIOD_ACT, 0, 32⟩, 64000, 0, 0), (AX.AX_STATE_STATE, 3, 23, 0), (⟨AX.AX_LEGS_LO, 0, 32⟩,
     3, 23, 0)]), [], []⟩, 23, by decide⟩,
   ⟨⟨(blk 1 [(EGA.TB_STAT_RUN, 1, 0, 0), (⟨EGA.TB_PERIOD_ACT, 0, 32⟩, 64000, 0, 0), (AX.AX_STATE_STATE, 5, 23, 0), (⟨AX.AX_LEGS_LO, 0, 32⟩,
     3, 23, 0), (LEG.LEG_STAT_OWNER, 2, 0, 0), (LEG.LEG_STAT_OWNER, 2, 1, 0), (LC.LC_STAT_ST, 2, 5, 0), (LC.LC_CFG_AXIS, 23, 5, 0),
     (LC.LC_CFG_PROG, 1, 5, 0)]), [(0x490510, 7), (0x490610, 8)], []⟩, 23, by decide⟩⟩

/-- States and operands that meet the hypotheses of CommandPins. -/
theorem witness_commandPins :
    (∃ s : State, ∃ n : Nat, ∃ period, n < 24 ∧ s.b.running = true ∧ s.b.mode ≠ 0 ∧ s.b.get CFU.CP_CFG_MODE 0 n = 2 ∧ 3125 ≤ period ∧ period
      ≤ 1250000) ∧
    (∃ s : State, ∃ n : Nat, ∃ period, n < 24 ∧ s.b.running = true ∧ s.b.mode ≠ 0 ∧ s.b.get CFU.CP_CFG_MODE 0 n = 2 ∧ 3125 ≤ period ∧ period
      ≤ 1250000) ∧
    (∃ s : State, ∃ n : Nat, n < 24 ∧ s.b.running = true ∧ s.b.mode ≠ 0 ∧ s.b.get CFU.CP_CFG_MODE 0 n = 2 ∧ s.b.on CFU.CP_FLAGS_LOSS 0 n =
      false) ∧
    (∃ s : State, ∃ n : Nat, n < 24 ∧ s.b.running = true ∧ s.b.mode ≠ 0 ∧ s.b.get CFU.CP_CFG_MODE 0 n = 2 ∧ s.b.on CFU.CP_FLAGS_LOSS 0 n =
      true ∧ s.b.on CFU.CP_CFG_LATCH 0 n = false) :=
  ⟨⟨⟨(blk 1 [(CFU.CP_CFG_MODE, 2, 0, 23)]), [], []⟩, 23, 3125, by decide⟩,
   ⟨⟨(blk 1 [(CFU.CP_CFG_MODE, 2, 0, 23)]), [], []⟩, 23, 1250000, by decide⟩,
   ⟨⟨(blk 1 [(CFU.CP_CFG_MODE, 2, 0, 23)]), [], []⟩, 23, by decide⟩,
   ⟨⟨(blk 1 [(CFU.CP_CFG_MODE, 2, 0, 23), (CFU.CP_FLAGS_LOSS, 1, 0, 23)]), [], []⟩, 23, by decide⟩⟩

/-- States and operands that meet the hypotheses of AxisCommands. -/
theorem witness_axisCommands :
    (∃ s : State, ∃ m : Master, ∃ a : Nat, ∃ w : Word, ∃ op : Nat, a < s.b.numAxes ∧ s.writable m (0x60 + a) = true ∧ s.b.axState a ≠ 0 ∧ 1
      ≤ op ∧ op ≤ 5 ∧ s.b.axCmdCheck a (AX.AX_CMD_OP.into (AX.AX_CMD_GO.into w 1) op) = 0) ∧
    (∃ s : State, ∃ m : Master, ∃ a : Nat, ∃ w : Word, ∃ op : Nat, a < s.b.numAxes ∧ s.writable m (0x60 + a) = true ∧ s.b.axState a ≠ 0 ∧ 1
      ≤ op ∧ op ≤ 5 ∧ s.b.axCmdCheck a (AX.AX_CMD_OP.into (AX.AX_CMD_GO.into w 1) op) = 0) ∧
    (∃ s : State, ∃ m : Master, ∃ a : Nat, ∃ w : Word, a < s.b.numAxes ∧ s.writable m (0x60 + a) = true ∧ s.b.axState a ≠ 0 ∧ s.b.axCmdCheck
      a (AX.AX_CMD_GO.into w 1) ≠ 0) ∧
    (∃ b : Block, ∃ a : Nat, ∃ w : Word, b.handleCheck (AX.AX_CMD_HANDLE.of w) = none ∧ AX.AX_CMD_HANDLE.of w % 32 = a ∧ (AX.AX_CMD_OP.of w
      = 0 ∨ 5 < AX.AX_CMD_OP.of w)) :=
  ⟨⟨⟨(blk 2 [(AX.AX_STATE_STATE, 2, 23, 0)]), [], []⟩, .hsp, 23, AX.AX_CMD_HANDLE.into 0 23, 1, by decide⟩,
   ⟨⟨(blk 2 [(AX.AX_STATE_STATE, 2, 23, 0), (⟨AX.AX_CFG, 4, 3⟩, 1, 23, 0), (AX.AX_DRV_STATE, 3, 23, 0)]), [], []⟩, .hsp, 23,
     AX.AX_CMD_HANDLE.into 0 23, 5, by decide⟩,
   ⟨⟨(blk 1 [(AX.AX_STATE_STATE, 2, 23, 0)]), [], []⟩, .hsp, 23, AX.AX_CMD_HANDLE.into 0 22, by decide⟩,
   ⟨(blk 1 [(AX.AX_STATE_STATE, 2, 23, 0)]), 23, AX.AX_CMD_OP.into (AX.AX_CMD_HANDLE.into 0 23) 6, by decide⟩⟩

/-- States and operands that meet the hypotheses of DriveStates. -/
theorem witness_driveStates :
    (∃ s : State, ∃ a : Nat, ∃ op : Nat, ∃ force : Bool, a < s.b.numAxes ∧ s.b.running = true ∧ (s.b.ax a).cmd = some (op, force)) ∧
    (∃ s : State, ∃ a : Nat, a < s.b.numAxes ∧ s.b.running = true ∧ (s.b.ax a).cmd = some (3, false) ∧ s.b.drv a = 3 ∧ s.b.on AX.AX_DRV_UCG
      a = false) ∧
    (∃ s : State, ∃ a : Nat, a < s.b.numAxes ∧ s.b.running = true ∧ s.b.drv a = 1 ∧ (s.b.ax a).catching.steps < 2) ∧
    (∃ s : State, ∃ a : Nat, a < s.b.numAxes ∧ s.b.running = true ∧ s.b.drv a = 2 ∧ s.b.axComm a = 2 ∧ (s.b.ax a).polarity = false) ∧
    (∃ s : State, ∃ a : Nat, a < s.b.numAxes ∧ s.b.running = true ∧ s.b.drv a = 2 ∧ s.b.axComm a = 1) ∧
    (∃ s : State, ∃ a : Nat, a < s.b.numAxes ∧ s.b.running = true ∧ s.b.drv a = 4 ∧ s.b.axGet AX.AX_START_RESTART a ≠ 1) ∧
    (∃ s : State, ∃ a : Nat, a < s.b.numAxes ∧ s.b.running = true ∧ s.b.drv a = 4 ∧ s.b.axGet AX.AX_START_RESTART a = 1) ∧
    (∃ s : State, ∃ a : Nat, a < s.b.numAxes ∧ s.b.running = true ∧ s.b.drv a = 5) ∧
    (∃ s : State, ∃ a : Nat, a < s.b.numAxes ∧ s.b.running = true ∧ (s.b.drv a = 3 ∨ s.b.drv a = 8) ∧ (s.b.ax a).stalling = true ∧ s.b.axGet
      AX.AX_START_STALL_ACT a ≠ 1) ∧
    (∃ s : State, ∃ a : Nat, a < s.b.numAxes ∧ s.b.running = true ∧ s.b.drv a = 7 ∧ (s.b.ax a).dcHold = false ∧ s.b.axGet AX.AX_TIME2_T_DC a
      ≠ 0) ∧
    (∃ s : State, ∃ a : Nat, a < s.b.numAxes ∧ s.b.running = true ∧ s.b.drv a = 7 ∧ (s.b.ax a).dcHold = true) :=
  ⟨⟨⟨{ blk 1 [(AX.AX_STATE_STATE, 2, 23, 0), (AX.AX_DRV_CMD_PEND, 1, 23, 0)] with axes := [(23, { cmd := some (1, false) })] }, [], []⟩, 23,
    1, false, by decide⟩,
   ⟨⟨{ blk 1 [(AX.AX_STATE_STATE, 2, 23, 0), (AX.AX_STATE_SETS_LIVE, 1, 23, 0), (⟨AX.AX_LEGS_LO, 0, 32⟩, 3, 23, 0), (AX.AX_DRV_STATE, 3, 23, 0), (AX.AX_DRV_CMD_PEND, 1, 23, 0)] with axes := [(23, { cmd := some (3, false) })] },
     [], []⟩, 23, by decide⟩,
   ⟨⟨(blk 1 [(AX.AX_STATE_STATE, 2, 23, 0), (AX.AX_STATE_SETS_LIVE, 1, 23, 0), (⟨AX.AX_LEGS_LO, 0, 32⟩, 3, 23, 0), (AX.AX_DRV_STATE, 1, 23,
     0), (⟨AX.AX_CFG, 4, 3⟩, 1, 23, 0)]), [], []⟩, 23, by decide⟩,
   ⟨⟨(blk 1 [(AX.AX_STATE_STATE, 2, 23, 0), (AX.AX_STATE_SETS_LIVE, 1, 23, 0), (⟨AX.AX_LEGS_LO, 0, 32⟩, 3, 23, 0), (AX.AX_DRV_STATE, 2, 23,
     0), (⟨AX.AX_CFG, 4, 3⟩, 2, 23, 0)]), [], []⟩, 23, by decide⟩,
   ⟨⟨(blk 1 [(AX.AX_STATE_STATE, 2, 23, 0), (AX.AX_STATE_SETS_LIVE, 1, 23, 0), (⟨AX.AX_LEGS_LO, 0, 32⟩, 3, 23, 0), (AX.AX_DRV_STATE, 2, 23,
     0), (⟨AX.AX_CFG, 4, 3⟩, 1, 23, 0), (⟨FB.FB_PX, 0, 32⟩, 77, 0, 0)]), [], []⟩, 23, by decide⟩,
   ⟨⟨(blk 1 [(AX.AX_STATE_STATE, 2, 23, 0), (AX.AX_STATE_SETS_LIVE, 1, 23, 0), (⟨AX.AX_LEGS_LO, 0, 32⟩, 3, 23, 0), (AX.AX_DRV_STATE, 4, 23,
     0), (⟨AX.AX_CFG, 4, 3⟩, 2, 23, 0)]), [], []⟩, 23, by decide⟩,
   ⟨⟨(blk 1 [(AX.AX_STATE_STATE, 2, 23, 0), (AX.AX_STATE_SETS_LIVE, 1, 23, 0), (⟨AX.AX_LEGS_LO, 0, 32⟩, 3, 23, 0), (AX.AX_DRV_STATE, 4, 23,
     0), (⟨AX.AX_CFG, 4, 3⟩, 2, 23, 0), (AX.AX_START_RESTART, 1, 23, 0)]), [], []⟩, 23, by decide⟩,
   ⟨⟨(blk 1 [(AX.AX_STATE_STATE, 2, 23, 0), (AX.AX_STATE_SETS_LIVE, 1, 23, 0), (⟨AX.AX_LEGS_LO, 0, 32⟩, 3, 23, 0), (AX.AX_DRV_STATE, 5, 23,
     0), (⟨AX.AX_CFG, 4, 3⟩, 2, 23, 0)]), [], []⟩, 23, by decide⟩,
   ⟨⟨{ blk 1 [(AX.AX_STATE_STATE, 2, 23, 0), (AX.AX_STATE_SETS_LIVE, 1, 23, 0), (⟨AX.AX_LEGS_LO, 0, 32⟩, 3, 23, 0), (AX.AX_DRV_STATE, 8, 23, 0), (⟨AX.AX_CFG, 4, 3⟩, 2, 23, 0), (AX.AX_START_STALL_ACT, 0, 23, 0)] with axes := [(23, { stalling := true })] },
     [], []⟩, 23, by decide⟩,
   ⟨⟨(blk 1 [(AX.AX_STATE_STATE, 2, 23, 0), (AX.AX_STATE_SETS_LIVE, 1, 23, 0), (⟨AX.AX_LEGS_LO, 0, 32⟩, 3, 23, 0), (AX.AX_DRV_STATE, 7, 23,
     0), (⟨AX.AX_CFG, 4, 3⟩, 2, 23, 0), (AX.AX_TIME2_T_DC, 1, 23, 0)]), [], []⟩, 23, by decide⟩,
   ⟨⟨{ blk 1 [(AX.AX_STATE_STATE, 2, 23, 0), (AX.AX_STATE_SETS_LIVE, 1, 23, 0), (⟨AX.AX_LEGS_LO, 0, 32⟩, 3, 23, 0), (AX.AX_DRV_STATE, 7, 23, 0), (⟨AX.AX_CFG, 4, 3⟩, 2, 23, 0)] with axes := [(23, { dcHold := true })] },
     [], []⟩, 23, by decide⟩⟩

set_option maxRecDepth 20000 in
/-- States and operands that meet the hypotheses of StartUp. -/
theorem witness_startUp :
    (∃ s : State, s.b.crm.phase = .arrayRead ∧ s.b.lifecycleFault = none) ∧
    (∃ s : State, s.b.crm.phase = .digests ∧ s.b.startFault = none ∧ s.b.crm.relocking = false) ∧
    (∃ s : State, s.b.crm.phase = .locked) :=
  ⟨⟨⟨{ blk 0 [] with crm := { phase := .arrayRead, porstLow := false } }, [], []⟩, by decide⟩,
   ⟨⟨{ blk 0 [] with crm := { phase := .digests, porstLow := false } }, [], []⟩, by decide⟩,
   ⟨⟨{ blk 0 [] with crm := { phase := .locked, porstLow := false } }, [(0x200000, 1), (0x490000, 2)], []⟩, by decide⟩⟩

/-- States and operands that meet the hypotheses of CoreResets. -/
theorem witness_coreResets :
    (∃ s : State, s.b.crm.phase = .run) ∧
    (∃ r : Reg, ∃ i : Nat, ∃ j : Nat, keptAddr (r.addr i j) = false ∧ r.addr i j ∉ [CRM.CLK_STAT.addr 0 0, CRM.RST_CAUSE.addr 0 0,
      OTP.BOOT_STATUS.addr 0 0] ∧ (∀ leg, leg < 64 → r.addr i j ≠ HDR.EVT_STAT.addr (0x20 + leg) 0)) :=
  ⟨⟨⟨(blk 1 []), [], []⟩, by decide⟩,
   ⟨LEG.LEG_CMP1, 3, 0, by decide⟩⟩

/-- States and operands that meet the hypotheses of OtpCommands. -/
theorem witness_otpCommands :
    (∃ s : State, ∃ m : Master, ∃ key : Byte, ∃ force : Byte, ∃ op : Nat, s.writable m 2 = true ∧ 1 ≤ op ∧ op ≤ 5 ∧ (op = 4 ∨ force = 0) ∧
      s.b.otpCheck op (s.b.get OTP.ADDR_WORD) (s.b.get OTP.ADDR_UNIT) (s.b.rd OTP.WDATA) key.toNat force.toNat = 0) ∧
    (∃ s : State, ∃ m : Master, ∃ key : Byte, ∃ force : Byte, ∃ op : Nat, s.writable m 2 = true ∧ 1 ≤ op ∧ op ≤ 5 ∧ (op = 4 ∨ force = 0) ∧
      s.b.otpCheck op (s.b.get OTP.ADDR_WORD) (s.b.get OTP.ADDR_UNIT) (s.b.rd OTP.WDATA) key.toNat force.toNat = 0) ∧
    (∃ s : State, ∃ m : Master, ∃ key : Byte, ∃ force : Byte, ∃ op : Nat, ∃ code : Nat, s.writable m 2 = true ∧ 1 ≤ op ∧ op ≤ 5 ∧ (op = 4 ∨
      force = 0) ∧ code ≠ 0 ∧ s.b.otpCheck op (s.b.get OTP.ADDR_WORD) (s.b.get OTP.ADDR_UNIT) (s.b.rd OTP.WDATA) key.toNat force.toNat =
      code) ∧
    (∃ s : State, ∃ m : Master, ∃ op : Nat, s.writable m 2 = true ∧ (op % 16 = 0 ∨ 5 < op % 16) ∧ s.b.on OTP.STATUS_BUSY = false) ∧
    (∃ s : State, ∃ m : Master, ∃ op : Nat, s.writable m 2 = true ∧ (op % 16 = 0 ∨ 5 < op % 16) ∧ s.b.on OTP.STATUS_BUSY = false) ∧
    (∃ s : State, ∃ r : OtpRun, ∃ d : Word, ∃ x : Bool, s.b.otp.run = some r ∧ s.b.running = true ∧ r.op = 1 ∧ r.margin = 0 ∧ fuseDecode
      (s.b.fuse r.word).normal = some (d, x)) ∧
    (∃ s : State, ∃ reads : List FuseRaw, ∃ r : OtpRun, ∃ w : Nat, ∃ cw : BitVec 39, ∃ f : FuseRaw, ∃ hi : BitVec 39, ∃ mid : BitVec 39,
      s.b.otp.run = some r ∧ s.b.running = true ∧ r.op = 2 ∧ hi = (s.b.fuse w).high ||| (f.high &&& cw) ∧ mid = (s.b.fuse w).normal |||
      (f.normal &&& cw) ||| hi ∧ r.targets = [(w, cw)] ∧ reads = [f] ∧ s.b.otp.lost = false) :=
  ⟨⟨⟨(blk 1 [(OTP.ADDR_WORD, 1, 0, 0)]), [], []⟩, .hsp, 0, 0, 1, by decide⟩,
   ⟨⟨{ blk 1 [(OTP.ADDR_WORD, 5, 0, 0), (⟨OTP.WDATA, 0, 32⟩, 5, 0, 0)] with crm := { phase := .run, porstLow := false, vqpsOk := true } },
     [], []⟩, .hsp, 0xC3, 0, 2, by decide⟩,
   ⟨⟨(blk 1 []), [], []⟩, .hsp, 0, 0, 2, 3, by decide⟩,
   ⟨⟨(blk 1 []), [], []⟩, .hsp, 6, by decide⟩,
   ⟨⟨(blk 1 []), [], []⟩, .hsp, 16, by decide⟩,
   ⟨⟨{ blk 1 [] with otp := { run := some ⟨1, 1, 0, 0, 0, 0, []⟩ } }, [], []⟩, ⟨1, 1, 0, 0, 0, 0, []⟩, 0, false, by decide⟩,
   ⟨⟨{ blk 1 [] with otp := { run := some ⟨2, 0x30, 0, 0, 5, 0, [(0x30, 5)]⟩ } }, [], []⟩, [⟨7, 5, 4⟩], ⟨2, 0x30, 0, 0, 5, 0, [(0x30, 5)]⟩,
     0x30, 5, ⟨7, 5, 4⟩, 4, 5, by decide⟩⟩

/-- States and operands that meet the hypotheses of WordFrames. -/
theorem witness_wordFrames :
    (∃ s : State, ∃ h : HspHdr, ∃ w : Word, ∃ u : Access × State, s.served = true ∧ s.b.plainFrames = true ∧ s.b.mode ≠ 0 ∧ u = s.busWrite
      .hsp (frameAddr h) w 0xFFFFFFFF#32 ∧ u.2.served = true) ∧
    (∃ s : State, ∃ h : HspHdr, ∃ mask : Word, ∃ w : Word, ∃ u : Access × State, s.served = true ∧ s.b.plainFrames = true ∧ s.b.mode ≠ 0 ∧ u
      = s.busWrite .hsp (frameAddr h) w mask ∧ u.2.served = true) :=
  ⟨⟨⟨(blk 1 [(HSP.FRAME_CFG_CRC_EN, 0, 0, 0), (HSP.FRAME_CFG_WIDTH, 2, 0, 0), (HSP.FRAME_CFG_ADDR24, 1, 0, 0)]), [], []⟩, ⟨9, 0x011040, 0,
    [], []⟩, 7, (⟨(blk 1 [(HSP.FRAME_CFG_CRC_EN, 0, 0, 0), (HSP.FRAME_CFG_WIDTH, 2, 0, 0), (HSP.FRAME_CFG_ADDR24, 1, 0, 0)]), [], []⟩ :
    State).busWrite .hsp (frameAddr ⟨9, 0x011040, 0, [], []⟩) 7 0xFFFFFFFF#32, by decide⟩,
   ⟨⟨(blk 1 [(HSP.FRAME_CFG_CRC_EN, 0, 0, 0), (HSP.FRAME_CFG_WIDTH, 2, 0, 0), (HSP.FRAME_CFG_ADDR24, 1, 0, 0)]), [], []⟩, ⟨9, 0x011040, 0,
     [], []⟩, 2, 7, (⟨(blk 1 [(HSP.FRAME_CFG_CRC_EN, 0, 0, 0), (HSP.FRAME_CFG_WIDTH, 2, 0, 0), (HSP.FRAME_CFG_ADDR24, 1, 0, 0)]), [], []⟩ :
     State).busWrite .hsp (frameAddr ⟨9, 0x011040, 0, [], []⟩) 7 2, by decide⟩⟩

set_option maxRecDepth 20000 in
/-- States and operands that meet the hypotheses of RingAndDebugFrames. -/
theorem witness_ringAndDebugFrames :
    (∃ s : State, ∃ h : HspHdr, ∃ n : Nat, ∃ entry, ∃ u : State, s.served = true ∧ s.b.plainFrames = true ∧ h.late = [] ∧ s.b.mode ≠ 0 ∧ n =
      h.addr.toNat % 65536 % 64 ∧ s.b.ringState n = 1 ∧ s.b.qreServes = true ∧ (∀ r, r < s.b.numRings → (s.b.ring r).staged = []) ∧ 0 <
      s.b.esize n ∧ s.b.frameRing (h.addr.toNat % 65536) RG.RG_ENDS_PROD = 0 ∧ entry.length = s.b.esize n ∧ s.pushEntry n entry = (0, u)) ∧
    (∃ s : State, ∃ h : HspHdr, ∃ n : Nat, ∃ ws : List Word, ∃ u : State, s.served = true ∧ s.b.plainFrames = true ∧ h.late = [] ∧ s.b.mode
      ≠ 0 ∧ n = h.addr.toNat % 65536 % 64 ∧ s.b.ringState n = 1 ∧ s.b.qreServes = true ∧ (∀ r, r < s.b.numRings → (s.b.ring r).staged = [])
      ∧ 0 < s.b.esize n ∧ s.b.frameRing (h.addr.toNat % 65536) RG.RG_ENDS_CONS = 0 ∧ s.b.occ n ≠ 0 ∧ s.headEntry n .hsp = (ws, u)) ∧
    (∃ s : State, ∃ h : HspHdr, ∃ level : Nat, s.served = true ∧ s.b.plainFrames = true ∧ s.b.on SEC.SEC_STAT_LOCKOUT = false ∧
      s.b.sec.response = none ∧ level = h.addr.toNat % 4 ∧ level ≤ s.b.maxLevel ∧ s.b.lc0 ≠ 2) ∧
    (∃ s : State, ∃ h : HspHdr, ∃ data : List Word, s.served = true ∧ s.b.plainFrames = true ∧ s.b.on SEC.SEC_STAT_LOCKOUT = false ∧
      s.b.sec.response = none ∧ data.length = 32 ∧ s.b.sec.chal = true ∧ s.b.get SEC.DBG_STAT_SEQ = h.addr.toNat % 65536) :=
  ⟨⟨⟨(blk 1 [(HSP.FRAME_CFG_CRC_EN, 0, 0, 0), (HSP.FRAME_CFG_WIDTH, 2, 0, 0), (HSP.FRAME_CFG_ADDR24, 1, 0, 0), (RG.RG_STAT_STATE, 1, 63, 0),
    (QRE.QRE_CTL_EN, 1, 0, 0), (RG.RG_BASE_BASE, 2097152, 63, 0), (BK.BANK_STAT_READY, 1, 0, 0), (BK.BANK_OWN_OWNER, 2, 0, 0),
    (RG.RG_CFG_DLOG, 2, 63, 0), (RG.RG_CFG_ESIZE, 3, 63, 0), (RG.RG_CFG_POLICY, 2, 63, 0), (RG.RG_CFG_TYPE, 4, 63, 0), (RG.RG_ENDS_CONS, 3,
    63, 0)]), [], []⟩, ⟨9, 63, 0, [], []⟩, 63, [1, 2, 3], ((⟨(blk 1 [(HSP.FRAME_CFG_CRC_EN, 0, 0, 0), (HSP.FRAME_CFG_WIDTH, 2, 0, 0),
    (HSP.FRAME_CFG_ADDR24, 1, 0, 0), (RG.RG_STAT_STATE, 1, 63, 0), (QRE.QRE_CTL_EN, 1, 0, 0), (RG.RG_BASE_BASE, 2097152, 63, 0),
    (BK.BANK_STAT_READY, 1, 0, 0), (BK.BANK_OWN_OWNER, 2, 0, 0), (RG.RG_CFG_DLOG, 2, 63, 0), (RG.RG_CFG_ESIZE, 3, 63, 0), (RG.RG_CFG_POLICY,
    2, 63, 0), (RG.RG_CFG_TYPE, 4, 63, 0), (RG.RG_ENDS_CONS, 3, 63, 0)]), [], []⟩ : State).pushEntry 63 [1, 2, 3]).2, by decide, by decide,
    by decide, by decide, by decide, by decide, by decide, fun _ _ => rfl, by decide, by decide, by decide, by decide⟩,
   ⟨⟨(blk 1 [(HSP.FRAME_CFG_CRC_EN, 0, 0, 0), (HSP.FRAME_CFG_WIDTH, 2, 0, 0), (HSP.FRAME_CFG_ADDR24, 1, 0, 0), (RG.RG_STAT_STATE, 1, 63, 0),
     (QRE.QRE_CTL_EN, 1, 0, 0), (RG.RG_BASE_BASE, 2097152, 63, 0), (BK.BANK_STAT_READY, 1, 0, 0), (BK.BANK_OWN_OWNER, 2, 0, 0),
     (RG.RG_CFG_DLOG, 2, 63, 0), (RG.RG_CFG_ESIZE, 3, 63, 0), (RG.RG_CFG_TYPE, 3, 63, 0), (RG.RG_ENDS_PROD, 3, 63, 0), (RG.RG_WIDX_INDEX, 1,
     63, 0)]), [(0x200004, 5)], []⟩, ⟨9, 63, 0, [], []⟩, 63, ((⟨(blk 1 [(HSP.FRAME_CFG_CRC_EN, 0, 0, 0), (HSP.FRAME_CFG_WIDTH, 2, 0, 0),
     (HSP.FRAME_CFG_ADDR24, 1, 0, 0), (RG.RG_STAT_STATE, 1, 63, 0), (QRE.QRE_CTL_EN, 1, 0, 0), (RG.RG_BASE_BASE, 2097152, 63, 0),
     (BK.BANK_STAT_READY, 1, 0, 0), (BK.BANK_OWN_OWNER, 2, 0, 0), (RG.RG_CFG_DLOG, 2, 63, 0), (RG.RG_CFG_ESIZE, 3, 63, 0), (RG.RG_CFG_TYPE,
     3, 63, 0), (RG.RG_ENDS_PROD, 3, 63, 0), (RG.RG_WIDX_INDEX, 1, 63, 0)]), [(0x200004, 5)], []⟩ : State).headEntry 63 .hsp).1, ((⟨(blk 1
     [(HSP.FRAME_CFG_CRC_EN, 0, 0, 0), (HSP.FRAME_CFG_WIDTH, 2, 0, 0), (HSP.FRAME_CFG_ADDR24, 1, 0, 0), (RG.RG_STAT_STATE, 1, 63, 0),
     (QRE.QRE_CTL_EN, 1, 0, 0), (RG.RG_BASE_BASE, 2097152, 63, 0), (BK.BANK_STAT_READY, 1, 0, 0), (BK.BANK_OWN_OWNER, 2, 0, 0),
     (RG.RG_CFG_DLOG, 2, 63, 0), (RG.RG_CFG_ESIZE, 3, 63, 0), (RG.RG_CFG_TYPE, 3, 63, 0), (RG.RG_ENDS_PROD, 3, 63, 0), (RG.RG_WIDX_INDEX, 1,
     63, 0)]), [(0x200004, 5)], []⟩ : State).headEntry 63 .hsp).2, by decide, by decide, by decide, by decide, by decide, by decide, by
     decide, fun _ _ => rfl, by decide, by decide, by decide, by decide⟩,
   ⟨⟨(blk 1 [(HSP.FRAME_CFG_CRC_EN, 0, 0, 0), (HSP.FRAME_CFG_WIDTH, 2, 0, 0), (HSP.FRAME_CFG_ADDR24, 1, 0, 0)]), [], []⟩, ⟨9, 2, 0, [], []⟩,
     2, by decide⟩,
   ⟨⟨{ blk 1 [(HSP.FRAME_CFG_CRC_EN, 0, 0, 0), (HSP.FRAME_CFG_WIDTH, 2, 0, 0), (HSP.FRAME_CFG_ADDR24, 1, 0, 0)] with sec := { chal := true } },
     [], []⟩, ⟨9, 0, 0, [], []⟩, List.replicate 32 1, by decide⟩⟩

/-- States and operands that meet the hypotheses of StatusAndBadFrames. -/
theorem witness_statusAndBadFrames :
    (∃ s : State, ∃ h : HspHdr, ∃ n : Nat, s.served = true ∧ s.b.plainFrames = true ∧ 0 < n ∧ h.late = []) ∧
    (∃ s : State, ∃ code : Byte, s.served = true ∧ code.toNat ∉ hspCodes) ∧
    (∃ s : State, ∃ code : Byte, s.served = true ∧ code.toNat ∈ hspCodes ∧ s.b.mode ≠ 0) :=
  ⟨⟨⟨(blk 1 [(HSP.FRAME_CFG_CRC_EN, 0, 0, 0), (HSP.FRAME_CFG_WIDTH, 2, 0, 0), (HSP.FRAME_CFG_ADDR24, 1, 0, 0)]), [], []⟩, ⟨9, 0, 0, [], []⟩,
    3, by decide⟩,
   ⟨⟨(blk 1 [(HSP.FRAME_CFG_CRC_EN, 0, 0, 0), (HSP.FRAME_CFG_WIDTH, 2, 0, 0), (HSP.FRAME_CFG_ADDR24, 1, 0, 0)]), [], []⟩, 0xFF, by decide⟩,
   ⟨⟨(blk 1 [(HSP.FRAME_CFG_CRC_EN, 0, 0, 0), (HSP.FRAME_CFG_WIDTH, 2, 0, 0), (HSP.FRAME_CFG_ADDR24, 1, 0, 0)]), [], []⟩, 0x61, by decide⟩⟩

/-- States and operands that meet the hypotheses of BootShutsOutHost. -/
theorem witness_bootShutsOutHost :
    (∃ s : State, ∃ h : HspHdr, ∃ c : Instr, s.served = true ∧ s.b.mode = 0 ∧ ((∃ data, c = .hspWrite h data) ∨ (∃ pairs, c =
      .hspWriteMasked h pairs) ∨ (∃ data, c = .hspRingPush h data) ∨ (∃ n, c = .hspRingPop h n) ∨ (∃ code data w, BitVec.toNat code ∈ [0x20,
      0x24, 0x40, 0x41] ∧ (c = .hspBadCommand h code data ∨ c = .hspShortFrame h code data w ∨ c = .hspSelectTimeout h code data w)))) :=
  ⟨⟨(blk 0 [(HSP.FRAME_CFG_CRC_EN, 0, 0, 0), (HSP.FRAME_CFG_WIDTH, 2, 0, 0), (HSP.FRAME_CFG_ADDR24, 1, 0, 0)]), [], []⟩, ⟨9, 2, 0, [], []⟩,
    .hspWrite ⟨9, 2, 0, [], []⟩ [1], by decide, by decide, Or.inl ⟨[1], rfl⟩⟩

/-- States and operands that meet the hypotheses of AccessCodes. -/
theorem witness_accessCodes :
    (∃ k : Nat, k < 32) :=
  ⟨31, by decide⟩

/-- States and operands that meet the hypotheses of ClosedPages. -/
theorem witness_closedPages :
    (∃ s : State, ∃ a : Nat, ∃ x : Place, s.b.placeAt (a / 4 * 4) = some x ∧ 0x40 ≤ x.reg.off ∧ s.b.fenced (x.reg.page + x.i) = true) ∧
    (∃ s : State, ∃ a : Nat, ∃ x : Place, s.b.placeAt (a / 4 * 4) = some x ∧ 0x40 ≤ x.reg.off ∧ s.b.fenced (x.reg.page + x.i) = true ∧ x.reg
      ≠ SEC.TRACE) ∧
    (∃ s : State, ∃ a : Nat, a < 0x200000 ∧ (s.b.pageExists (a / 4096) = false ∨ 0x24 ≤ a % 4096 ∧ a % 4096 < 0x40)) ∧
    (∃ s : State, ∃ a : Nat, a < 0x200000 ∧ (s.b.pageExists (a / 4096) = false ∨ 0x24 ≤ a % 4096 ∧ a % 4096 < 0x40)) ∧
    (∃ s : State, ∃ a : Nat, a < 0x200000 ∧ (s.b.pageExists (a / 4096) = false ∨ 0x24 ≤ a % 4096 ∧ a % 4096 < 0x40)) ∧
    (∃ s : State, ∃ a : Nat, a < 0x200000 ∧ s.b.pageExists (a / 4096) = true ∧ s.b.fenced (a / 4096) = true ∧ 0x40 ≤ a % 4096 ∧ s.b.placeAt
      (a / 4 * 4) = none) :=
  ⟨⟨⟨{ blk 1 [(HDR.PAGE_STAT_FENCED, 1, 176, 0)] with snap := [(SC.SC_CTL.addr 0 0, 9)] }, [], []⟩, SC.SC_CTL.addr 0 0, ⟨SC.SC_CTL, 0, 0⟩,
    by decide⟩,
   ⟨⟨{ blk 1 [(HDR.PAGE_STAT_FENCED, 1, 176, 0)] with snap := [(SC.SC_CTL.addr 0 0, 9)] }, [], []⟩, SC.SC_CTL.addr 0 0, ⟨SC.SC_CTL, 0, 0⟩,
     by decide⟩,
   ⟨⟨(blk 1 []), [], []⟩, 0x13C000, by decide⟩,
   ⟨⟨(blk 1 []), [], []⟩, 0x1024, by decide⟩,
   ⟨⟨(blk 1 []), [], []⟩, 0x1E703F, by decide⟩,
   ⟨⟨(blk 1 [(HDR.PAGE_STAT_FENCED, 1, 9, 0)]), [], []⟩, 0x9FFF, by decide⟩⟩

/-- States and operands that meet the hypotheses of RegisterWrites. -/
theorem witness_registerWrites :
    (∃ s : State, ∃ m : Master, ∃ a, ∃ r : Reg, ∃ j : Nat, s.b.busOpen m = true ∧ s.b.placeAt (a % 2 ^ 24 / 4 * 4) = some ⟨r, 0, j⟩ ∧ r.page
      = 0x11 ∧ 0x40 ≤ r.off ∧ s.b.fenced 0x11 = false) ∧
    (∃ s : State, ∃ m : Master, ∃ page, ∃ w : Word, s.b.busOpen m = true ∧ s.b.pageExists page = true ∧ HDR.PAGE_LOCK_LOCK.of w = 1 ∧
      HDR.PAGE_LOCK_KEY.of w = 0xA5) ∧
    (∃ s : State, ∃ m : Master, ∃ page, ∃ w : Word, s.b.busOpen m = true ∧ s.b.pageExists page = true ∧ HDR.PAGE_LOCK_LOCK.of w = 1 ∧
      HDR.PAGE_LOCK_KEY.of w ≠ 0xA5) ∧
    (∃ s : State, ∃ m : Master, ∃ a : Nat, ∃ x : Place, ∃ hi : Reg, ∃ flag : Option Reg, s.b.placeAt (a % 2 ^ 24 / 4 * 4) = some x ∧ (x.reg,
      hi, flag) ∈ counters64 ∧ s.b.readOpen m = true ∧ s.b.fenced (x.reg.page + x.i) = false ∧ Tab.get none s.b.latches (latchKey m
      (x.reg.addr x.i x.j)) = none) :=
  ⟨⟨⟨(blk 1 []), [], []⟩, .hsp, FBI.FBI_CTL.addr 0 0, FBI.FBI_CTL, 0, by decide⟩,
   ⟨⟨(blk 1 []), [], []⟩, .spu, 0x1E7, HDR.PAGE_LOCK_KEY.into (HDR.PAGE_LOCK_LOCK.into 0 1) 0xA5, by decide⟩,
   ⟨⟨(blk 1 []), [], []⟩, .spu, 0x1E7, HDR.PAGE_LOCK_KEY.into (HDR.PAGE_LOCK_LOCK.into 0 1) 0xA4, by decide⟩,
   ⟨⟨(blk 1 []), [], []⟩, .hsp, CRM.TS_LO.addr 0 0, ⟨CRM.TS_LO, 0, 0⟩, CRM.TS_HI, (some CRM.TS_STAT), by decide⟩⟩

/-- States and operands that meet the hypotheses of BankNotReady. -/
theorem witness_bankNotReady :
    (∃ s : State, ∃ a : Nat, ∃ n : Nat, bankOf a = some n ∧ s.b.bankReady n = false) ∧
    (∃ s : State, ∃ a : Nat, ∃ n : Nat, bankOf a = some n ∧ s.b.bankReady n = false) ∧
    (∃ s : State, ∃ a : Nat, ∃ n : Nat, bankOf a = some n ∧ s.b.bankReady n = false) ∧
    (∃ s : State, ∃ a : Nat, ∃ n : Nat, ∃ h : HspHdr, bankOf a = some n ∧ s.b.bankReady n = false ∧ s.served = true ∧ s.b.plainFrames = true
      ∧ frameAddr h = a) ∧
    (∃ s : State, ∃ a : Nat, ∃ n : Nat, bankOf a = some n ∧ s.b.bankReady n = false ∧ s.b.busOpen .spu = true) :=
  ⟨⟨⟨(blk 1 []), [], []⟩, 0x48FFFF, 43, by decide⟩,
   ⟨⟨(blk 1 []), [], []⟩, 0x200000, 0, by decide⟩,
   ⟨⟨(blk 1 []), [], []⟩, 0x200000, 0, by decide⟩,
   ⟨⟨(blk 1 [(HSP.FRAME_CFG_CRC_EN, 0, 0, 0), (HSP.FRAME_CFG_WIDTH, 2, 0, 0), (HSP.FRAME_CFG_ADDR24, 1, 0, 0)]), [], []⟩, 0x200000, 0, ⟨9,
     0x200000, 0, [], []⟩, by decide⟩,
   ⟨⟨(blk 1 []), [], []⟩, 0x480000, 40, by decide⟩⟩

/-- States and operands that meet the hypotheses of SpuBankWords. -/
theorem witness_spuBankWords :
    (∃ s : State, ∃ a : Nat, ∃ n : Nat, ∃ width : SpuWidth, s.b.busOpen .spu = true ∧ a % 4 + spuBytes width ≤ 4 ∧ bankOf a = some n ∧
      s.b.bankReady n = true ∧ s.b.upsetAt (a / 4 * 4) = 0) ∧
    (∃ s : State, ∃ a : Nat, ∃ n : Nat, ∃ width : SpuWidth, s.b.busOpen .spu = true ∧ a % 4 + spuBytes width ≤ 4 ∧ bankOf a = some n ∧
      s.b.bankReady n = true ∧ s.b.bankOwner n = 0 ∧ s.b.upsetAt (a / 4 * 4) ≠ 2) ∧
    (∃ s : State, ∃ a : Nat, ∃ n : Nat, ∃ width : SpuWidth, s.b.busOpen .spu = true ∧ a % 4 + spuBytes width ≤ 4 ∧ bankOf a = some n ∧
      s.b.bankReady n = true ∧ s.b.bankOwner n = 0 ∧ s.b.upsetAt (a / 4 * 4) ≠ 2) ∧
    (∃ s : State, ∃ a : Nat, ∃ n : Nat, ∃ width : SpuWidth, s.b.busOpen .spu = true ∧ a % 4 + spuBytes width ≤ 4 ∧ bankOf a = some n ∧
      s.b.bankReady n = true ∧ s.b.bankOwner n ≠ 0) :=
  ⟨⟨⟨(blk 1 [(BK.BANK_STAT_READY, 1, 0, 0), (BK.BANK_OWN_OWNER, 0, 0, 0)]), [(0x20FFFD, 1)], []⟩, 0x20FFFC, 0, .fetch, by decide⟩,
   ⟨⟨(blk 1 [(BK.BANK_STAT_READY, 1, 0, 0), (BK.BANK_OWN_OWNER, 0, 0, 0), (MEM.MEM_CTL_STRIPE_EN, 0, 0, 0)]), [(0x200001, 1)], []⟩,
     0x200000, 0, .word, by decide⟩,
   ⟨⟨(blk 1 [(BK.BANK_STAT_READY, 1, 0, 0), (BK.BANK_OWN_OWNER, 0, 0, 0), (MEM.MEM_CTL_STRIPE_EN, 0, 0, 0)]), [(0x200001, 1)], []⟩,
     0x200003, 0, .byte, by decide⟩,
   ⟨⟨(blk 1 [(BK.BANK_STAT_READY, 1, 0, 0), (BK.BANK_OWN_OWNER, 3, 0, 0)]), [], []⟩, 0x200002, 0, .half, by decide⟩⟩

/-- States and operands that meet the hypotheses of BankLife. -/
theorem witness_bankLife :
    (∃ s : State, ∃ n : Nat, n < 44 ∧ s.b.running = true ∧ s.b.bankPwr n = 4 ∧ s.b.on BK.BANK_PWR_TWI n = false) ∧
    (∃ s : State, ∃ n : Nat, ∃ w : Word, n < 44 ∧ s.writable .spu (0x110 + n) = true ∧ s.b.bankOwner n ≠ 4 ∧ BK.BANK_OWN_OWNER.of w < 4 ∧
      s.b.bankRings n = [] ∧ s.b.bankSessions n = []) ∧
    (∃ s : State, ∃ n : Nat, ∃ o : Nat, n < 44 ∧ s.b.running = true ∧ Tab.get none s.b.handover n = some o ∧ s.b.bankOwner n ≠ 4) ∧
    (∃ s : State, ∃ n : Nat, ∃ m : Master, n < 44 ∧ s.writable m (0x110 + n) = true ∧ s.b.bankRings n = [] ∧ s.b.bankSessions n = [] ∧
      (s.b.bankPwr n = 0 ∨ s.b.bankPwr n = 2) ∧ s.b.wakeWait = 0) ∧
    (∃ s : State, ∃ n : Nat, ∃ m : Master, n < 44 ∧ s.writable m (0x110 + n) = true ∧ s.b.bankPwr n = 1 ∧ s.b.wakeWait = 0 ∧ ((List.range
      44).filter (fun i => s.b.bankPwr i == 2)).length < 8) ∧
    (∃ s : State, ∃ n : Nat, n < 44 ∧ s.b.running = true ∧ s.b.bankPwr n = 2 ∧ s.b.wakeWait = 0) ∧
    (∃ s : State, ∃ n : Nat, n < 44 ∧ s.b.running = true ∧ s.b.bankOwner n = 4 ∧ s.b.bankRings n = []) :=
  ⟨⟨⟨(blk 1 [(BK.BANK_STAT_PWR, 4, 43, 0)]), [(0x48C000, 1), (0x490000, 2)], []⟩, 43, by decide⟩,
   ⟨⟨(blk 1 [(BK.BANK_OWN_OWNER, 0, 43, 0), (BK.BANK_STAT_READY, 1, 43, 0)]), [], []⟩, 43, BK.BANK_OWN_OWNER.into 0 3, by decide⟩,
   ⟨⟨{ blk 1 [(BK.BANK_OWN_OWNER, 0, 43, 0)] with handover := [(43, some 3)] }, [], []⟩, 43, 3, by decide⟩,
   ⟨⟨(blk 1 [(BK.BANK_STAT_READY, 1, 43, 0), (BK.BANK_STAT_PWR, 0, 43, 0)]), [], []⟩, 43, .hsp, by decide⟩,
   ⟨⟨(blk 1 [(BK.BANK_STAT_PWR, 1, 43, 0), (BK.BANK_PWR_TWI, 1, 43, 0)]), [], []⟩, 43, .hsp, by decide⟩,
   ⟨⟨(blk 1 [(BK.BANK_STAT_PWR, 2, 43, 0)]), [], []⟩, 43, by decide⟩,
   ⟨⟨(blk 1 [(BK.BANK_OWN_OWNER, 4, 43, 0)]), [(0x48C000, 1), (0x490000, 2)], []⟩, 43, by decide⟩⟩

/-- States and operands that meet the hypotheses of ParityHeals. -/
theorem witness_parityHeals :
    (∃ s : State, ∃ a : Nat, ∃ n : Nat, s.b.running = true ∧ s.b.on MEM.MEM_CTL_SCRUB_EN = true ∧ a % 4 = 0 ∧ bankOf a = some n ∧
      s.b.bankReady n = true ∧ s.b.upsetAt a = 0) ∧
    (∃ s : State, ∃ a : Nat, ∃ n : Nat, s.b.running = true ∧ s.b.on MEM.MEM_CTL_SCRUB_EN = true ∧ a % 4 = 0 ∧ bankOf a = some n ∧
      s.b.bankReady n = true ∧ s.b.striped n a = true ∧ s.b.stripeReady (n / 8) = true ∧ (∀ x, x ∈ stripeMates n a → s.b.upsetAt x ≠ 2)) ∧
    (∃ s : State, ∃ k : Nat, k < 5 ∧ Memory.wf s.mem = true ∧ s.b.running = true ∧ s.b.mapBit MEM.MEM_STAT_STRIPE_BUSY k = true ∧ (∀ i, i <
      8 → s.b.bankPwr (8 * k + i) ≠ 4)) ∧
    (∃ s : State, ∃ m : Master, s.writable m 0xA = true ∧ s.b.get MEM.MEM_STAT_STRIPE_BUSY = 0) ∧
    (∃ s : State, ∃ m : Master, s.writable m 0xA = true ∧ s.b.get MEM.MEM_STAT_STRIPE_BUSY = 0) ∧
    (∃ s : State, ∃ m : Master, ∃ w : Word, s.writable m 0xA = true ∧ s.b.get MEM.MEM_STAT_STRIPE_BUSY ≠ 0 ∧ MEM.MEM_CTL_STRIPE_EN.of w ≠
      s.b.get MEM.MEM_CTL_STRIPE_EN) :=
  ⟨⟨⟨(blk 1 [(MEM.MEM_CTL_SCRUB_EN, 1, 0, 0), (BK.BANK_STAT_READY, 1, 0, 0), (BK.BANK_OWN_OWNER, 0, 0, 0)]), [], []⟩, 0x200000, 0, by
    decide⟩,
   ⟨⟨(blk 1 [(MEM.MEM_CTL_SCRUB_EN, 1, 0, 0), (BK.BANK_STAT_READY, 1, 0, 0), (BK.BANK_STAT_READY, 1, 1, 0), (BK.BANK_STAT_READY, 1, 2, 0),
     (BK.BANK_STAT_READY, 1, 3, 0), (BK.BANK_STAT_READY, 1, 4, 0), (BK.BANK_STAT_READY, 1, 5, 0), (BK.BANK_STAT_READY, 1, 6, 0),
     (BK.BANK_STAT_READY, 1, 7, 0), (MEM.MEM_CTL_STRIPE_EN, 1, 0, 0)]), [(0x200000, 7), (0x210000, 3)], []⟩, 0x200000, 0, by decide⟩,
   ⟨⟨(blk 1 [(MEM.MEM_STAT_STRIPE_BUSY, 16, 0, 0), (BK.BANK_STAT_PWR, 0, 32, 0), (BK.BANK_STAT_PWR, 0, 33, 0), (BK.BANK_STAT_PWR, 0, 34, 0),
     (BK.BANK_STAT_PWR, 0, 35, 0), (BK.BANK_STAT_PWR, 0, 36, 0), (BK.BANK_STAT_PWR, 0, 37, 0), (BK.BANK_STAT_PWR, 0, 38, 0),
     (BK.BANK_STAT_PWR, 0, 39, 0)]), [(0x400000, 7), (0x410000, 3)], []⟩, 4, by decide⟩,
   ⟨⟨(blk 1 [(MEM.MEM_CTL_STRIPE_EN, 0, 0, 0), (MEM.MEM_STAT_STRIPE_BUSY, 0, 0, 0)]), [], []⟩, .spu, by decide⟩,
   ⟨⟨(blk 1 [(MEM.MEM_CTL_STRIPE_EN, 31, 0, 0), (MEM.MEM_STAT_STRIPE_BUSY, 0, 0, 0)]), [], []⟩, .spu, by decide⟩,
   ⟨⟨(blk 1 [(MEM.MEM_CTL_STRIPE_EN, 15, 0, 0), (MEM.MEM_STAT_STRIPE_BUSY, 8, 0, 0)]), [], []⟩, .spu, MEM.MEM_CTL_STRIPE_EN.into 0 31, by
     decide⟩⟩

/-- States and operands that meet the hypotheses of RingLife. -/
theorem witness_ringLife :
    (∃ s : State, ∃ m : Master, ∃ n : Nat, n < s.b.numRings ∧ s.writable m (0xD0 + n) = true ∧ s.b.ringState n = 0 ∧ 1 ≤ s.b.get
      RG.RG_CFG_DLOG n ∧ s.b.get RG.RG_CFG_DLOG n ≤ 12 ∧ 1 ≤ s.b.esize n ∧ s.b.esize n ≤ 512 ∧ ringTypeOk (s.b.ringType n) (s.b.policy n)
      (s.b.esize n) (s.b.get RG.RG_ENDS_PROD n) (s.b.get RG.RG_ENDS_CONS n) = true ∧ s.b.storageOk n = true) ∧
    (∃ s : State, ∃ m : Master, ∃ n : Nat, n < s.b.numRings ∧ s.writable m (0xD0 + n) = true ∧ s.b.ringState n = 0 ∧ 1 ≤ s.b.get
      RG.RG_CFG_DLOG n ∧ s.b.get RG.RG_CFG_DLOG n ≤ 12 ∧ 1 ≤ s.b.esize n ∧ s.b.esize n ≤ 512 ∧ ringTypeOk (s.b.ringType n) (s.b.policy n)
      (s.b.esize n) (s.b.get RG.RG_ENDS_PROD n) (s.b.get RG.RG_ENDS_CONS n) = true ∧ s.b.storageOk n = true) ∧
    (∃ s : State, ∃ m : Master, ∃ n : Nat, ∃ w : Word, n < s.b.numRings ∧ s.writable m (0xD0 + n) = true ∧ s.b.rgHandle n w = 0 ∧ s.b.on
      RG.RG_STAT_ATTACHED n = false) ∧
    (∃ s : State, ∃ m : Master, ∃ n : Nat, ∃ w : Word, n < s.b.numRings ∧ s.writable m (0xD0 + n) = true ∧ s.b.rgHandle n w = 0 ∧
      s.b.ringState n = 2 ∧ s.b.ringFenced n = false) ∧
    (∃ s : State, ∃ n : Nat, ∃ i : Nat, n < 64 ∧ s.b.policy n = 2 ∧ s.b.on RG.RG_STAT_MARK n = false ∧ s.b.occ n + 1 = s.b.depth n ∧
      s.b.slotRefusal n = none ∧ 3 ≤ s.b.esize n ∧ s.b.ringType n ≠ 6 ∧ s.b.entryAddr n (s.b.widx n) + 4 * s.b.esize n ≤ 0x490000 ∧ 0 < i ∧
      i < s.b.esize n) ∧
    (∃ s : State, ∃ n : Nat, n < 64 ∧ s.b.occ n = s.b.depth n ∧ s.b.policy n = 0) ∧
    (∃ s : State, ∃ n : Nat, ∃ k : Nat, ∃ c : Nat, ∃ a : Nat, n < 64 ∧ s.b.occ n = s.b.depth n ∧ s.b.policy n = 1 ∧ s.b.slotRefusal n = some
      (k, c, a)) ∧
    (∃ s : State, ∃ n : Nat, n < 64 ∧ s.b.occ n = s.b.depth n ∧ s.b.policy n = 1 ∧ s.b.slotRefusal n = none ∧ s.b.spuPop = none) ∧
    (∃ s : State, ∃ n : Nat, n < 64 ∧ s.b.occ n = s.b.depth n ∧ s.b.policy n = 2 ∧ s.b.on RG.RG_STAT_MARK n = true) :=
  ⟨⟨⟨(blk 1 [(RG.RG_BASE_BASE, 2097152, 63, 0), (BK.BANK_STAT_READY, 1, 0, 0), (BK.BANK_OWN_OWNER, 2, 0, 0), (RG.RG_CFG_DLOG, 12, 63, 0),
    (RG.RG_CFG_ESIZE, 2, 63, 0), (RG.RG_ENDS_CONS, 2, 63, 0)]), [], []⟩, .spu, 63, by decide⟩,
   ⟨⟨(blk 1 [(RG.RG_BASE_BASE, 2097152, 63, 0), (BK.BANK_STAT_READY, 1, 0, 0), (BK.BANK_OWN_OWNER, 2, 0, 0), (RG.RG_CFG_DLOG, 1, 63, 0),
     (RG.RG_CFG_ESIZE, 64, 63, 0), (RG.RG_CFG_TYPE, 6, 63, 0), (RG.RG_ENDS_PROD, 1, 63, 0), (RG.RG_CFG_POLICY, 2, 63, 0)]), [], []⟩, .spu,
     63, by decide⟩,
   ⟨⟨(blk 1 [(RG.RG_STAT_STATE, 1, 63, 0), (QRE.QRE_CTL_EN, 1, 0, 0), (RG.RG_BASE_BASE, 2097152, 63, 0), (BK.BANK_STAT_READY, 1, 0, 0),
     (BK.BANK_OWN_OWNER, 2, 0, 0), (RG.RG_CFG_DLOG, 2, 63, 0)]), [], []⟩, .spu, 63, RG.RG_CTL_HANDLE.into 0 63, by decide⟩,
   ⟨⟨(blk 1 [(RG.RG_STAT_STATE, 1, 63, 0), (QRE.QRE_CTL_EN, 1, 0, 0), (RG.RG_BASE_BASE, 2097152, 63, 0), (BK.BANK_STAT_READY, 1, 0, 0),
     (BK.BANK_OWN_OWNER, 2, 0, 0), (RG.RG_STAT_STATE, 2, 63, 0)]), [], []⟩, .spu, 63, RG.RG_CTL_HANDLE.into 0 63, by decide⟩,
   ⟨⟨(blk 1 [(RG.RG_STAT_STATE, 1, 63, 0), (QRE.QRE_CTL_EN, 1, 0, 0), (RG.RG_BASE_BASE, 2097152, 63, 0), (BK.BANK_STAT_READY, 1, 0, 0),
     (BK.BANK_OWN_OWNER, 2, 0, 0), (RG.RG_CFG_DLOG, 1, 63, 0), (RG.RG_CFG_ESIZE, 3, 63, 0), (RG.RG_WIDX_INDEX, 0, 63, 0), (RG.RG_RIDX_INDEX,
     65535, 63, 0), (RG.RG_CFG_POLICY, 2, 63, 0)]), [], []⟩, 63, 2, by decide⟩,
   ⟨⟨(blk 1 [(RG.RG_STAT_STATE, 1, 63, 0), (QRE.QRE_CTL_EN, 1, 0, 0), (RG.RG_BASE_BASE, 2097152, 63, 0), (BK.BANK_STAT_READY, 1, 0, 0),
     (BK.BANK_OWN_OWNER, 2, 0, 0), (RG.RG_CFG_DLOG, 1, 63, 0), (RG.RG_CFG_ESIZE, 2, 63, 0), (RG.RG_WIDX_INDEX, 1, 63, 0), (RG.RG_RIDX_INDEX,
     65535, 63, 0), (RG.RG_CFG_POLICY, 0, 63, 0)]), [], []⟩, 63, by decide⟩,
   ⟨⟨(blk 1 [(RG.RG_STAT_STATE, 1, 63, 0), (QRE.QRE_CTL_EN, 1, 0, 0), (RG.RG_BASE_BASE, 2097152, 63, 0), (BK.BANK_STAT_READY, 1, 0, 0),
     (BK.BANK_OWN_OWNER, 2, 0, 0), (RG.RG_CFG_DLOG, 1, 63, 0), (RG.RG_CFG_ESIZE, 2, 63, 0), (RG.RG_WIDX_INDEX, 1, 63, 0), (RG.RG_RIDX_INDEX,
     65535, 63, 0), (RG.RG_CFG_POLICY, 1, 63, 0), (BK.BANK_OWN_OWNER, 4, 0, 0)]), [], []⟩, 63, 0, 1, 0x200008, by decide⟩,
   ⟨⟨(blk 1 [(RG.RG_STAT_STATE, 1, 63, 0), (QRE.QRE_CTL_EN, 1, 0, 0), (RG.RG_BASE_BASE, 2097152, 63, 0), (BK.BANK_STAT_READY, 1, 0, 0),
     (BK.BANK_OWN_OWNER, 2, 0, 0), (RG.RG_CFG_DLOG, 1, 63, 0), (RG.RG_CFG_ESIZE, 2, 63, 0), (RG.RG_WIDX_INDEX, 1, 63, 0), (RG.RG_RIDX_INDEX,
     65535, 63, 0), (RG.RG_CFG_POLICY, 1, 63, 0)]), [], []⟩, 63, by decide⟩,
   ⟨⟨(blk 1 [(RG.RG_STAT_STATE, 1, 63, 0), (QRE.QRE_CTL_EN, 1, 0, 0), (RG.RG_BASE_BASE, 2097152, 63, 0), (BK.BANK_STAT_READY, 1, 0, 0),
     (BK.BANK_OWN_OWNER, 2, 0, 0), (RG.RG_CFG_DLOG, 1, 63, 0), (RG.RG_CFG_ESIZE, 2, 63, 0), (RG.RG_WIDX_INDEX, 1, 63, 0), (RG.RG_RIDX_INDEX,
     65535, 63, 0), (RG.RG_CFG_POLICY, 2, 63, 0), (RG.RG_STAT_MARK, 1, 63, 0)]), [], []⟩, 63, by decide⟩⟩

/-- States and operands that meet the hypotheses of RingPort. -/
theorem witness_ringPort :
    (∃ s : State, s.writable .spu 0xB = true) ∧
    (∃ s : State, ∃ n : Nat, s.writable .spu 0xB = true ∧ n = s.b.get QRE.SPU_RH_HANDLE % 64 ∧ (∀ r, r < s.b.numRings → (s.b.ring r).staged
      = []) ∧ s.b.portCheck RG.RG_ENDS_PROD = 0 ∧ s.b.spuPush ≠ [] ∧ s.b.spuPush.length + 1 < s.b.esize n) ∧
    (∃ s : State, ∃ n : Nat, ∃ ws : List Word, ∃ u : State, s.writable .spu 0xB = true ∧ n = s.b.get QRE.SPU_RH_HANDLE % 64 ∧ (∀ r, r <
      s.b.numRings → (s.b.ring r).staged = []) ∧ s.b.portCheck RG.RG_ENDS_CONS = 0 ∧ s.b.spuPop = none ∧ s.b.qreServes = true ∧ s.b.occ n ≠
      0 ∧ s.headEntry n .spu = (ws, u) ∧ 1 < ws.length) ∧
    (∃ s : State, ∃ n : Nat, ∃ e : List Word, ∃ rest : List (List Word), n < s.b.numRings ∧ (s.b.ring n).staged = e :: rest ∧ s.b.qreServes
      = true ∧ s.b.ringState n = 1 ∧ e.length = s.b.esize n ∧ s.b.slotRefusal n = none ∧ s.b.policy n = 2 ∧ s.b.on RG.RG_STAT_MARK n = false
      ∧ s.b.occ n + 1 < s.b.depth n ∧ s.b.entryAddr n (s.b.widx n) + 4 * s.b.esize n ≤ 0x490000 ∧ s.b.ringType n ≠ 0) ∧
    (∃ s : State, ∃ n : Nat, ∃ e : List Word, ∃ rest : List (List Word), n < s.b.numRings ∧ (s.b.ring n).staged = e :: rest ∧ s.b.qreServes
      = true ∧ s.b.ringState n = 1 ∧ e.length = s.b.esize n ∧ s.b.policy n = 2 ∧ s.b.on RG.RG_STAT_MARK n = true ∧ s.b.occ n ≤ s.b.depth n ∧
      s.b.ringType n = 3 ∧ s.b.get RG.RG_ENDS_PROD n = 3) :=
  ⟨⟨⟨(blk 1 []), [], []⟩, by decide⟩,
   ⟨⟨{ blk 1 [(RG.RG_STAT_STATE, 1, 63, 0), (QRE.QRE_CTL_EN, 1, 0, 0), (RG.RG_BASE_BASE, 2097152, 63, 0), (BK.BANK_STAT_READY, 1, 0, 0), (BK.BANK_OWN_OWNER, 2, 0, 0), (RG.RG_CFG_ESIZE, 3, 63, 0), (RG.RG_ENDS_PROD, 1, 63, 0), (QRE.SPU_RH_HANDLE, 63, 0, 0)] with spuPush := [4] },
     [], []⟩, 63, by decide, by decide, fun _ _ => rfl, by decide, by decide, by decide⟩,
   ⟨⟨(blk 1 [(RG.RG_STAT_STATE, 1, 63, 0), (QRE.QRE_CTL_EN, 1, 0, 0), (RG.RG_BASE_BASE, 2097152, 63, 0), (BK.BANK_STAT_READY, 1, 0, 0),
     (BK.BANK_OWN_OWNER, 2, 0, 0), (RG.RG_CFG_DLOG, 1, 63, 0), (RG.RG_CFG_ESIZE, 3, 63, 0), (RG.RG_ENDS_CONS, 1, 63, 0), (RG.RG_CFG_TYPE, 3,
     63, 0), (RG.RG_WIDX_INDEX, 1, 63, 0), (QRE.SPU_RH_HANDLE, 63, 0, 0)]), [(0x200000, 9)], []⟩, 63, ((⟨(blk 1 [(RG.RG_STAT_STATE, 1, 63,
     0), (QRE.QRE_CTL_EN, 1, 0, 0), (RG.RG_BASE_BASE, 2097152, 63, 0), (BK.BANK_STAT_READY, 1, 0, 0), (BK.BANK_OWN_OWNER, 2, 0, 0),
     (RG.RG_CFG_DLOG, 1, 63, 0), (RG.RG_CFG_ESIZE, 3, 63, 0), (RG.RG_ENDS_CONS, 1, 63, 0), (RG.RG_CFG_TYPE, 3, 63, 0), (RG.RG_WIDX_INDEX, 1,
     63, 0), (QRE.SPU_RH_HANDLE, 63, 0, 0)]), [(0x200000, 9)], []⟩ : State).headEntry 63 .spu).1, ((⟨(blk 1 [(RG.RG_STAT_STATE, 1, 63, 0),
     (QRE.QRE_CTL_EN, 1, 0, 0), (RG.RG_BASE_BASE, 2097152, 63, 0), (BK.BANK_STAT_READY, 1, 0, 0), (BK.BANK_OWN_OWNER, 2, 0, 0),
     (RG.RG_CFG_DLOG, 1, 63, 0), (RG.RG_CFG_ESIZE, 3, 63, 0), (RG.RG_ENDS_CONS, 1, 63, 0), (RG.RG_CFG_TYPE, 3, 63, 0), (RG.RG_WIDX_INDEX, 1,
     63, 0), (QRE.SPU_RH_HANDLE, 63, 0, 0)]), [(0x200000, 9)], []⟩ : State).headEntry 63 .spu).2, by decide, by decide, fun _ _ => rfl, by
     decide, by decide, by decide, by decide, by decide, by decide⟩,
   ⟨⟨{ blk 1 [(RG.RG_STAT_STATE, 1, 63, 0), (QRE.QRE_CTL_EN, 1, 0, 0), (RG.RG_BASE_BASE, 2097152, 63, 0), (BK.BANK_STAT_READY, 1, 0, 0), (BK.BANK_OWN_OWNER, 2, 0, 0), (RG.RG_CFG_DLOG, 2, 63, 0), (RG.RG_CFG_ESIZE, 4, 63, 0), (RG.RG_CFG_TYPE, 2, 63, 0), (RG.RG_CFG_POLICY, 2, 63, 0), (RG.RG_WIDX_INDEX, 2, 63, 0)] with rings := [(63, { staged := [[1, 2, 3, 4], [5]] })] },
     [], []⟩, 63, [1, 2, 3, 4], [[5]], by decide⟩,
   ⟨⟨{ blk 1 [(RG.RG_STAT_STATE, 1, 63, 0), (QRE.QRE_CTL_EN, 1, 0, 0), (RG.RG_BASE_BASE, 2097152, 63, 0), (BK.BANK_STAT_READY, 1, 0, 0), (BK.BANK_OWN_OWNER, 2, 0, 0), (RG.RG_CFG_DLOG, 2, 63, 0), (RG.RG_CFG_ESIZE, 4, 63, 0), (RG.RG_CFG_TYPE, 3, 63, 0), (RG.RG_CFG_POLICY, 2, 63, 0), (RG.RG_ENDS_PROD, 3, 63, 0), (RG.RG_STAT_MARK, 1, 63, 0), (RG.RG_WIDX_INDEX, 4, 63, 0)] with rings := [(63, { staged := [[1, 2, 3, 4]] })] },
     [], []⟩, 63, [1, 2, 3, 4], [], by decide⟩⟩

/-- States and operands that meet the hypotheses of ImagesAndSwap. -/
theorem witness_imagesAndSwap :
    (∃ s : State, s.b.running = true ∧ s.b.mode = 0 ∧ s.b.sec.auth = none ∧ s.b.fwWait = false) ∧
    (∃ s : State, s.b.running = true ∧ s.b.mode = 0 ∧ s.b.sec.auth = none ∧ s.b.fwWait = true) ∧
    (∃ s : State, ∃ w : Word, s.b.running = true ∧ s.b.mode = 0 ∧ s.writable .debug 3 = true ∧ s.b.sec.auth = none ∧ s.b.fwWait = true ∧
      SEC.BOOT_LOAD_GO.of w = 1) ∧
    (∃ s : State, ∃ a : AuthSt, ∃ h : List Word, ∃ u : State, s.b.running = true ∧ s.b.mode = 0 ∧ s.b.sec.auth = some a ∧ s.authCheck a =
      (0, h, u)) ∧
    (∃ s : State, ∃ a : AuthSt, ∃ code : Nat, ∃ h : List Word, ∃ u : State, s.b.running = true ∧ s.b.mode = 0 ∧ s.b.sec.auth = some a ∧
      s.authCheck a = (code, h, u) ∧ code ≠ 0) ∧
    (∃ s : State, ∃ w : Word, s.writable .spu 3 = true ∧ SEC.SWAP_CMD_KEY.of w = 0x5C ∧ s.b.get SEC.SWAP_STAT_STATE ≠ 1 ∧ s.b.get
      SEC.SWAP_STAT_STATE ≠ 3) ∧
    (∃ s : State, ∃ a : AuthSt, ∃ h : List Word, ∃ u : State, s.b.running = true ∧ s.b.mode ≠ 5 ∧ s.b.get SEC.SWAP_STAT_STATE = 1 ∧
      s.b.sec.swap = some a ∧ s.authCheck a = (0, h, u)) ∧
    (∃ s : State, ∃ w : Word, ∃ x : ImageSt, s.writable .spu 3 = true ∧ s.b.mode ≠ 0 ∧ SEC.SWAP_CMD_KEY.of w = 0x5C ∧ s.b.get
      SEC.SWAP_STAT_STATE = 2 ∧ s.b.windowAllowed = true ∧ s.b.sec.image = some x) :=
  ⟨⟨⟨(blk 0 []), [], []⟩, by decide⟩,
   ⟨⟨(blk 0 [(⟨OTP.BOOT_STATUS, 25, 1⟩, 1, 0, 0)]), [], []⟩, by decide⟩,
   ⟨⟨(blk 0 [(⟨OTP.BOOT_STATUS, 25, 1⟩, 1, 0, 0), (SEC.SEC_STAT_LEVEL, 2, 0, 0)]), [], []⟩, SEC.BOOT_LOAD_GO.into 0 1, by decide⟩,
   ⟨⟨{ blk 0 [(⟨OTP.BOOT_STATUS, 25, 1⟩, 1, 0, 0)] with sec := { auth := some ⟨0, [0x544D4657, 1, 0, 4, 0x200000, 2], 0, true⟩ } }, [], []⟩,
     ⟨0, [0x544D4657, 1, 0, 4, 0x200000, 2], 0, true⟩,
     ((⟨{ blk 0 [(⟨OTP.BOOT_STATUS, 25, 1⟩, 1, 0, 0)] with sec := { auth := some ⟨0, [0x544D4657, 1, 0, 4, 0x200000, 2], 0, true⟩ } }, [],
     []⟩ : State).authCheck ⟨0, [0x544D4657, 1, 0, 4, 0x200000, 2], 0, true⟩).2.1,
     ((⟨{ blk 0 [(⟨OTP.BOOT_STATUS, 25, 1⟩, 1, 0, 0)] with sec := { auth := some ⟨0, [0x544D4657, 1, 0, 4, 0x200000, 2], 0, true⟩ } }, [],
     []⟩ : State).authCheck ⟨0, [0x544D4657, 1, 0, 4, 0x200000, 2], 0, true⟩).2.2, by decide⟩,
   ⟨⟨{ blk 0 [] with sec := { auth := some ⟨0, [], 0, true⟩ } }, [], []⟩, ⟨0, [], 0, true⟩,
     ((⟨{ blk 0 [] with sec := { auth := some ⟨0, [], 0, true⟩ } }, [], []⟩ : State).authCheck ⟨0, [], 0, true⟩).1,
     ((⟨{ blk 0 [] with sec := { auth := some ⟨0, [], 0, true⟩ } }, [], []⟩ : State).authCheck ⟨0, [], 0, true⟩).2.1,
     ((⟨{ blk 0 [] with sec := { auth := some ⟨0, [], 0, true⟩ } }, [], []⟩ : State).authCheck ⟨0, [], 0, true⟩).2.2, by decide⟩,
   ⟨⟨(blk 1 []), [], []⟩, SEC.SWAP_CMD_CHECK.into (SEC.SWAP_CMD_KEY.into 0 0x5C) 1, by decide⟩,
   ⟨⟨{ blk 1 [(SEC.SWAP_STAT_STATE, 1, 0, 0), (BK.BANK_STAT_READY, 1, 0, 0), (BK.BANK_OWN_OWNER, 0, 0, 0)] with sec := { swap := some ⟨2, [], 0x200000, true⟩ } },
     [(0x200000, 0x54), (0x200001, 0x4D), (0x200002, 0x46), (0x200003, 0x57), (0x200007, 1), (0x20000F, 4), (0x200011, 0x20), (0x200012,
     1)], []⟩, ⟨2, [], 0x200000, true⟩,
     ((⟨{ blk 1 [(SEC.SWAP_STAT_STATE, 1, 0, 0), (BK.BANK_STAT_READY, 1, 0, 0), (BK.BANK_OWN_OWNER, 0, 0, 0)] with sec := { swap := some ⟨2, [], 0x200000, true⟩ } },
     [(0x200000, 0x54), (0x200001, 0x4D), (0x200002, 0x46), (0x200003, 0x57), (0x200007, 1), (0x20000F, 4), (0x200011, 0x20), (0x200012,
     1)], []⟩ : State).authCheck ⟨2, [], 0x200000, true⟩).2.1,
     ((⟨{ blk 1 [(SEC.SWAP_STAT_STATE, 1, 0, 0), (BK.BANK_STAT_READY, 1, 0, 0), (BK.BANK_OWN_OWNER, 0, 0, 0)] with sec := { swap := some ⟨2, [], 0x200000, true⟩ } },
     [(0x200000, 0x54), (0x200001, 0x4D), (0x200002, 0x46), (0x200003, 0x57), (0x200007, 1), (0x20000F, 4), (0x200011, 0x20), (0x200012,
     1)], []⟩ : State).authCheck ⟨2, [], 0x200000, true⟩).2.2, by decide⟩,
   ⟨⟨{ blk 1 [(SEC.SWAP_STAT_STATE, 2, 0, 0), (SHL.SWAP_CFG_ALLOW, 1, 0, 0), (SHL.SHL_STAT_CONFIRMED, 1, 0, 0)] with sec := { image := some ⟨0x200000, 4, 0x200102, 0, true⟩ } },
     [], []⟩, SEC.SWAP_CMD_GO.into (SEC.SWAP_CMD_KEY.into 0 0x5C) 1, ⟨0x200000, 4, 0x200102, 0, true⟩, by decide⟩⟩

/-- States and operands that meet the hypotheses of DebugAccess. -/
theorem witness_debugAccess :
    (∃ s : State, ∃ m : Master, ∃ w : Word, s.writable m 3 = true ∧ SEC.LC_ARM_ARM.of w = 1 ∧ SEC.LC_ARM_KEY.of w = 0x7E ∧
      SEC.LC_ARM_TARGET.of w = s.b.lc0 + 1) ∧
    (∃ s : State, ∃ d : List Word, s.b.running = true ∧ s.b.mode ≠ 5 ∧ s.b.sec.response = some d ∧ s.b.responseCode d ≠ 0 ∧ s.b.responseCode
      d ≠ 2) ∧
    (∃ s : State, ∃ code : Nat, ∃ p : Instr × Nat × Word, p ∈ [(.jtagIdcode, 0x01, s.b.idcode), (.jtagSamplePreload, 0x02, s.b.sec.scan),
      (.jtagDtmcs, 0x10, dtmcsWord), (.jtagBypass code, 0x1F, 0)]) ∧
    (∃ p : Instr × Nat, p ∈ [(.jtagExtest, 0x03), (.jtagClamp, 0x04), (.jtagHighz, 0x05)]) ∧
    (∃ s : State, s.b.running = true ∧ s.b.get SEC.SEC_STAT_LEVEL = 2 ∧ s.b.fenced 9 = false) :=
  ⟨⟨⟨(blk 1 []), [], []⟩, .spu, SEC.LC_ARM_TARGET.into (SEC.LC_ARM_KEY.into (SEC.LC_ARM_ARM.into 0 1) 0x7E) 1, by decide⟩,
   ⟨⟨{ blk 1 [(SEC.DBG_STAT_FAILS, 2, 0, 0)] with sec := { response := some [], chal := true } }, [], []⟩, [], by decide⟩,
   ⟨⟨(blk 1 []), [], []⟩, 7, (.jtagBypass 7, 0x1F, 0), by decide⟩,
   ⟨(.jtagHighz, 0x05), by decide⟩,
   ⟨⟨(blk 1 [(SEC.SEC_STAT_LEVEL, 2, 0, 0)]), [], []⟩, by decide⟩⟩

/-- States and operands that meet the hypotheses of SourceReactions. -/
theorem witness_sourceReactions :
    (∃ s : State, ∃ r : Raised, s.b.running = true ∧ s.b.mode = 1 ∧ s.b.crm.haltReq = false ∧ (srcRow r.src).isSome = true ∧ r ∈ s.b.wires ∧
      r.src ≠ 0x38 ∧ s.b.get FCR.SRC_CFG_REACT 0 r.src = 0 ∧ (Tab.get (0, false) s.b.fcr.esc r.src).2 = false ∧ s.b.get FCR.SRC_CFG_ESC_N 0
      r.src = 0 ∧ s.b.on FCR.FIRST_SRC_VALID = false ∧ s.b.get FCR.SRC_CNT_COUNT 0 r.src < 65535) ∧
    (∃ s : State, ∃ r : Raised, s.b.running = true ∧ s.b.mode = 2 ∧ s.b.on CRM.MODE_BUSY = false ∧ s.b.crm.haltReq = false ∧ (srcRow
      r.src).isSome = true ∧ r ∈ s.b.wires ∧ r.src ≠ 0x38 ∧ (Tab.get (0, false) s.b.fcr.esc r.src).2 = false ∧ s.b.get FCR.SRC_CFG_ESC_N 0
      r.src = 0 ∧ s.b.get FCR.SRC_CFG_REACT 0 r.src = 4 ∧ s.b.on FCR.HALT_CAUSE_PENDING = false) ∧
    (∃ s : State, ∃ r : Raised, s.b.running = true ∧ s.b.mode = 2 ∧ s.b.on CRM.MODE_BUSY = false ∧ s.b.crm.haltReq = false ∧ (srcRow
      r.src).isSome = true ∧ r ∈ s.b.wires ∧ r.src ≠ 0x38 ∧ (Tab.get (0, false) s.b.fcr.esc r.src).2 = false ∧ s.b.get FCR.SRC_CFG_ESC_N 0
      r.src = 0 ∧ s.b.get FCR.SRC_CFG_REACT 0 r.src = 3) ∧
    (∃ s : State, ∃ r : Raised, s.b.running = true ∧ s.b.mode = 2 ∧ s.b.on CRM.MODE_BUSY = false ∧ s.b.crm.haltReq = false ∧ (srcRow
      r.src).isSome = true ∧ r ∈ s.b.wires ∧ r.src ≠ 0x38 ∧ (Tab.get (0, false) s.b.fcr.esc r.src).2 = false ∧ s.b.get FCR.SRC_CFG_ESC_N 0
      r.src = 0 ∧ s.b.get FCR.SRC_CFG_REACT 0 r.src = 2 ∧ r.src ≠ 0x31 ∧ r.unit % 0x1000 ∈ s.b.unitPages ∧ s.b.fenced (r.unit % 0x1000) =
      false ∧ s.b.get FCR.ESC_CFG_FENCE_MAX = 0) ∧
    (∃ s : State, ∃ r : Raised, ∃ a, s.b.running = true ∧ s.b.mode = 2 ∧ s.b.on CRM.MODE_BUSY = false ∧ s.b.crm.haltReq = false ∧ (srcRow
      r.src).isSome = true ∧ r ∈ s.b.wires ∧ r.src ≠ 0x38 ∧ (Tab.get (0, false) s.b.fcr.esc r.src).2 = false ∧ s.b.get FCR.SRC_CFG_ESC_N 0
      r.src = 0 ∧ s.b.get FCR.SRC_CFG_REACT 0 r.src = 1 ∧ a < s.b.numAxes ∧ 2 ≤ s.b.axState a ∧ s.b.liveLegs a ≠ [] ∧ (r.src ∉ [0x12, 0x13,
      0x15, 0x16, 0x17, 0x18, 0x19, 0x1A] ∧ r.unit % 0x1000 = 0x60 + a) ∨ ((r.src = 0x17 ∨ r.src = 0x18) ∧ s.b.axBus a = r.unit / 0x1000)) ∧
    (∃ s : State, ∃ r : Raised, ∃ a, s.b.running = true ∧ s.b.mode = 2 ∧ s.b.on CRM.MODE_BUSY = false ∧ s.b.crm.haltReq = false ∧ (srcRow
      r.src).isSome = true ∧ r ∈ s.b.wires ∧ r.src ≠ 0x38 ∧ (Tab.get (0, false) s.b.fcr.esc r.src).2 = false ∧ s.b.get FCR.SRC_CFG_ESC_N 0
      r.src = 0 ∧ s.b.get FCR.SRC_CFG_REACT 0 r.src = 1 ∧ a < s.b.numAxes ∧ 2 ≤ s.b.axState a ∧ s.b.liveLegs a ≠ [] ∧ (r.src ∉ [0x12, 0x13,
      0x15, 0x16, 0x17, 0x18, 0x19, 0x1A] ∧ r.unit % 0x1000 = 0x60 + a) ∨ ((r.src = 0x17 ∨ r.src = 0x18) ∧ s.b.axBus a = r.unit / 0x1000)) ∧
    (∃ s : State, ∃ r : Raised, ∃ n : Nat, s.b.running = true ∧ s.b.mode = 2 ∧ s.b.on CRM.MODE_BUSY = false ∧ s.b.crm.haltReq = false ∧
      (srcRow r.src).isSome = true ∧ r ∈ s.b.wires ∧ r.src ≠ 0x38 ∧ (Tab.get (0, false) s.b.fcr.esc r.src).2 = false ∧ s.b.get
      FCR.SRC_CFG_ESC_N 0 r.src = 0 ∧ s.b.get FCR.SRC_CFG_REACT 0 r.src = 5 ∧ r.unit % 0x1000 = 0xD0 + n ∧ n < 64 ∧ s.b.ringState n = 1) ∧
    (∃ s : State, ∃ r : Raised, ∃ k : Nat, s.b.running = true ∧ s.b.mode = 2 ∧ s.b.on CRM.MODE_BUSY = false ∧ s.b.crm.haltReq = false ∧
      (srcRow r.src).isSome = true ∧ r ∈ s.b.wires ∧ r.src ≠ 0x38 ∧ s.b.fencedUnits = [] ∧ s.b.degraded = false ∧ s.b.get FCR.SRC_CFG_ESC_N
      0 r.src ≠ 0 ∧ s.b.get FCR.SRC_CFG_REACT 0 r.src = 0 ∧ s.b.get FCR.SRC_CFG_ESC_REACT 0 r.src = 4 ∧ s.b.on FCR.HALT_CAUSE_PENDING =
      false ∧ Tab.get (0, false) s.b.fcr.esc r.src = (k, false) ∧ k + 1 < s.b.get FCR.SRC_CFG_ESC_N 0 r.src ∧ r.src ≠ 0x13) ∧
    (∃ s : State, ∃ r : Raised, ∃ k : Nat, s.b.running = true ∧ s.b.mode = 2 ∧ s.b.on CRM.MODE_BUSY = false ∧ s.b.crm.haltReq = false ∧
      (srcRow r.src).isSome = true ∧ r ∈ s.b.wires ∧ r.src ≠ 0x38 ∧ s.b.fencedUnits = [] ∧ s.b.degraded = false ∧ s.b.get FCR.SRC_CFG_ESC_N
      0 r.src ≠ 0 ∧ s.b.get FCR.SRC_CFG_REACT 0 r.src = 0 ∧ s.b.get FCR.SRC_CFG_ESC_REACT 0 r.src = 4 ∧ s.b.on FCR.HALT_CAUSE_PENDING =
      false ∧ (Tab.get (0, false) s.b.fcr.esc r.src = (k, true) ∨ (Tab.get (0, false) s.b.fcr.esc r.src = (k, false) ∧ s.b.get
      FCR.SRC_CFG_ESC_N 0 r.src ≤ k + 1))) ∧
    (∃ s : State, ∃ r : Raised, ∃ k : Nat, s.b.running = true ∧ s.b.mode = 2 ∧ s.b.on CRM.MODE_BUSY = false ∧ s.b.crm.haltReq = false ∧
      (srcRow r.src).isSome = true ∧ r ∈ s.b.wires ∧ r.src ≠ 0x38 ∧ s.b.fencedUnits = [] ∧ s.b.degraded = false ∧ s.b.get FCR.SRC_CFG_ESC_N
      0 r.src ≠ 0 ∧ s.b.get FCR.SRC_CFG_REACT 0 r.src = 0 ∧ s.b.get FCR.SRC_CFG_ESC_REACT 0 r.src = 4 ∧ s.b.on FCR.HALT_CAUSE_PENDING =
      false ∧ (Tab.get (0, false) s.b.fcr.esc r.src = (k, true) ∨ (Tab.get (0, false) s.b.fcr.esc r.src = (k, false) ∧ s.b.get
      FCR.SRC_CFG_ESC_N 0 r.src ≤ k + 1))) :=
  ⟨⟨⟨{ blk 1 [] with wires := [⟨0x37, 0x12, 1, 1, 2⟩, ⟨0x30, 0xB0, 0xB0000, 7, 0⟩] }, [], []⟩, ⟨0x30, 0xB0, 0xB0000, 7, 0⟩, by decide⟩,
   ⟨⟨{ blk 2 [] with wires := [⟨3, 1, 0x1000, 7, 0⟩] }, [], []⟩, ⟨3, 1, 0x1000, 7, 0⟩, by decide⟩,
   ⟨⟨{ blk 2 [(FCR.SRC_CFG_REACT, 3, 0, 5)] with wires := [⟨5, 2, 0x2000, 7, 0⟩] }, [], []⟩, ⟨5, 2, 0x2000, 7, 0⟩, by decide⟩,
   ⟨⟨{ blk 2 [(FCR.ESC_CFG_FENCE_MAX, 0, 0, 0)] with wires := [⟨0x1B, 0xB0, 0xB0000, 7, 0⟩] }, [], []⟩, ⟨0x1B, 0xB0, 0xB0000, 7, 0⟩, by
     decide⟩,
   ⟨⟨{ blk 2 [(AX.AX_STATE_STATE, 2, 23, 0), (AX.AX_STATE_SETS_LIVE, 1, 23, 0), (⟨AX.AX_LEGS_LO, 0, 32⟩, 3, 23, 0), (⟨AX.AX_CFG, 12, 3⟩, 3, 23, 0), (FCR.SRC_CFG_REACT, 1, 0, 5)] with wires := [⟨5, 0x77, 0x77000, 7, 0⟩] },
     [], []⟩, ⟨5, 0x77, 0x77000, 7, 0⟩, 23, by decide⟩,
   ⟨⟨{ blk 2 [(AX.AX_STATE_STATE, 2, 23, 0), (AX.AX_STATE_SETS_LIVE, 1, 23, 0), (⟨AX.AX_LEGS_LO, 0, 32⟩, 3, 23, 0), (⟨AX.AX_CFG, 12, 3⟩, 3, 23, 0), (FCR.SRC_CFG_REACT, 1, 0, 23)] with wires := [⟨0x17, 0x3010, 0x10000, 7, 0⟩] },
     [], []⟩, ⟨0x17, 0x3010, 0x10000, 7, 0⟩, 23, by decide⟩,
   ⟨⟨{ blk 2 [(FCR.SRC_CFG_REACT, 5, 0, 5), (RG.RG_STAT_STATE, 1, 63, 0)] with wires := [⟨5, 0x10F, 0x10F000, 7, 0⟩] }, [], []⟩, ⟨5, 0x10F,
     0x10F000, 7, 0⟩, 63, by decide⟩,
   ⟨⟨{ blk 2 [(FCR.SRC_CFG_ESC_N, 3, 0, 5), (FCR.SRC_CFG_REACT, 0, 0, 5), (FCR.SRC_CFG_ESC_REACT, 4, 0, 5)] with wires := [⟨5, 2, 0x2000, 7, 0⟩], fcr := { esc := [(5, (1, false))] } },
     [], []⟩, ⟨5, 2, 0x2000, 7, 0⟩, 1, by decide⟩,
   ⟨⟨{ blk 2 [(FCR.SRC_CFG_ESC_N, 3, 0, 5), (FCR.SRC_CFG_REACT, 0, 0, 5), (FCR.SRC_CFG_ESC_REACT, 4, 0, 5)] with wires := [⟨5, 2, 0x2000, 7, 0⟩], fcr := { esc := [(5, (2, false))] } },
     [], []⟩, ⟨5, 2, 0x2000, 7, 0⟩, 2, by decide, by decide, by decide, by decide, by decide, by decide, by decide, by decide, by decide, by
     decide, by decide, by decide, by decide, Or.inr (by decide)⟩,
   ⟨⟨{ blk 2 [(FCR.SRC_CFG_ESC_N, 3, 0, 5), (FCR.SRC_CFG_REACT, 0, 0, 5), (FCR.SRC_CFG_ESC_REACT, 4, 0, 5)] with wires := [⟨5, 2, 0x2000, 7, 0⟩], fcr := { esc := [(5, (3, true))] } },
     [], []⟩, ⟨5, 2, 0x2000, 7, 0⟩, 3, by decide, by decide, by decide, by decide, by decide, by decide, by decide, by decide, by decide, by
     decide, by decide, by decide, by decide, Or.inl (by decide)⟩⟩

/-- States and operands that meet the hypotheses of FaultHandling. -/
theorem witness_faultHandling :
    (∃ s : State, s.b.running = true ∧ s.b.mode ≠ 5 ∧ s.b.fenced 9 = false ∧ s.b.on FCR.SPU_WDOG_EN = true ∧ s.b.on SEC.SEC_STAT_HALTED =
      false) ∧
    (∃ s : State, s.b.running = true ∧ s.b.mode ≠ 5 ∧ s.b.fenced 9 = false ∧ s.b.on SEC.SEC_STAT_HALTED = true) ∧
    (∃ s : State, s.writable .spu 0x12 = true) ∧
    (∃ s : State, ∃ m : Master, m ≠ .spu ∧ s.writable m 0x12 = true) ∧
    (∃ s : State, ∃ m : Master, ∃ w : Word, s.writable m 0x12 = true ∧ s.b.fenced 0x12 = false ∧ FCR.SW_RAISE_GO.of w = 1) ∧
    (∃ s : State, ∃ m : Master, ∃ src : Nat, s.writable m 0x12 = true ∧ (srcRow src).isSome = true) ∧
    (∃ s : State, ∃ m : Master, ∃ w : Word, s.writable m 0x12 = true ∧ FCR.FIRST_CLR_CLR.of w = 1) ∧
    (∃ s : State, ∃ m : Master, ∃ w : Word, s.writable m 0x12 = true ∧ FCR.FENCE_REQ_GO.of w = 1 ∧ s.b.fenceReqCode w = 0) ∧
    (∃ s : State, ∃ m : Master, ∃ w : Word, s.writable m 0x12 = true ∧ FCR.UNFENCE_GO.of w = 1 ∧ s.b.unfenceCode w = 0) ∧
    (∃ s : State, ∃ m : Master, ∃ p : Nat, ∃ res : ReturnCheck, ∃ pass : Bool, s.writable m 0x12 = true ∧ s.b.fcr.unfence = some p ∧ p ∈
      s.b.unitPages ∧ s.b.mode ≠ 0 ∧ pass = (if 0xB0 ≤ p ∧ p < 0xD0 then decide (res.devZero.natAbs ≤ 16) && decide (res.devHalf.natAbs ≤
      16) else [5, 6, 7, 8, 0xD].contains p || res.sound) ∧ pass = true) ∧
    (∃ s : State, ∃ m : Master, ∃ p : Nat, ∃ res : ReturnCheck, ∃ pass : Bool, s.writable m 0x12 = true ∧ s.b.fcr.unfence = some p ∧ p ∈
      s.b.unitPages ∧ s.b.mode ≠ 0 ∧ pass = (if 0xB0 ≤ p ∧ p < 0xD0 then decide (res.devZero.natAbs ≤ 16) && decide (res.devHalf.natAbs ≤
      16) else [5, 6, 7, 8, 0xD].contains p || res.sound) ∧ pass = true) ∧
    (∃ s : State, ∃ m : Master, ∃ p : Nat, ∃ res : ReturnCheck, ∃ pass : Bool, s.writable m 0x12 = true ∧ s.b.fcr.unfence = some p ∧ p ∈
      s.b.unitPages ∧ s.b.mode ≠ 0 ∧ pass = (if 0xB0 ≤ p ∧ p < 0xD0 then decide (res.devZero.natAbs ≤ 16) && decide (res.devHalf.natAbs ≤
      16) else [5, 6, 7, 8, 0xD].contains p || res.sound) ∧ pass = false) ∧
    (∃ s : State, ∃ m : Master, ∃ w : Word, s.writable m 0x12 = true ∧ FCR.HALT_CLR_CLR.of w = 1 ∧ FCR.HALT_CLR_KEY.of w = 0x3C ∧ s.b.on
      FCR.HALT_CAUSE_PENDING = true ∧ s.b.haltActive = false) ∧
    (∃ s : State, ∃ m : Master, ∃ n : Nat, ∃ r : Reg, s.writable m 0x12 = true ∧ s.b.mode = 1 ∧ s.b.crm.haltReq = false ∧ r = (if n = 0 then
      FCR.DEGRADE_LO else if n = 1 then FCR.DEGRADE_HI else FCR.DEGRADE_X)) :=
  ⟨⟨⟨(blk 1 [(FCR.SPU_WDOG_EN, 1, 0, 0)]), [], []⟩, by decide⟩,
   ⟨⟨(blk 1 [(SEC.SEC_STAT_HALTED, 1, 0, 0)]), [], []⟩, by decide⟩,
   ⟨⟨(blk 1 []), [], []⟩, by decide⟩,
   ⟨⟨(blk 1 []), [], []⟩, .hsp, by decide⟩,
   ⟨⟨(blk 1 []), [], []⟩, .hsp, FCR.SW_RAISE_GO.into 0 1, by decide⟩,
   ⟨⟨(blk 1 [(FCR.SRC_CNT_COUNT, 5, 0, 78)]), [], []⟩, .hsp, 0x4E, by decide⟩,
   ⟨⟨(blk 1 [(FCR.FIRST_SRC_VALID, 1, 0, 0)]), [], []⟩, .hsp, FCR.FIRST_CLR_CLR.into 0 1, by decide⟩,
   ⟨⟨(blk 1 []), [], []⟩, .hsp, FCR.FENCE_REQ_UNIT.into (FCR.FENCE_REQ_KEY.into (FCR.FENCE_REQ_GO.into 0 1) 0x3C) 0x8F, by decide⟩,
   ⟨⟨(blk 1 [(HDR.PAGE_STAT_FENCED, 1, 143, 0)]), [], []⟩, .hsp, FCR.UNFENCE_UNIT.into (FCR.UNFENCE_KEY.into (FCR.UNFENCE_GO.into 0 1) 0x3C)
     0x8F, by decide⟩,
   ⟨⟨{ blk 1 [(HDR.PAGE_STAT_FENCED, 1, 143, 0), (FCR.FENCE_RES_BUSY, 1, 0, 0)] with fcr := { unfence := some 0x8F } }, [], []⟩, .hsp, 0x8F,
     {}, true, by decide⟩,
   ⟨⟨{ blk 1 [(HDR.PAGE_STAT_FENCED, 1, 207, 0), (FCR.FENCE_RES_BUSY, 1, 0, 0)] with fcr := { unfence := some 0xCF } }, [], []⟩, .hsp, 0xCF,
     { devZero := 16, devHalf := -16, sound := false }, true, by decide⟩,
   ⟨⟨{ blk 1 [(HDR.PAGE_STAT_FENCED, 1, 207, 0), (FCR.FENCE_RES_BUSY, 1, 0, 0)] with fcr := { unfence := some 0xCF } }, [], []⟩, .hsp, 0xCF,
     { devZero := -17 }, false, by decide⟩,
   ⟨⟨(blk 4 [(FCR.HALT_CAUSE_PENDING, 1, 0, 0)]), [], []⟩, .hsp, FCR.HALT_CLR_KEY.into (FCR.HALT_CLR_CLR.into 0 1) 0x3C, by decide⟩,
   ⟨⟨(blk 1 [(⟨FCR.DEGRADE_X, 0, 32⟩, 7, 0, 0)]), [], []⟩, .hsp, 2, FCR.DEGRADE_X, by decide⟩⟩

/-- States and operands that meet the hypotheses of AxisReleases. -/
theorem witness_axisReleases :
    (∃ s : State, ∃ m : Master, ∃ w : Word, ∃ a : Nat, s.writable m 0x12 = true ∧ FCR.AXREL_GO.of w = 1 ∧ a = FCR.AXREL_HANDLE.of w % 32 ∧
      s.b.handleCheck (FCR.AXREL_HANDLE.of w) = none ∧ s.b.mapBit FCR.AX_SAFE_MAP_SLOT a = true ∧ 2 ≤ s.b.axState a ∧ s.b.drv a = 9) ∧
    (∃ s : State, ∃ m : Master, ∃ w : Word, ∃ a : Nat, ∃ code : Nat, s.writable m 0x12 = true ∧ FCR.AXREL_GO.of w = 1 ∧ a =
      FCR.AXREL_HANDLE.of w % 32 ∧ s.b.handleCheck (FCR.AXREL_HANDLE.of w) = some code) ∧
    (∃ s : State, ∃ m : Master, ∃ w : Word, ∃ a : Nat, ∃ code : Nat, s.writable m 0x12 = true ∧ FCR.AXREL_GO.of w = 1 ∧ a =
      FCR.AXREL_HANDLE.of w % 32 ∧ s.b.handleCheck (FCR.AXREL_HANDLE.of w) = some code) ∧
    (∃ s : State, ∃ m : Master, ∃ w : Word, ∃ a : Nat, s.writable m 0x12 = true ∧ FCR.AXREL_GO.of w = 1 ∧ a = FCR.AXREL_HANDLE.of w % 32 ∧
      s.b.handleCheck (FCR.AXREL_HANDLE.of w) = none ∧ s.b.mapBit FCR.AX_SAFE_MAP_SLOT a = false) :=
  ⟨⟨⟨{ blk 1 [(AX.AX_STATE_STATE, 2, 23, 0), (AX.AX_STATE_SETS_LIVE, 1, 23, 0), (⟨AX.AX_LEGS_LO, 0, 32⟩, 3, 23, 0), (AX.AX_DRV_STATE, 9, 23, 0), (FCR.AX_SAFE_MAP_SLOT, (2 ^ 23), 0, 0)] with legs := [(0, { fcrPat := some 0 })] },
    [], []⟩, .hsp, FCR.AXREL_HANDLE.into (FCR.AXREL_GO.into 0 1) 23, 23, by decide⟩,
   ⟨⟨(blk 1 []), [], []⟩, .hsp, FCR.AXREL_HANDLE.into (FCR.AXREL_GO.into 0 1) 31, 31, 19, by decide⟩,
   ⟨⟨(blk 1 []), [], []⟩, .hsp, FCR.AXREL_HANDLE.into (FCR.AXREL_GO.into 0 1) 23, 23, 18, by decide⟩,
   ⟨⟨(blk 1 [(AX.AX_STATE_STATE, 2, 23, 0), (AX.AX_STATE_SETS_LIVE, 1, 23, 0)]), [], []⟩, .hsp, FCR.AXREL_HANDLE.into (FCR.AXREL_GO.into 0
     1) 23, 23, by decide⟩⟩

/-- States and operands that meet the hypotheses of FeedbackCounts. -/
theorem witness_feedbackCounts :
    (∃ s : State, ∃ f : Nat, ∃ a : Bool, ∃ bl : Bool, ∃ fwd : Bool, ∃ up : Bool, f < 24 ∧ s.b.fbRuns f = true ∧ s.b.get FB.FB_POS_COUNT f <
      s.b.cpr f ∧ (s.b.fbMode f = 1 ∨ s.b.fbMode f = 2) ∧ s.b.on FB.FB_STAT_WIRE_A f = false ∧ s.b.on FB.FB_STAT_WIRE_B f = false ∧
      quadPhase a bl = (quadPhase (s.b.fb f).a (s.b.fb f).b + if fwd then 1 else 3) % 4 ∧ up = (fwd != s.b.on FB.FB_CFG_DIR_INV f)) ∧
    (∃ s : State, ∃ f : Nat, ∃ a : Bool, ∃ bl : Bool, ∃ fwd : Bool, ∃ up : Bool, f < 24 ∧ s.b.fbRuns f = true ∧ s.b.get FB.FB_POS_COUNT f <
      s.b.cpr f ∧ (s.b.fbMode f = 1 ∨ s.b.fbMode f = 2) ∧ s.b.on FB.FB_STAT_WIRE_A f = false ∧ s.b.on FB.FB_STAT_WIRE_B f = false ∧
      quadPhase a bl = (quadPhase (s.b.fb f).a (s.b.fb f).b + if fwd then 1 else 3) % 4 ∧ up = (fwd != s.b.on FB.FB_CFG_DIR_INV f)) ∧
    (∃ s : State, ∃ f : Nat, ∃ a : Bool, ∃ bl : Bool, ∃ fwd : Bool, ∃ up : Bool, f < 24 ∧ s.b.fbRuns f = true ∧ s.b.get FB.FB_POS_COUNT f <
      s.b.cpr f ∧ (s.b.fbMode f = 1 ∨ s.b.fbMode f = 2) ∧ s.b.on FB.FB_STAT_WIRE_A f = false ∧ s.b.on FB.FB_STAT_WIRE_B f = false ∧
      quadPhase a bl = (quadPhase (s.b.fb f).a (s.b.fb f).b + if fwd then 1 else 3) % 4 ∧ up = (fwd != s.b.on FB.FB_CFG_DIR_INV f)) ∧
    (∃ s : State, ∃ f : Nat, ∃ a : Bool, ∃ bl : Bool, f < 24 ∧ s.b.fbRuns f = true ∧ s.b.get FB.FB_POS_COUNT f < s.b.cpr f ∧ (s.b.fbMode f =
      1 ∨ s.b.fbMode f = 2) ∧ s.b.on FB.FB_STAT_WIRE_A f = false ∧ s.b.on FB.FB_STAT_WIRE_B f = false ∧ quadPhase a bl = (quadPhase (s.b.fb
      f).a (s.b.fb f).b + 2) % 4) ∧
    (∃ s : State, ∃ f : Nat, ∃ h : Nat, ∃ i : Nat, ∃ fwd : Bool, ∃ up : Bool, f < 24 ∧ s.b.fbRuns f = true ∧ s.b.get FB.FB_POS_COUNT f <
      s.b.cpr f ∧ s.b.fbMode f = 3 ∧ hallIndex (s.b.fb f).hall = some i ∧ hallIndex h = some ((i + if fwd then 1 else 5) % 6) ∧ up = (fwd !=
      s.b.on FB.FB_CFG_DIR_INV f)) ∧
    (∃ s : State, ∃ f : Nat, ∃ h : Nat, ∃ i : Nat, ∃ fwd : Bool, ∃ up : Bool, f < 24 ∧ s.b.fbRuns f = true ∧ s.b.get FB.FB_POS_COUNT f <
      s.b.cpr f ∧ s.b.fbMode f = 3 ∧ hallIndex (s.b.fb f).hall = some i ∧ hallIndex h = some ((i + if fwd then 1 else 5) % 6) ∧ up = (fwd !=
      s.b.on FB.FB_CFG_DIR_INV f)) ∧
    (∃ s : State, ∃ f : Nat, ∃ h : Nat, f < 24 ∧ s.b.fbRuns f = true ∧ s.b.get FB.FB_POS_COUNT f < s.b.cpr f ∧ s.b.fbMode f = 3 ∧ hallIndex
      h = none ∧ (s.b.fb f).hall ≠ h) ∧
    (∃ s : State, ∃ f : Nat, f < 24 ∧ s.b.fbRuns f = true ∧ s.b.get FB.FB_POS_COUNT f < s.b.cpr f ∧ s.b.fbMode f = 4 ∧ s.b.on
      FB.FB_SSI_TRIG_EN f = true ∧ (s.b.fb f).busy = false) ∧
    (∃ s : State, ∃ f : Nat, f < 24 ∧ s.b.fbRuns f = true ∧ s.b.get FB.FB_POS_COUNT f < s.b.cpr f ∧ s.b.fbMode f = 4 ∧ (s.b.fb f).busy =
      true ∧ s.b.get FB.FB_SER_ERR_MASK f = 0 ∧ s.b.on FB.FB_SER_GRAY f = false ∧ s.b.get FB.FB_SER_ST_BITS f ≤ 24) ∧
    (∃ s : State, ∃ f : Nat, f < 24 ∧ s.b.fbRuns f = true ∧ s.b.get FB.FB_POS_COUNT f < s.b.cpr f ∧ s.b.fbMode f = 4 ∧ (s.b.fb f).busy =
      true ∧ s.b.get FB.FB_SER_ERR_MASK f = 0 ∧ s.b.on FB.FB_SER_GRAY f = false ∧ s.b.get FB.FB_SER_ST_BITS f ≤ 24) ∧
    (∃ s : State, ∃ f : Nat, ∃ frame : Nat, f < 24 ∧ s.b.fbRuns f = true ∧ s.b.get FB.FB_POS_COUNT f < s.b.cpr f ∧ s.b.fbMode f = 4 ∧
      (s.b.fb f).busy = true ∧ s.b.on FB.FB_SER_ERR_POL f = false ∧ frame % 2 ^ s.b.get FB.FB_SER_ERR_BITS f &&& s.b.get FB.FB_SER_ERR_MASK
      f ≠ 0) :=
  ⟨⟨⟨(blk 1 [(FBI.FBI_CTL_EN, 1, 0, 0), (FB.FB_CFG_MODE, 1, 23, 0), (FB.FB_CPR_CPR, 4096, 23, 0), (FB.FB_POS_COUNT, 4095, 23, 0)]), [], []⟩,
    23, true, false, true, true, by decide⟩,
   ⟨⟨{ blk 1 [(FBI.FBI_CTL_EN, 1, 0, 0), (FB.FB_CFG_MODE, 2, 23, 0), (FB.FB_CPR_CPR, 4096, 23, 0)] with fbs := [(23, { a := true, b := true })] },
     [], []⟩, 23, true, false, false, false, by decide⟩,
   ⟨⟨{ blk 1 [(FBI.FBI_CTL_EN, 1, 0, 0), (FB.FB_CFG_MODE, 2, 23, 0), (FB.FB_CPR_CPR, 4096, 23, 0), (FB.FB_POS_COUNT, 4095, 23, 0), (FB.FB_CFG_DIR_INV, 1, 23, 0)] with fbs := [(23, { a := true, b := true })] },
     [], []⟩, 23, true, false, false, true, by decide⟩,
   ⟨⟨(blk 1 [(FBI.FBI_CTL_EN, 1, 0, 0), (FB.FB_CFG_MODE, 1, 23, 0), (FB.FB_CPR_CPR, 4096, 23, 0), (FB.FB_POS_COUNT, 4095, 23, 0)]), [], []⟩,
     23, true, true, by decide⟩,
   ⟨⟨{ blk 1 [(FBI.FBI_CTL_EN, 1, 0, 0), (FB.FB_CFG_MODE, 3, 23, 0), (FB.FB_CPR_CPR, 4096, 23, 0), (FB.FB_POS_COUNT, 4095, 23, 0)] with fbs := [(23, { hall := 5 })] },
     [], []⟩, 23, 1, 5, true, true, by decide⟩,
   ⟨⟨{ blk 1 [(FBI.FBI_CTL_EN, 1, 0, 0), (FB.FB_CFG_MODE, 3, 23, 0), (FB.FB_CPR_CPR, 4096, 23, 0), (FB.FB_POS_COUNT, 4095, 23, 0), (FB.FB_CFG_DIR_INV, 1, 23, 0)] with fbs := [(23, { hall := 5 })] },
     [], []⟩, 23, 1, 5, true, false, by decide⟩,
   ⟨⟨{ blk 1 [(FBI.FBI_CTL_EN, 1, 0, 0), (FB.FB_CFG_MODE, 3, 23, 0)] with fbs := [(23, { hall := 1 })] }, [], []⟩, 23, 7, by decide⟩,
   ⟨⟨(blk 1 [(FBI.FBI_CTL_EN, 1, 0, 0), (FB.FB_CFG_MODE, 4, 23, 0), (FB.FB_SER_ST_BITS, 24, 23, 0), (FB.FB_SSI_TRIG_EN, 1, 23, 0)]), [],
     []⟩, 23, by decide⟩,
   ⟨⟨{ blk 1 [(FBI.FBI_CTL_EN, 1, 0, 0), (FB.FB_CFG_MODE, 4, 23, 0), (FB.FB_SER_ST_BITS, 24, 23, 0)] with fbs := [(23, { busy := true })] },
     [], []⟩, 23, by decide⟩,
   ⟨⟨{ blk 1 [(FBI.FBI_CTL_EN, 1, 0, 0), (FB.FB_CFG_MODE, 4, 23, 0), (FB.FB_SER_ST_BITS, 12, 23, 0), (FB.FB_SER_MT_BITS, 12, 23, 0), (FB.FB_SER_SKIP, 3, 23, 0), (FB.FB_SER_ERR_BITS, 2, 23, 0)] with fbs := [(23, { busy := true })] },
     [], []⟩, 23, by decide⟩,
   ⟨⟨{ blk 1 [(FBI.FBI_CTL_EN, 1, 0, 0), (FB.FB_CFG_MODE, 4, 23, 0), (FB.FB_SER_ST_BITS, 12, 23, 0), (FB.FB_SER_ERR_BITS, 2, 23, 0), (FB.FB_SER_ERR_MASK, 2, 23, 0)] with fbs := [(23, { busy := true })] },
     [], []⟩, 23, 6, by decide⟩⟩

/-- States and operands that meet the hypotheses of FeedbackEvents. -/
theorem witness_feedbackEvents :
    (∃ s : State, ∃ f : Nat, f < 24 ∧ s.b.fbRuns f = true ∧ (s.b.fbMode f = 1 ∨ s.b.fbMode f = 2) ∧ s.b.on FB.FB_STAT_WIRE_Z f = false) ∧
    (∃ s : State, ∃ f : Nat, f < 24 ∧ s.b.fbRuns f = true ∧ (s.b.fbMode f = 1 ∨ s.b.fbMode f = 2) ∧ s.b.on FB.FB_STAT_WIRE_Z f = false) ∧
    (∃ s : State, ∃ f : Nat, f < 24 ∧ s.b.fbRuns f = true ∧ (s.b.fbMode f = 1 ∨ s.b.fbMode f = 2) ∧ s.b.on FB.FB_STAT_WIRE_Z f = false) ∧
    (∃ s : State, ∃ f : Nat, f < 24 ∧ s.b.fbRuns f = true ∧ (s.b.fbMode f = 1 ∨ s.b.fbMode f = 2) ∧ s.b.on FB.FB_STAT_WIRE_Z f = false) ∧
    (∃ s : State, ∃ f : Nat, f < 24 ∧ s.b.fbRuns f = true ∧ (s.b.fbMode f = 1 ∨ s.b.fbMode f = 2) ∧ s.b.on FB.FB_STAT_WIRE_Z f = false) ∧
    (∃ s : State, ∃ f : Nat, f < 24 ∧ s.b.fbRuns f = true ∧ (s.b.fbMode f = 1 ∨ s.b.fbMode f = 2) ∧ s.b.on FB.FB_STAT_WIRE_Z f = false) ∧
    (∃ s : State, ∃ f : Nat, f < 24 ∧ s.b.fbRuns f = true ∧ (s.b.fbMode f = 1 ∨ s.b.fbMode f = 2) ∧ s.b.on FB.FB_STAT_WIRE_Z f = false) ∧
    (∃ s : State, ∃ f : Nat, ∃ pair : Nat, f < 24 ∧ pair ≤ 2 ∧ s.b.fbRuns f = true ∧ (s.b.fbMode f = 1 ∨ s.b.fbMode f = 2 ∨ s.b.fbMode f = 4
      ∧ pair = 1) ∧ s.b.on FB.FB_CFG_WIRE_EN f = true ∧ s.b.on ⟨FB.FB_STAT, 4 + pair, 1⟩ f = false) ∧
    (∃ s : State, ∃ f : Nat, ∃ pair : Nat, f < 24 ∧ pair ≤ 2 ∧ s.b.fbRuns f = true ∧ (s.b.fbMode f = 1 ∨ s.b.fbMode f = 2 ∨ s.b.fbMode f = 4
      ∧ pair = 1) ∧ s.b.on FB.FB_CFG_WIRE_EN f = true ∧ s.b.on ⟨FB.FB_STAT, 4 + pair, 1⟩ f = false) ∧
    (∃ s : State, ∃ f : Nat, f < 24 ∧ s.b.fbRuns f = true ∧ s.b.on FB.FB_STAT_ATTACHED f = false ∧ 1 ≤ s.b.fbMode f ∧ s.b.fbMode f ≤ 3 ∧
      s.b.get FB.FB_POS_COUNT f < s.b.cpr f) ∧
    (∃ s : State, ∃ f : Nat, f < 24 ∧ s.b.fbRuns f = true ∧ 1 ≤ s.b.fbMode f ∧ s.b.fbMode f ≤ 3) ∧
    (∃ s : State, ∃ f : Nat, ∃ m : Master, f < 24 ∧ s.writable m (0x78 + f) = true ∧ s.b.fbMode f ≠ 0 ∧ s.b.on FB.FB_STAT_WIRE_A f = false ∧
      s.b.on FB.FB_STAT_WIRE_B f = false ∧ s.b.on FB.FB_STAT_WIRE_Z f = false ∧ s.b.on FB.FB_STAT_STALE f = false ∧ s.b.on
      FB.FB_STAT_HALL_ERR f = false) ∧
    (∃ s : State, ∃ f : Nat, ∃ m : Master, f < 24 ∧ s.writable m (0x78 + f) = true ∧ (s.b.fbMode f = 0 ∨ s.b.on FB.FB_STAT_WIRE_A f = true ∨
      s.b.on FB.FB_STAT_STALE f = true)) ∧
    (∃ s : State, ∃ f : Nat, ∃ m : Master, ∃ w : Word, f < 24 ∧ s.writable m (0x78 + f) = true ∧ FB.FB_CTL_REARM.of w = 0) :=
  ⟨⟨⟨{ blk 1 [(FBI.FBI_CTL_EN, 1, 0, 0), (FB.FB_CFG_MODE, 2, 23, 0), (FB.FB_CPR_CPR, 4096, 23, 0), (FB.FB_POS_COUNT, 4095, 23, 0), (FB.FB_CFG_ZMODE, 1, 23, 0), (FB.FB_Z_Z_POS, 17, 23, 0)] with fbs := [(23, { homeArmed := true })] },
    [], []⟩, 23, by decide⟩,
   ⟨⟨(blk 1 [(FBI.FBI_CTL_EN, 1, 0, 0), (FB.FB_CFG_MODE, 1, 23, 0), (FB.FB_CPR_CPR, 4096, 23, 0), (FB.FB_POS_COUNT, 4095, 23, 0)]), [], []⟩,
     23, by decide⟩,
   ⟨⟨{ blk 1 [(FBI.FBI_CTL_EN, 1, 0, 0), (FB.FB_CFG_MODE, 2, 23, 0), (FB.FB_CPR_CPR, 4096, 23, 0), (FB.FB_POS_COUNT, 4095, 23, 0), (FB.FB_CFG_ZMODE, 1, 23, 0), (FB.FB_Z_Z_POS, 17, 23, 0)] with fbs := [(23, { zDone := true })] },
     [], []⟩, 23, by decide⟩,
   ⟨⟨(blk 1 [(FBI.FBI_CTL_EN, 1, 0, 0), (FB.FB_CFG_MODE, 1, 23, 0), (FB.FB_CPR_CPR, 4096, 23, 0), (FB.FB_POS_COUNT, 4095, 23, 0),
     (FB.FB_CFG_ZMODE, 2, 23, 0), (FB.FB_Z_Z_POS, 4, 23, 0), (FB.FB_Z_Z_TOL, 4, 23, 0)]), [], []⟩, 23, by decide⟩,
   ⟨⟨(blk 1 [(FBI.FBI_CTL_EN, 1, 0, 0), (FB.FB_CFG_MODE, 1, 23, 0), (FB.FB_CPR_CPR, 4096, 23, 0), (FB.FB_POS_COUNT, 4095, 23, 0),
     (FB.FB_CFG_ZMODE, 2, 23, 0), (FB.FB_Z_Z_POS, 4, 23, 0), (FB.FB_Z_Z_TOL, 5, 23, 0)]), [], []⟩, 23, by decide⟩,
   ⟨⟨(blk 1 [(FBI.FBI_CTL_EN, 1, 0, 0), (FB.FB_CFG_MODE, 1, 23, 0), (FB.FB_CPR_CPR, 4096, 23, 0), (FB.FB_POS_COUNT, 4095, 23, 0),
     (FB.FB_CFG_ZMODE, 3, 23, 0), (FB.FB_Z_Z_POS, 4, 23, 0), (FB.FB_Z_Z_TOL, 4, 23, 0)]), [], []⟩, 23, by decide⟩,
   ⟨⟨(blk 1 [(FBI.FBI_CTL_EN, 1, 0, 0), (FB.FB_CFG_MODE, 2, 23, 0), (FB.FB_CPR_CPR, 4096, 23, 0), (FB.FB_POS_COUNT, 4095, 23, 0),
     (FB.FB_CFG_ZMODE, 3, 23, 0), (FB.FB_Z_Z_POS, 4, 23, 0), (FB.FB_STAT_SUSPECT, 1, 23, 0), (FB.FB_Z_Z_TOL, 5, 23, 0)]), [], []⟩, 23, by
     decide⟩,
   ⟨⟨(blk 1 [(FBI.FBI_CTL_EN, 1, 0, 0), (FB.FB_CFG_MODE, 4, 23, 0), (FB.FB_CFG_WIRE_EN, 1, 23, 0)]), [], []⟩, 23, 1, by decide⟩,
   ⟨⟨(blk 1 [(FBI.FBI_CTL_EN, 1, 0, 0), (FB.FB_CFG_MODE, 1, 23, 0), (FB.FB_CFG_WIRE_EN, 1, 23, 0)]), [], []⟩, 23, 2, by decide⟩,
   ⟨⟨(blk 1 [(FBI.FBI_CTL_EN, 1, 0, 0), (FB.FB_CFG_MODE, 3, 23, 0), (FB.FB_CPR_CPR, 4096, 23, 0), (FB.FB_POS_COUNT, 4095, 23, 0)]), [], []⟩,
     23, by decide⟩,
   ⟨⟨(blk 1 [(FBI.FBI_CTL_EN, 1, 0, 0), (FB.FB_CFG_MODE, 1, 23, 0), (⟨FB.FB_SPEED, 0, 32⟩, 9, 23, 0)]), [], []⟩, 23, by decide⟩,
   ⟨⟨(blk 1 [(FBI.FBI_CTL_EN, 1, 0, 0), (FB.FB_CFG_MODE, 1, 23, 0), (FB.FB_STAT_SUSPECT, 1, 23, 0)]), [], []⟩, 23, .hsp, by decide⟩,
   ⟨⟨(blk 1 [(FBI.FBI_CTL_EN, 1, 0, 0), (FB.FB_CFG_MODE, 0, 23, 0)]), [], []⟩, 23, .hsp, by decide⟩,
   ⟨⟨{ blk 1 [(FBI.FBI_CTL_EN, 1, 0, 0), (FB.FB_CFG_MODE, 1, 23, 0), (FB.FB_STAT_HOMED, 1, 23, 0)] with fbs := [(23, { zDone := true })] },
     [], []⟩, 23, .hsp, FB.FB_CTL_HOME_ARM.into 0 1, by decide⟩⟩

/-- States and operands that meet the hypotheses of PositionCompare. -/
theorem witness_positionCompare :
    (∃ s : State, ∃ u : Nat, ∃ m : Master, u < 32 ∧ s.writable m (0x90 + u) = true ∧ s.b.on PC.PC_CTL_EN u = false) ∧
    (∃ s : State, ∃ u : Nat, ∃ m : Master, ∃ w : Word, ∃ f : Nat, ∃ d : Int, u < 32 ∧ s.writable m (0x90 + u) = true ∧ s.b.on PC.PC_CTL_EN u
      = true ∧ f = s.b.get PC.PC_CFG_FB u ∧ f < 24 ∧ d = diff32 w.toNat (s.b.px f) ∧ s.b.get PC.PC_CFG_DIR u ≤ 2 ∧ (s.b.on FB.FB_STAT_VALID
      f = false ∨ (s.b.get PC.PC_CFG_HYST u < d.natAbs ∧ ¬pcBehind s u f d))) ∧
    (∃ s : State, ∃ u : Nat, ∃ m : Master, ∃ w : Word, ∃ f : Nat, ∃ d : Int, u < 32 ∧ s.writable m (0x90 + u) = true ∧ s.b.on PC.PC_CTL_EN u
      = true ∧ f = s.b.get PC.PC_CFG_FB u ∧ f < 24 ∧ d = diff32 w.toNat (s.b.px f) ∧ s.b.get PC.PC_CFG_DIR u ≤ 2 ∧ (s.b.on FB.FB_STAT_VALID
      f = false ∨ (s.b.get PC.PC_CFG_HYST u < d.natAbs ∧ ¬pcBehind s u f d))) ∧
    (∃ s : State, ∃ u : Nat, ∃ m : Master, ∃ w : Word, ∃ f : Nat, ∃ d : Int, u < 32 ∧ s.writable m (0x90 + u) = true ∧ s.b.on PC.PC_CTL_EN u
      = true ∧ f = s.b.get PC.PC_CFG_FB u ∧ f < 24 ∧ d = diff32 w.toNat (s.b.px f) ∧ s.b.get PC.PC_CFG_DIR u ≤ 2 ∧ (s.b.on FB.FB_STAT_VALID
      f = false ∨ (s.b.get PC.PC_CFG_HYST u < d.natAbs ∧ ¬pcBehind s u f d))) ∧
    (∃ s : State, ∃ u : Nat, ∃ m : Master, ∃ w : Word, u < 32 ∧ s.writable m (0x90 + u) = true ∧ s.b.on PC.PC_CTL_EN u = true ∧ s.b.on
      FBI.FBI_CTL_EN = true ∧ s.b.get PC.PC_CFG_FB u < 24 ∧ s.b.on FB.FB_STAT_VALID (s.b.get PC.PC_CFG_FB u) = true ∧ s.b.on
      PC.PC_CFG_PERIODIC u = false ∧ (diff32 w.toNat (s.b.px (s.b.get PC.PC_CFG_FB u))).natAbs ≤ s.b.get PC.PC_CFG_HYST u) ∧
    (∃ s : State, ∃ u : Nat, ∃ m : Master, ∃ w : Word, u < 32 ∧ s.writable m (0x90 + u) = true ∧ s.b.on PC.PC_CTL_EN u = true ∧ s.b.on
      FBI.FBI_CTL_EN = true ∧ s.b.get PC.PC_CFG_FB u < 24 ∧ s.b.on FB.FB_STAT_VALID (s.b.get PC.PC_CFG_FB u) = true ∧ s.b.on
      PC.PC_CFG_PERIODIC u = false ∧ (diff32 w.toNat (s.b.px (s.b.get PC.PC_CFG_FB u))).natAbs ≤ s.b.get PC.PC_CFG_HYST u) ∧
    (∃ s : State, ∃ u : Nat, ∃ m : Master, ∃ w : Word, ∃ f : Nat, u < 32 ∧ s.writable m (0x90 + u) = true ∧ s.b.on PC.PC_CTL_EN u = true ∧
      s.b.on FBI.FBI_CTL_EN = true ∧ f = s.b.get PC.PC_CFG_FB u ∧ f < 24 ∧ s.b.fbMode f < 4 ∧ s.b.on FB.FB_STAT_VALID f = true ∧ s.b.on
      PC.PC_CFG_PERIODIC u = true ∧ (diff32 w.toNat (s.b.px f)).natAbs ≤ s.b.get PC.PC_CFG_HYST u) ∧
    (∃ s : State, ∃ u : Nat, ∃ m : Master, ∃ w : Word, ∃ f : Nat, ∃ d : Int, u < 32 ∧ s.writable m (0x90 + u) = true ∧ s.b.on PC.PC_CTL_EN u
      = true ∧ s.b.on FBI.FBI_CTL_EN = true ∧ f = s.b.get PC.PC_CFG_FB u ∧ f < 24 ∧ d = diff32 w.toNat (s.b.px f) ∧ s.b.on FB.FB_STAT_VALID
      f = true ∧ s.b.get PC.PC_CFG_HYST u < d.natAbs ∧ pcBehind s u f d ∧ s.b.on PC.PC_CFG_LATE_FIRE u = false) ∧
    (∃ s : State, ∃ u : Nat, ∃ m : Master, ∃ w : Word, ∃ f : Nat, ∃ d : Int, u < 32 ∧ s.writable m (0x90 + u) = true ∧ s.b.on PC.PC_CTL_EN u
      = true ∧ s.b.on FBI.FBI_CTL_EN = true ∧ f = s.b.get PC.PC_CFG_FB u ∧ f < 24 ∧ d = diff32 w.toNat (s.b.px f) ∧ s.b.on FB.FB_STAT_VALID
      f = true ∧ s.b.get PC.PC_CFG_HYST u < d.natAbs ∧ pcBehind s u f d ∧ s.b.on PC.PC_CFG_LATE_FIRE u = false) ∧
    (∃ s : State, ∃ u : Nat, ∃ m : Master, ∃ w : Word, ∃ f : Nat, ∃ d : Int, u < 32 ∧ s.writable m (0x90 + u) = true ∧ s.b.on PC.PC_CTL_EN u
      = true ∧ s.b.on FBI.FBI_CTL_EN = true ∧ f = s.b.get PC.PC_CFG_FB u ∧ f < 24 ∧ d = diff32 w.toNat (s.b.px f) ∧ s.b.on FB.FB_STAT_VALID
      f = true ∧ s.b.get PC.PC_CFG_HYST u < d.natAbs ∧ pcBehind s u f d ∧ s.b.on PC.PC_CFG_LATE_FIRE u = false) ∧
    (∃ s : State, ∃ u : Nat, ∃ m : Master, ∃ w : Word, ∃ f : Nat, ∃ d : Int, u < 32 ∧ s.writable m (0x90 + u) = true ∧ s.b.on PC.PC_CTL_EN u
      = true ∧ s.b.on FBI.FBI_CTL_EN = true ∧ f = s.b.get PC.PC_CFG_FB u ∧ f < 24 ∧ d = diff32 w.toNat (s.b.px f) ∧ s.b.on FB.FB_STAT_VALID
      f = true ∧ s.b.get PC.PC_CFG_HYST u < d.natAbs ∧ pcBehind s u f d ∧ s.b.on PC.PC_CFG_LATE_FIRE u = false) ∧
    (∃ s : State, ∃ u : Nat, ∃ m : Master, ∃ w : Word, ∃ f : Nat, ∃ d : Int, u < 32 ∧ s.writable m (0x90 + u) = true ∧ s.b.on PC.PC_CTL_EN u
      = true ∧ s.b.on FBI.FBI_CTL_EN = true ∧ f = s.b.get PC.PC_CFG_FB u ∧ f < 24 ∧ d = diff32 w.toNat (s.b.px f) ∧ s.b.on FB.FB_STAT_VALID
      f = true ∧ s.b.get PC.PC_CFG_HYST u < d.natAbs ∧ pcBehind s u f d ∧ s.b.on PC.PC_CFG_LATE_FIRE u = true) ∧
    (∃ s : State, ∃ u : Nat, ∃ m : Master, ∃ w : Word, ∃ f : Nat, ∃ d : Int, u < 32 ∧ s.writable m (0x90 + u) = true ∧ s.b.on PC.PC_CTL_EN u
      = true ∧ s.b.on FBI.FBI_CTL_EN = true ∧ f = s.b.get PC.PC_CFG_FB u ∧ f < 24 ∧ d = diff32 w.toNat (s.b.px f) ∧ s.b.on FB.FB_STAT_VALID
      f = true ∧ s.b.get PC.PC_CFG_HYST u < d.natAbs ∧ pcBehind s u f d ∧ s.b.on PC.PC_CFG_LATE_FIRE u = true) ∧
    (∃ s : State, ∃ u : Nat, ∃ m : Master, ∃ w : Word, ∃ f : Nat, ∃ d : Int, u < 32 ∧ s.writable m (0x90 + u) = true ∧ s.b.on PC.PC_CTL_EN u
      = true ∧ s.b.on FBI.FBI_CTL_EN = true ∧ f = s.b.get PC.PC_CFG_FB u ∧ f < 24 ∧ d = diff32 w.toNat (s.b.px f) ∧ s.b.on FB.FB_STAT_VALID
      f = true ∧ s.b.get PC.PC_CFG_HYST u < d.natAbs ∧ pcBehind s u f d ∧ s.b.on PC.PC_CFG_LATE_FIRE u = true) ∧
    (∃ s : State, ∃ u : Nat, ∃ m : Master, ∃ w : Word, ∃ f : Nat, ∃ d : Int, u < 32 ∧ s.writable m (0x90 + u) = true ∧ s.b.on PC.PC_CTL_EN u
      = true ∧ s.b.on FBI.FBI_CTL_EN = true ∧ f = s.b.get PC.PC_CFG_FB u ∧ f < 24 ∧ d = diff32 w.toNat (s.b.px f) ∧ s.b.on FB.FB_STAT_VALID
      f = true ∧ s.b.get PC.PC_CFG_HYST u < d.natAbs ∧ pcBehind s u f d ∧ s.b.on PC.PC_CFG_LATE_FIRE u = true) ∧
    (∃ s : State, ∃ u : Nat, ∃ m : Master, ∃ w : Word, ∃ f : Nat, ∃ d : Int, u < 32 ∧ s.writable m (0x90 + u) = true ∧ s.b.on PC.PC_CTL_EN u
      = true ∧ s.b.on FBI.FBI_CTL_EN = true ∧ f = s.b.get PC.PC_CFG_FB u ∧ f < 24 ∧ d = diff32 w.toNat (s.b.px f) ∧ s.b.on FB.FB_STAT_VALID
      f = true ∧ s.b.get PC.PC_CFG_HYST u < d.natAbs ∧ pcBehind s u f d ∧ s.b.on PC.PC_CFG_LATE_FIRE u = true) ∧
    (∃ s : State, ∃ u : Nat, ∃ pin : Nat, u < 32 ∧ pin < 8 ∧ s.b.running = true) :=
  ⟨⟨⟨(blk 1 []), [], []⟩, 31, .hsp, by decide⟩,
   ⟨⟨(blk 1 [(PC.PC_CTL_EN, 1, 31, 0), (PC.PC_CFG_FB, 23, 31, 0)]), [], []⟩, 31, .hsp, 5, 23, 5, by decide, by decide, by decide, by decide,
     by decide, by decide, by decide, Or.inl (by decide)⟩,
   ⟨⟨(blk 1 [(PC.PC_CTL_EN, 1, 31, 0), (PC.PC_CFG_FB, 23, 31, 0), (FB.FB_STAT_VALID, 1, 23, 0), (⟨FB.FB_PX, 0, 32⟩, 100, 23, 0),
     (PC.PC_CFG_HYST, 4, 31, 0)]), [], []⟩, 31, .hsp, 105, 23, 5, by decide, by decide, by decide, by decide, by decide, by decide, by
     decide, Or.inr ⟨by decide, fun h => Or.elim h (by decide) (fun h => Or.elim h (by decide) (by decide))⟩⟩,
   ⟨⟨(blk 1 [(PC.PC_CTL_EN, 1, 31, 0), (PC.PC_CFG_FB, 23, 31, 0), (FB.FB_STAT_VALID, 1, 23, 0), (⟨FB.FB_PX, 0, 32⟩, 100, 23, 0),
     (PC.PC_CFG_HYST, 4, 31, 0), (PC.PC_CFG_DIR, 2, 31, 0), (⟨FB.FB_SPEED, 0, 32⟩, 1, 23, 0)]), [], []⟩, 31, .hsp, 105, 23, 5, by decide, by
     decide, by decide, by decide, by decide, by decide, by decide, Or.inr ⟨by decide, fun h => Or.elim h (by decide) (fun h => Or.elim h
     (by decide) (by decide))⟩⟩,
   ⟨⟨(blk 1 [(PC.PC_CTL_EN, 1, 31, 0), (PC.PC_CFG_FB, 23, 31, 0), (FBI.FBI_CTL_EN, 1, 0, 0), (FB.FB_STAT_VALID, 1, 23, 0), (⟨FB.FB_PX, 0,
     32⟩, 100, 23, 0), (PC.PC_CFG_HYST, 4, 31, 0)]), [], []⟩, 31, .hsp, 104, by decide⟩,
   ⟨⟨(blk 1 [(PC.PC_CTL_EN, 1, 31, 0), (PC.PC_CFG_FB, 23, 31, 0), (FBI.FBI_CTL_EN, 1, 0, 0), (FB.FB_STAT_VALID, 1, 23, 0), (⟨FB.FB_PX, 0,
     32⟩, 100, 23, 0), (PC.PC_CFG_HYST, 4, 31, 0)]), [], []⟩, 31, .hsp, 96, by decide⟩,
   ⟨⟨(blk 1 [(PC.PC_CTL_EN, 1, 31, 0), (PC.PC_CFG_FB, 23, 31, 0), (FBI.FBI_CTL_EN, 1, 0, 0), (FB.FB_STAT_VALID, 1, 23, 0), (⟨FB.FB_PX, 0,
     32⟩, 100, 23, 0), (PC.PC_CFG_HYST, 4, 31, 0), (PC.PC_CFG_PERIODIC, 1, 31, 0), (FB.FB_CFG_MODE, 1, 23, 0)]), [], []⟩, 31, .hsp, 104, 23,
     by decide⟩,
   ⟨⟨(blk 1 [(PC.PC_CTL_EN, 1, 31, 0), (PC.PC_CFG_FB, 23, 31, 0), (FBI.FBI_CTL_EN, 1, 0, 0), (FB.FB_STAT_VALID, 1, 23, 0), (⟨FB.FB_PX, 0,
     32⟩, 100, 23, 0), (PC.PC_CFG_HYST, 4, 31, 0), (PC.PC_CFG_LATE_FIRE, 0, 31, 0)]), [], []⟩, 31, .hsp, 95, 23, (-5), by decide, by decide,
     by decide, by decide, by decide, by decide, by decide, by decide, by decide, Or.inl (by decide), by decide⟩,
   ⟨⟨(blk 1 [(PC.PC_CTL_EN, 1, 31, 0), (PC.PC_CFG_FB, 23, 31, 0), (FBI.FBI_CTL_EN, 1, 0, 0), (FB.FB_STAT_VALID, 1, 23, 0), (⟨FB.FB_PX, 0,
     32⟩, 100, 23, 0), (PC.PC_CFG_HYST, 4, 31, 0), (PC.PC_CFG_LATE_FIRE, 0, 31, 0), (PC.PC_CFG_DIR, 1, 31, 0)]), [], []⟩, 31, .hsp, 105, 23,
     5, by decide, by decide, by decide, by decide, by decide, by decide, by decide, by decide, by decide, Or.inr (Or.inl (by decide)), by
     decide⟩,
   ⟨⟨(blk 1 [(PC.PC_CTL_EN, 1, 31, 0), (PC.PC_CFG_FB, 23, 31, 0), (FBI.FBI_CTL_EN, 1, 0, 0), (FB.FB_STAT_VALID, 1, 23, 0), (⟨FB.FB_PX, 0,
     32⟩, 100, 23, 0), (PC.PC_CFG_HYST, 4, 31, 0), (PC.PC_CFG_LATE_FIRE, 0, 31, 0), (PC.PC_CFG_DIR, 2, 31, 0), (⟨FB.FB_SPEED, 0, 32⟩, 1, 23,
     0)]), [], []⟩, 31, .hsp, 95, 23, (-5), by decide, by decide, by decide, by decide, by decide, by decide, by decide, by decide, by
     decide, Or.inr (Or.inr (by decide)), by decide⟩,
   ⟨⟨(blk 1 [(PC.PC_CTL_EN, 1, 31, 0), (PC.PC_CFG_FB, 23, 31, 0), (FBI.FBI_CTL_EN, 1, 0, 0), (FB.FB_STAT_VALID, 1, 23, 0), (⟨FB.FB_PX, 0,
     32⟩, 100, 23, 0), (PC.PC_CFG_HYST, 4, 31, 0), (PC.PC_CFG_LATE_FIRE, 0, 31, 0), (PC.PC_CFG_DIR, 2, 31, 0), (⟨FB.FB_SPEED, 0, 32⟩,
     0xFFFFFFFF, 23, 0)]), [], []⟩, 31, .hsp, 105, 23, 5, by decide, by decide, by decide, by decide, by decide, by decide, by decide, by
     decide, by decide, Or.inr (Or.inr (by decide)), by decide⟩,
   ⟨⟨(blk 1 [(PC.PC_CTL_EN, 1, 31, 0), (PC.PC_CFG_FB, 23, 31, 0), (FBI.FBI_CTL_EN, 1, 0, 0), (FB.FB_STAT_VALID, 1, 23, 0), (⟨FB.FB_PX, 0,
     32⟩, 100, 23, 0), (PC.PC_CFG_HYST, 4, 31, 0), (PC.PC_CFG_LATE_FIRE, 1, 31, 0)]), [], []⟩, 31, .hsp, 95, 23, (-5), by decide, by decide,
     by decide, by decide, by decide, by decide, by decide, by decide, by decide, Or.inl (by decide), by decide⟩,
   ⟨⟨(blk 1 [(PC.PC_CTL_EN, 1, 31, 0), (PC.PC_CFG_FB, 23, 31, 0), (FBI.FBI_CTL_EN, 1, 0, 0), (FB.FB_STAT_VALID, 1, 23, 0), (⟨FB.FB_PX, 0,
     32⟩, 100, 23, 0), (PC.PC_CFG_HYST, 4, 31, 0), (PC.PC_CFG_LATE_FIRE, 1, 31, 0), (PC.PC_CFG_DIR, 1, 31, 0)]), [], []⟩, 31, .hsp, 105, 23,
     5, by decide, by decide, by decide, by decide, by decide, by decide, by decide, by decide, by decide, Or.inr (Or.inl (by decide)), by
     decide⟩,
   ⟨⟨(blk 1 [(PC.PC_CTL_EN, 1, 31, 0), (PC.PC_CFG_FB, 23, 31, 0), (FBI.FBI_CTL_EN, 1, 0, 0), (FB.FB_STAT_VALID, 1, 23, 0), (⟨FB.FB_PX, 0,
     32⟩, 100, 23, 0), (PC.PC_CFG_HYST, 4, 31, 0), (PC.PC_CFG_LATE_FIRE, 1, 31, 0), (PC.PC_CFG_DIR, 2, 31, 0), (⟨FB.FB_SPEED, 0, 32⟩, 1, 23,
     0)]), [], []⟩, 31, .hsp, 95, 23, (-5), by decide, by decide, by decide, by decide, by decide, by decide, by decide, by decide, by
     decide, Or.inr (Or.inr (by decide)), by decide⟩,
   ⟨⟨(blk 1 [(PC.PC_CTL_EN, 1, 31, 0), (PC.PC_CFG_FB, 23, 31, 0), (FBI.FBI_CTL_EN, 1, 0, 0), (FB.FB_STAT_VALID, 1, 23, 0), (⟨FB.FB_PX, 0,
     32⟩, 100, 23, 0), (PC.PC_CFG_HYST, 4, 31, 0), (PC.PC_CFG_LATE_FIRE, 1, 31, 0), (PC.PC_CFG_DIR, 2, 31, 0), (⟨FB.FB_SPEED, 0, 32⟩,
     0xFFFFFFFF, 23, 0)]), [], []⟩, 31, .hsp, 105, 23, 5, by decide, by decide, by decide, by decide, by decide, by decide, by decide, by
     decide, by decide, Or.inr (Or.inr (by decide)), by decide⟩,
   ⟨⟨(blk 1 [(PC.PC_CTL_EN, 1, 31, 0), (PC.PC_CFG_FB, 23, 31, 0), (FBI.FBI_CTL_EN, 1, 0, 0), (FB.FB_STAT_VALID, 1, 23, 0), (⟨FB.FB_PX, 0,
     32⟩, 100, 23, 0), (PC.PC_CFG_HYST, 4, 31, 0), (PC.PC_CFG_LATE_FIRE, 1, 31, 0), (PC.PC_CFG_PERIODIC, 1, 31, 0), (FB.FB_CFG_MODE, 5, 23,
     0), (⟨PC.PC_STEP, 0, 32⟩, 2, 31, 0)]), [], []⟩, 31, .hsp, 95, 23, (-5), by decide, by decide, by decide, by decide, by decide, by
     decide, by decide, by decide, by decide, Or.inl (by decide), by decide⟩,
   ⟨⟨{ blk 1 [] with pcoPulse := 128 }, [], []⟩, 31, 7, by decide⟩⟩

set_option maxRecDepth 20000 in
/-- States and operands that meet the hypotheses of TuningUnit. -/
theorem witness_tuningUnit :
    (∃ s : State, ∃ m : Master, ∃ j : Nat, j < 4 ∧ s.writable m 0xD = true ∧ s.b.armCheck j = 0 ∧ s.b.get TCU.SES_CFG_TRIG_SRC 0 j ≠ 0) ∧
    (∃ s : State, ∃ m : Master, ∃ j : Nat, j < 4 ∧ s.writable m 0xD = true ∧ s.b.armCheck j ≠ 0) ∧
    (∃ s : State, ∃ m : Master, ∃ j : Nat, ∃ w : Word, j < 4 ∧ s.writable m 0xD = true ∧ TCU.SES_CMD_ARM.of w = 0 ∧ s.b.get
      TCU.SES_CFG_TRIG_SRC 0 j = 3 ∧ s.b.sesState j = 1 ∧ s.b.get TCU.SES_POST_POST 0 j ≠ 0) ∧
    (∃ s : State, ∃ m : Master, ∃ j : Nat, ∃ w : Word, j < 4 ∧ s.writable m 0xD = true ∧ TCU.SES_CMD_ARM.of w = 0 ∧ s.b.get
      TCU.SES_CFG_TRIG_SRC 0 j = 3 ∧ s.b.sesState j = 1 ∧ s.b.get TCU.SES_POST_POST 0 j = 0) ∧
    (∃ s : State, ∃ m : Master, ∃ j : Nat, ∃ w : Word, j < 4 ∧ s.writable m 0xD = true ∧ TCU.SES_CMD_ARM.of w = 0 ∧ TCU.SES_CMD_TRIG.of w =
      0 ∧ s.b.sesActive j = true) ∧
    (∃ s : State, ∃ m : Master, ∃ j : Nat, ∃ w : Word, j < 4 ∧ s.writable m 0xD = true ∧ TCU.SES_CMD_ARM.of w = 0 ∧ TCU.SES_CMD_TRIG.of w =
      0 ∧ TCU.SES_CMD_STOP.of w = 0 ∧ s.b.sesActive j = false) ∧
    (∃ s : State, ∃ j : Nat, ∃ idx : Nat, ∃ k : Nat, ∃ ws : List Word, ∃ rest : List (Nat × List Word), ∃ a : Nat, j < 4 ∧ s.b.running =
      true ∧ s.b.fenced 0xD = false ∧ (s.b.ses j).queue = (idx, ws) :: rest ∧ a = s.b.get TCU.SES_BUF_BASE 0 j + 4 * ws.length * idx ∧
      bankOf a = some k ∧ s.b.bankReady k = true ∧ s.b.bankOwner k = 3 ∧ a % 4 = 0 ∧ (∀ i, i < ws.length → bankOf (a + 4 * i) = some k)) :=
  ⟨⟨⟨(blk 1 [(LC.LC_STAT_ST, 2, 5, 0), (LC.LC_CFG_AXIS, 3, 5, 0), (LC.LC_CFG_PROG, 1, 5, 0), (TCU.SES_CTX_CLK, 5, 0, 3), (TCU.SES_CTX_INJ,
    5, 0, 3), (TCU.SES_INJ_POINT, 1, 0, 3), (TCU.SES_CFG_NSIG, 1, 0, 3), (TCU.SES_LEN_LEN, 16, 0, 3), (TCU.SES_BUF_BASE, 2097152, 0, 3),
    (TCU.SES_CFG_TRIG_SRC, 3, 0, 3), (TCU.SES_POST_POST, 16, 0, 3), (BK.BANK_OWN_OWNER, 3, 0, 0)]), [], []⟩, .hsp, 3, by decide⟩,
   ⟨⟨(blk 1 [(TCU.SES_STAT_STATE, 1, 0, 3)]), [], []⟩, .hsp, 3, by decide⟩,
   ⟨⟨(blk 1 [(TCU.SES_CFG_TRIG_SRC, 3, 0, 3), (TCU.SES_STAT_STATE, 1, 0, 3), (TCU.SES_POST_POST, 1, 0, 3)]), [], []⟩, .hsp, 3,
     TCU.SES_CMD_TRIG.into 0 1, by decide⟩,
   ⟨⟨(blk 1 [(TCU.SES_CFG_TRIG_SRC, 3, 0, 3), (TCU.SES_STAT_STATE, 1, 0, 3), (TCU.SES_POST_POST, 0, 0, 3)]), [], []⟩, .hsp, 3,
     TCU.SES_CMD_TRIG.into 0 1, by decide⟩,
   ⟨⟨(blk 1 [(TCU.SES_STAT_STATE, 2, 0, 3)]), [], []⟩, .hsp, 3, TCU.SES_CMD_STOP.into 0 1, by decide⟩,
   ⟨⟨(blk 1 [(TCU.SES_STAT_STATE, 4, 0, 3)]), [], []⟩, .hsp, 3, TCU.SES_CMD_CLEAR.into 0 1, by decide⟩,
   ⟨⟨{ blk 1 [(BK.BANK_STAT_READY, 1, 0, 0), (BK.BANK_OWN_OWNER, 3, 0, 0), (TCU.SES_BUF_BASE, 2097152, 0, 3), (TCU.SES_LEN_LEN, 8, 0, 3)] with sess := [(3, { queue := [(7, [1, 2]), (0, [3, 4])] })] },
     [], []⟩, 3, 7, 0, [1, 2], [(0, [3, 4])], 0x200038, by decide⟩⟩

set_option maxRecDepth 20000 in
/-- States and operands that meet the hypotheses of ExpansionPort. -/
theorem witness_expansionPort :
    (∃ s : State, ∃ m : Master, ∃ n : Nat, ∃ w : Word, ∃ b : Block, s.writable m 5 = true ∧ n < 16 ∧ s.b.on XSP.XD_TRIG_EN 0 n = false ∧
      s.b.destOk n = true ∧ b = s.b.wr XSP.XD_TRIG (XSP.XD_TRIG.merge false (s.b.rd XSP.XD_TRIG 0 n) (XSP.XD_TRIG_EN.into w 1)) 0 n ∧
      (XSP.XD_TRIG_SRC.of w ≠ 2 ∨ b.xspFits (b.xspPeriod (b.get XSP.CTL_TRIG_TB)) = true)) ∧
    (∃ s : State, ∃ m : Master, ∃ n : Nat, ∃ w : Word, ∃ b : Block, s.writable m 5 = true ∧ n < 16 ∧ s.b.on XSP.XD_TRIG_EN 0 n = false ∧
      s.b.destOk n = true ∧ b = s.b.wr XSP.XD_TRIG (XSP.XD_TRIG.merge false (s.b.rd XSP.XD_TRIG 0 n) (XSP.XD_TRIG_EN.into w 1)) 0 n ∧
      (XSP.XD_TRIG_SRC.of w ≠ 2 ∨ b.xspFits (b.xspPeriod (b.get XSP.CTL_TRIG_TB)) = true)) ∧
    (∃ s : State, ∃ m : Master, ∃ n : Nat, s.writable m 5 = true ∧ n < 16 ∧ s.b.on XSP.XD_TRIG_EN 0 n = true) ∧
    (∃ s : State, ∃ n : Nat, n < 16 ∧ s.b.running = true ∧ s.b.mode ≠ 0 ∧ s.b.on XSP.CTL_EN = true ∧ s.b.xdArmed n = true ∧ s.b.tbRuns
      (s.b.get XSP.CTL_TRIG_TB) = true ∧ (s.b.tb (s.b.get XSP.CTL_TRIG_TB)).starting = false ∧ s.b.fenced 5 = false ∧ s.b.destFenced n =
      false ∧ s.b.on XSP.STAT_BUSY = false) ∧
    (∃ s : State, ∃ n : Nat, n < 16 ∧ s.b.running = true ∧ s.b.mode ≠ 0 ∧ s.b.on XSP.CTL_EN = true ∧ s.b.xdArmed n = true ∧ s.b.tbRuns
      (s.b.get XSP.CTL_TRIG_TB) = true ∧ (s.b.tb (s.b.get XSP.CTL_TRIG_TB)).starting = false ∧ (s.b.fenced 5 = true ∨ s.b.destFenced n =
      true ∨ s.b.on XSP.STAT_BUSY = true)) ∧
    (∃ s : State, ∃ m : Master, ∃ n : Nat, ∃ w : Word, s.writable m 5 = true ∧ n = XSP.GO_DESC.of w ∧ s.b.get XSP.XD_TRIG_SRC 0 n = 1 ∧
      s.b.on XSP.CTL_EN = true ∧ s.b.xsp.wait.contains n = false ∧ s.b.xdRunning n = false ∧ s.b.destOk n = true ∧ (s.b.tbRuns (s.b.get
      XSP.CTL_TRIG_TB) = true → ∀ g, longestGap (s.b.period (s.b.get XSP.CTL_TRIG_TB)) (s.b.firings (s.b.period (s.b.get XSP.CTL_TRIG_TB)))
      = some g → 256 * s.b.xdWindow n ≤ g)) ∧
    (∃ s : State, ∃ m : Master, ∃ n : Nat, ∃ w : Word, s.writable m 5 = true ∧ n = XSP.GO_DESC.of w ∧ s.b.get XSP.XD_TRIG_SRC 0 n = 1 ∧
      s.b.on XSP.CTL_EN = true ∧ s.b.xsp.wait.contains n = true) ∧
    (∃ s : State, ∃ n : Nat, ∃ rest : List Nat, s.b.xsp.wait = n :: rest ∧ n < 16 ∧ s.b.running = true ∧ s.b.mode ≠ 0 ∧ s.b.fenced 5 = false
      ∧ s.b.on XSP.CTL_EN = true ∧ s.b.on XSP.STAT_BUSY = false) ∧
    (∃ s : State, ∃ n : Nat, s.b.running = true ∧ s.b.fenced 5 = false ∧ s.b.on XSP.STAT_BUSY = true ∧ n = s.b.get XSP.STAT_DESC ∧ s.b.on
      XSP.XD_FRAME_DIR 0 n = true) ∧
    (∃ s : State, ∃ n : Nat, ∃ head : List Bool, ∃ data : List Word, ∃ crc : Byte, s.b.running = true ∧ s.b.fenced 5 = false ∧ s.b.on
      XSP.STAT_BUSY = true ∧ n = s.b.get XSP.STAT_DESC ∧ s.b.on XSP.XD_FRAME_DIR 0 n = false ∧ s.b.on XSP.XD_FRAME_CRC_EN 0 n = true ∧ crc8
      (head ++ (data.take (s.b.xdWords n)).flatMap (fun w => bitsMsb (s.b.xdWidth n) w.toNat)) ≠ crc.toNat) ∧
    (∃ s : State, ∃ n : Nat, ∃ head : List Bool, ∃ data : List Word, ∃ crc : Byte, s.b.running = true ∧ s.b.fenced 5 = false ∧ s.b.on
      XSP.STAT_BUSY = true ∧ n = s.b.get XSP.STAT_DESC ∧ s.b.on XSP.XD_FRAME_DIR 0 n = false ∧ s.b.get XSP.XD_FRAME_DEST 0 n ≠ 1 ∧ (s.b.on
      XSP.XD_FRAME_CRC_EN 0 n = false ∨ crc8 (head ++ (data.take (s.b.xdWords n)).flatMap (fun w => bitsMsb (s.b.xdWidth n) w.toNat)) =
      crc.toNat)) ∧
    (∃ s : State, ∃ n : Nat, ∃ head : List Bool, ∃ data : List Word, ∃ crc : Byte, ∃ f : Nat, s.b.running = true ∧ s.b.fenced 5 = false ∧
      s.b.on XSP.STAT_BUSY = true ∧ n = s.b.get XSP.STAT_DESC ∧ s.b.on XSP.XD_FRAME_DIR 0 n = false ∧ s.b.get XSP.XD_FRAME_DEST 0 n = 1 ∧ f
      = s.b.get XSP.XD_ADDR_DEST_IDX 0 n ∧ s.b.fbRuns f = true ∧ s.b.fbMode f = 5 ∧ (s.b.on XSP.XD_FRAME_CRC_EN 0 n = false ∨ crc8 (head ++
      (data.take (s.b.xdWords n)).flatMap (fun w => bitsMsb (s.b.xdWidth n) w.toNat)) = crc.toNat)) :=
  ⟨⟨⟨(blk 1 []), [], []⟩, .hsp, 15, 0, (⟨(blk 1 []), [], []⟩ : State).b.wr XSP.XD_TRIG (XSP.XD_TRIG.merge false ((⟨(blk 1 []), [], []⟩ :
    State).b.rd XSP.XD_TRIG 0 15) (XSP.XD_TRIG_EN.into 0 1)) 0 15, by decide⟩,
   ⟨⟨(blk 1 []), [], []⟩, .hsp, 15, (XSP.XD_TRIG_SRC.into 0 2), (⟨(blk 1 []), [], []⟩ : State).b.wr XSP.XD_TRIG (XSP.XD_TRIG.merge false
     ((⟨(blk 1 []), [], []⟩ : State).b.rd XSP.XD_TRIG 0 15) (XSP.XD_TRIG_EN.into (XSP.XD_TRIG_SRC.into 0 2) 1)) 0 15, by decide⟩,
   ⟨⟨(blk 1 [(XSP.XD_TRIG_EN, 1, 0, 15)]), [], []⟩, .hsp, 15, by decide⟩,
   ⟨⟨(blk 1 [(XSP.CTL_EN, 1, 0, 0), (XSP.XD_TRIG_EN, 1, 0, 15), (XSP.XD_TRIG_SRC, 2, 0, 15), (EGA.TB_STAT_RUN, 1, 0, 0),
     (⟨EGA.TB_PERIOD_ACT, 0, 32⟩, 64000, 0, 0)]), [], []⟩, 15, by decide⟩,
   ⟨⟨(blk 1 [(XSP.CTL_EN, 1, 0, 0), (XSP.XD_TRIG_EN, 1, 0, 15), (XSP.XD_TRIG_SRC, 2, 0, 15), (EGA.TB_STAT_RUN, 1, 0, 0),
     (⟨EGA.TB_PERIOD_ACT, 0, 32⟩, 64000, 0, 0), (XSP.STAT_BUSY, 1, 0, 0)]), [], []⟩, 15, by decide⟩,
   ⟨⟨(blk 1 [(XSP.CTL_EN, 1, 0, 0), (XSP.XD_TRIG_SRC, 1, 0, 15)]), [], []⟩, .hsp, 15, XSP.GO_DESC.into 0 15, by decide, by decide, by
     decide, by decide, by decide, by decide, by decide, fun h => absurd h (by decide)⟩,
   ⟨⟨{ blk 1 [(XSP.CTL_EN, 1, 0, 0), (XSP.XD_TRIG_SRC, 1, 0, 15)] with xsp := { wait := [15] } }, [], []⟩, .hsp, 15, XSP.GO_DESC.into 0 15,
     by decide⟩,
   ⟨⟨{ blk 1 [(XSP.CTL_EN, 1, 0, 0), (XSP.STAT_SW_WAIT, 1, 0, 0)] with xsp := { wait := [15] } }, [], []⟩, 15, [], by decide⟩,
   ⟨⟨(blk 1 [(XSP.STAT_BUSY, 1, 0, 0), (XSP.STAT_DESC, 15, 0, 0), (XSP.XD_FRAME_DIR, 1, 0, 15)]), [], []⟩, 15, by decide⟩,
   ⟨⟨(blk 1 [(XSP.STAT_BUSY, 1, 0, 0), (XSP.STAT_DESC, 15, 0, 0), (XSP.XD_FRAME_CRC_EN, 1, 0, 15)]), [], []⟩, 15, [], [], 1, by decide⟩,
   ⟨⟨(blk 1 [(XSP.STAT_BUSY, 1, 0, 0), (XSP.STAT_DESC, 15, 0, 0), (XSP.XD_FRAME_WORDS, 2, 0, 15), (XSP.XD_FRAME_WIDTH, 1, 0, 15),
     (XSP.XD_FRAME_CRC_EN, 1, 0, 15)]), [], []⟩, 15, [true], [0x12345, 6, 7], BitVec.ofNat 8 (crc8 ([true] ++ bitsMsb 16 0x12345 ++ bitsMsb
     16 6)), by decide⟩,
   ⟨⟨(blk 1 [(XSP.STAT_BUSY, 1, 0, 0), (XSP.STAT_DESC, 15, 0, 0), (FBI.FBI_CTL_EN, 1, 0, 0), (FB.FB_CFG_MODE, 5, 23, 0), (FB.FB_SER_ST_BITS,
     12, 23, 0), (XSP.XD_FRAME_WORDS, 1, 0, 15), (XSP.XD_FRAME_WIDTH, 2, 0, 15), (XSP.XD_FRAME_DEST, 1, 0, 15), (XSP.XD_ADDR_DEST_IDX, 23,
     0, 15)]), [], []⟩, 15, [], [7], 0, 23, by decide⟩⟩

set_option maxRecDepth 20000 in
/-- States and operands that meet the hypotheses of Ethernet. -/
theorem witness_ethernet :
    (∃ s : State, ∃ f : EthFrame, s.b.macRuns = true ∧ s.b.on ETH.MAC_CTL_EN = true ∧ s.b.on ETH.MAC_CTL_RX_EN = true ∧ (f.fcs ≠ crc32
      f.bytes ∨ f.bytes.length < 60 ∨ 1518 < f.bytes.length)) ∧
    (∃ s : State, ∃ f : EthFrame, s.b.macRuns = true ∧ s.b.on ETH.MAC_CTL_EN = true ∧ s.b.on ETH.MAC_CTL_RX_EN = true ∧ (f.fcs ≠ crc32
      f.bytes ∨ f.bytes.length < 60 ∨ 1518 < f.bytes.length)) ∧
    (∃ s : State, ∃ f : EthFrame, s.b.macRuns = true ∧ s.b.on ETH.MAC_CTL_EN = true ∧ s.b.on ETH.MAC_CTL_RX_EN = true ∧ f.fcs = crc32
      f.bytes ∧ 60 ≤ f.bytes.length ∧ f.bytes.length ≤ 1518 ∧ isPause f.bytes = true) ∧
    (∃ s : State, ∃ f : EthFrame, s.b.macRuns = true ∧ s.b.on ETH.MAC_CTL_EN = true ∧ s.b.on ETH.MAC_CTL_RX_EN = true ∧ f.fcs = crc32
      f.bytes ∧ 60 ≤ f.bytes.length ∧ f.bytes.length ≤ 1518 ∧ isPause f.bytes = false ∧ (∀ j, j < 8 → s.b.ethMatch j f.bytes = false)) ∧
    (∃ s : State, ∃ f : EthFrame, ∃ j : Nat, ∃ n : Nat, s.b.macRuns = true ∧ s.b.on ETH.MAC_CTL_EN = true ∧ s.b.on ETH.MAC_CTL_RX_EN = true
      ∧ f.fcs = crc32 f.bytes ∧ 60 ≤ f.bytes.length ∧ f.bytes.length ≤ 1518 ∧ isPause f.bytes = false ∧ j < 8 ∧ (∀ i, i < j → s.b.ethMatch i
      f.bytes = false) ∧ s.b.ethMatch j f.bytes = true ∧ s.b.on ETH.ETH_FLT_EN 0 j = true ∧ n = s.b.get ETH.ETH_FLT_RING_HANDLE 0 j % 64 ∧
      s.b.ringCheck (s.b.get ETH.ETH_FLT_RING_HANDLE 0 j) = 0 ∧ f.bytes.length ≤ 4 * (s.b.esize n - 3) ∧ s.b.ringState n = 1 ∧ (s.b.ring
      n).staged.length < 2) ∧
    (∃ s : State, ∃ ws : List Word, ∃ u : State, ∃ body, s.b.macRuns = true ∧ s.b.on ETH.MAC_CTL_EN = true ∧ s.b.on ETH.MAC_CTL_TX_EN = true
      ∧ s.b.eth.tx = none ∧ s.b.linkDown = false ∧ s.netTake (s.b.get ETH.ETH_TX_RING_HANDLE) 3 = some (ws, u) ∧ body = (unpackBytes
      (ws.drop 3)).take ((ws.getD 0 0).toNat % 65536)) ∧
    (∃ s : State, ∃ fr : List Byte, s.b.macRuns = true ∧ s.b.eth.tx = some fr) ∧
    (∃ s : State, ∃ m : Master, ∃ w : Word, ∃ x : MdioFrame, s.b.macRuns = true ∧ s.writable m 6 = true ∧ s.b.eth.mdioHost = none ∧ x =
      ⟨false, ETH.MDIO_CTL_WRITE.of w == 1, ETH.MDIO_CTL_PHY.of w, ETH.MDIO_CTL_REG.of w, BitVec.ofNat 32 (s.b.get ETH.MDIO_DATA_DATA)⟩ ∧
      s.b.eth.mdio = none) ∧
    (∃ s : State, ∃ m : Master, ∃ w : Word, ∃ x : MdioFrame, ∃ p : MdioFrame, s.b.macRuns = true ∧ s.writable m 6 = true ∧ s.b.eth.mdioHost
      = none ∧ x = ⟨false, ETH.MDIO_CTL_WRITE.of w == 1, ETH.MDIO_CTL_PHY.of w, ETH.MDIO_CTL_REG.of w, BitVec.ofNat 32 (s.b.get
      ETH.MDIO_DATA_DATA)⟩ ∧ s.b.eth.mdio = some p ∧ p.poll = true) ∧
    (∃ s : State, s.b.macRuns = true ∧ s.b.on ETH.MDIO_CTL_POLL = true ∧ s.b.eth.mdio = none) ∧
    (∃ s : State, s.b.macRuns = true ∧ s.b.on ETH.MDIO_CTL_POLL = true ∧ s.b.on ETH.ETH_STAT_LINK = false) ∧
    (∃ s : State, ∃ mf : MdioFrame, s.b.macRuns = true ∧ s.b.eth.mdio = some mf ∧ mf.poll = true) ∧
    (∃ s : State, ∃ mf : MdioFrame, s.b.macRuns = true ∧ s.b.eth.mdio = some mf ∧ mf.poll = false) :=
  ⟨⟨⟨(blk 1 [(ETH.MAC_CTL_EN, 1, 0, 0), (ETH.MAC_CTL_RX_EN, 1, 0, 0), (ETH.MAC_CTL_TX_EN, 1, 0, 0)]), [], []⟩, ⟨List.replicate 59 1, crc32
    (List.replicate 59 1)⟩, by decide⟩,
   ⟨⟨(blk 1 [(ETH.MAC_CTL_EN, 1, 0, 0), (ETH.MAC_CTL_RX_EN, 1, 0, 0), (ETH.MAC_CTL_TX_EN, 1, 0, 0)]), [], []⟩, ⟨List.replicate 1519 1, 0⟩,
     by decide, by decide, by decide, .inr (.inr (by decide))⟩,
   ⟨⟨(blk 1 [(ETH.MAC_CTL_EN, 1, 0, 0), (ETH.MAC_CTL_RX_EN, 1, 0, 0), (ETH.MAC_CTL_TX_EN, 1, 0, 0)]), [], []⟩, ⟨List.replicate 12 1 ++
     [0x88, 0x08, 0, 1] ++ List.replicate 44 0, crc32 (List.replicate 12 1 ++ [0x88, 0x08, 0, 1] ++ List.replicate 44 0)⟩, by decide⟩,
   ⟨⟨(blk 1 [(ETH.MAC_CTL_EN, 1, 0, 0), (ETH.MAC_CTL_RX_EN, 1, 0, 0), (ETH.MAC_CTL_TX_EN, 1, 0, 0)]), [], []⟩, ⟨List.replicate 1518 1, crc32
     (List.replicate 1518 1)⟩, by decide, by decide, by decide, rfl, by decide, by decide, by decide, by decide⟩,
   ⟨⟨{ blk 1 [(ETH.MAC_CTL_EN, 1, 0, 0), (ETH.MAC_CTL_RX_EN, 1, 0, 0), (ETH.MAC_CTL_TX_EN, 1, 0, 0), (RG.RG_STAT_STATE, 1, 5, 0), (QRE.QRE_CTL_EN, 1, 0, 0), (RG.RG_BASE_BASE, 2097152, 5, 0), (BK.BANK_STAT_READY, 1, 0, 0), (BK.BANK_OWN_OWNER, 2, 0, 0), (RG.RG_CFG_TYPE, 3, 5, 0), (RG.RG_CFG_ESIZE, 20, 5, 0), (RG.RG_CFG_DLOG, 2, 5, 0), (RG.RG_ENDS_PROD, 3, 5, 0), (ETH.ETH_FLT_DA, 2, 0, 7), (ETH.ETH_FLT_EN, 1, 0, 7), (ETH.ETH_FLT_RING_HANDLE, 5, 0, 7)] with rings := [(5, { staged := [[1]] })] },
     [], []⟩, ⟨List.replicate 68 1, crc32 (List.replicate 68 1)⟩, 7, 5, by decide⟩,
   ⟨⟨(blk 1 [(ETH.MAC_CTL_EN, 1, 0, 0), (ETH.MAC_CTL_RX_EN, 1, 0, 0), (ETH.MAC_CTL_TX_EN, 1, 0, 0), (RG.RG_STAT_STATE, 1, 5, 0),
     (QRE.QRE_CTL_EN, 1, 0, 0), (RG.RG_BASE_BASE, 2097152, 5, 0), (BK.BANK_STAT_READY, 1, 0, 0), (BK.BANK_OWN_OWNER, 2, 0, 0),
     (RG.RG_CFG_TYPE, 4, 5, 0), (RG.RG_CFG_ESIZE, 20, 5, 0), (RG.RG_CFG_DLOG, 2, 5, 0), (RG.RG_ENDS_CONS, 3, 5, 0), (RG.RG_WIDX_INDEX, 1, 5,
     0), (ETH.ETH_TX_RING_HANDLE, 5, 0, 0)]), [(0x200000, 60)], []⟩, (((⟨(blk 1 [(ETH.MAC_CTL_EN, 1, 0, 0), (ETH.MAC_CTL_RX_EN, 1, 0, 0),
     (ETH.MAC_CTL_TX_EN, 1, 0, 0), (RG.RG_STAT_STATE, 1, 5, 0), (QRE.QRE_CTL_EN, 1, 0, 0), (RG.RG_BASE_BASE, 2097152, 5, 0),
     (BK.BANK_STAT_READY, 1, 0, 0), (BK.BANK_OWN_OWNER, 2, 0, 0), (RG.RG_CFG_TYPE, 4, 5, 0), (RG.RG_CFG_ESIZE, 20, 5, 0), (RG.RG_CFG_DLOG,
     2, 5, 0), (RG.RG_ENDS_CONS, 3, 5, 0), (RG.RG_WIDX_INDEX, 1, 5, 0), (ETH.ETH_TX_RING_HANDLE, 5, 0, 0)]), [(0x200000, 60)], []⟩ :
     State).netTake 5 3).getD ([], State.reset)).1, (((⟨(blk 1 [(ETH.MAC_CTL_EN, 1, 0, 0), (ETH.MAC_CTL_RX_EN, 1, 0, 0), (ETH.MAC_CTL_TX_EN,
     1, 0, 0), (RG.RG_STAT_STATE, 1, 5, 0), (QRE.QRE_CTL_EN, 1, 0, 0), (RG.RG_BASE_BASE, 2097152, 5, 0), (BK.BANK_STAT_READY, 1, 0, 0),
     (BK.BANK_OWN_OWNER, 2, 0, 0), (RG.RG_CFG_TYPE, 4, 5, 0), (RG.RG_CFG_ESIZE, 20, 5, 0), (RG.RG_CFG_DLOG, 2, 5, 0), (RG.RG_ENDS_CONS, 3,
     5, 0), (RG.RG_WIDX_INDEX, 1, 5, 0), (ETH.ETH_TX_RING_HANDLE, 5, 0, 0)]), [(0x200000, 60)], []⟩ : State).netTake 5 3).getD ([],
     State.reset)).2, (unpackBytes ((((⟨(blk 1 [(ETH.MAC_CTL_EN, 1, 0, 0), (ETH.MAC_CTL_RX_EN, 1, 0, 0), (ETH.MAC_CTL_TX_EN, 1, 0, 0),
     (RG.RG_STAT_STATE, 1, 5, 0), (QRE.QRE_CTL_EN, 1, 0, 0), (RG.RG_BASE_BASE, 2097152, 5, 0), (BK.BANK_STAT_READY, 1, 0, 0),
     (BK.BANK_OWN_OWNER, 2, 0, 0), (RG.RG_CFG_TYPE, 4, 5, 0), (RG.RG_CFG_ESIZE, 20, 5, 0), (RG.RG_CFG_DLOG, 2, 5, 0), (RG.RG_ENDS_CONS, 3,
     5, 0), (RG.RG_WIDX_INDEX, 1, 5, 0), (ETH.ETH_TX_RING_HANDLE, 5, 0, 0)]), [(0x200000, 60)], []⟩ : State).netTake 5 3).getD ([],
     State.reset)).1.drop 3)).take (((((⟨(blk 1 [(ETH.MAC_CTL_EN, 1, 0, 0), (ETH.MAC_CTL_RX_EN, 1, 0, 0), (ETH.MAC_CTL_TX_EN, 1, 0, 0),
     (RG.RG_STAT_STATE, 1, 5, 0), (QRE.QRE_CTL_EN, 1, 0, 0), (RG.RG_BASE_BASE, 2097152, 5, 0), (BK.BANK_STAT_READY, 1, 0, 0),
     (BK.BANK_OWN_OWNER, 2, 0, 0), (RG.RG_CFG_TYPE, 4, 5, 0), (RG.RG_CFG_ESIZE, 20, 5, 0), (RG.RG_CFG_DLOG, 2, 5, 0), (RG.RG_ENDS_CONS, 3,
     5, 0), (RG.RG_WIDX_INDEX, 1, 5, 0), (ETH.ETH_TX_RING_HANDLE, 5, 0, 0)]), [(0x200000, 60)], []⟩ : State).netTake 5 3).getD ([],
     State.reset)).1.getD 0 0).toNat % 65536), by decide⟩,
   ⟨⟨{ blk 1 [(ETH.MAC_CTL_EN, 1, 0, 0), (ETH.MAC_CTL_RX_EN, 1, 0, 0), (ETH.MAC_CTL_TX_EN, 1, 0, 0)] with eth := { tx := some [60] } }, [],
     []⟩, [60], by decide⟩,
   ⟨⟨(blk 1 [(ETH.MDIO_DATA_DATA, 9, 0, 0)]), [], []⟩, .hsp, (ETH.MDIO_CTL_WRITE.into (ETH.MDIO_CTL_PHY.into (ETH.MDIO_CTL_REG.into 0 31)
     30) 1), ⟨false, true, 30, 31, 9⟩, by decide⟩,
   ⟨⟨{ blk 1 [(ETH.MDIO_DATA_DATA, 9, 0, 0)] with eth := { mdio := some ⟨true, false, 0, 1, 0⟩ } }, [], []⟩, .hsp, (ETH.MDIO_CTL_WRITE.into
     (ETH.MDIO_CTL_PHY.into (ETH.MDIO_CTL_REG.into 0 31) 30) 1), ⟨false, true, 30, 31, 9⟩, ⟨true, false, 0, 1, 0⟩, by decide⟩,
   ⟨⟨(blk 1 [(ETH.MDIO_CTL_POLL, 1, 0, 0)]), [], []⟩, by decide⟩,
   ⟨⟨(blk 1 [(ETH.MAC_CTL_EN, 1, 0, 0), (ETH.MAC_CTL_RX_EN, 1, 0, 0), (ETH.MAC_CTL_TX_EN, 1, 0, 0), (ETH.MDIO_CTL_POLL, 1, 0, 0)]), [], []⟩,
     by decide⟩,
   ⟨⟨{ blk 1 [] with eth := { mdio := some ⟨true, false, 0, 1, 0⟩, mdioHost := some ⟨false, true, 1, 2, 3⟩ } }, [], []⟩, ⟨true, false, 0, 1,
     0⟩, by decide⟩,
   ⟨⟨{ blk 1 [(ETH.MDIO_CTL_BUSY, 1, 0, 0)] with eth := { mdio := some ⟨false, false, 0, 1, 0⟩ } }, [], []⟩, ⟨false, false, 0, 1, 0⟩, by
     decide⟩⟩

set_option maxRecDepth 20000 in
/-- States and operands that meet the hypotheses of CanControllers. -/
theorem witness_canControllers :
    (∃ s : State, ∃ c : Nat, ∃ f : CanFrame, c < 2 ∧ s.b.canOnBus c = true ∧ s.b.get CAN.CAN_CTL_OPMODE c = 0 ∧ (f.fd = true → s.b.on
      CAN.CAN_CTL_FD_EN c = true) ∧ f.crc ≠ canCrc f) ∧
    (∃ s : State, ∃ c : Nat, ∃ f : CanFrame, c < 2 ∧ s.b.canOnBus c = true ∧ s.b.get CAN.CAN_CTL_OPMODE c ≠ 2 ∧ (f.fd = true → s.b.on
      CAN.CAN_CTL_FD_EN c = true) ∧ f.crc = canCrc f ∧ (s.b.can c).rec' ≤ 127 ∧ f.remote = true) ∧
    (∃ s : State, ∃ c : Nat, ∃ f : CanFrame, ∃ j : Nat, ∃ n : Nat, c < 2 ∧ s.b.canOnBus c = true ∧ s.b.get CAN.CAN_CTL_OPMODE c ≠ 2 ∧ (f.fd
      = true → s.b.on CAN.CAN_CTL_FD_EN c = true) ∧ f.crc = canCrc f ∧ (s.b.can c).rec' ≤ 127 ∧ f.remote = false ∧ j < 16 ∧ (∀ i, i < j →
      s.b.on CAN.CAN_FLT_ID_EN c i = false ∧ bit (s.b.can c).dead i = false) ∧ s.b.on CAN.CAN_FLT_ID_EN c j = true ∧ (s.b.get
      CAN.CAN_FLT_ID_ID c j ^^^ f.id.toNat) &&& s.b.get CAN.CAN_FLT_MASK_MASK c j = 0 ∧ s.b.on CAN.CAN_FLT_ID_IDE c j = f.ide ∧ n = s.b.get
      CAN.CAN_FLT_RING_HANDLE c j % 64 ∧ s.b.ringCheck (s.b.get CAN.CAN_FLT_RING_HANDLE c j) = 0 ∧ f.data.length ≤ 4 * (s.b.esize n - 4) ∧
      s.b.ringState n = 1 ∧ (s.b.ring n).staged.length < 2) ∧
    (∃ s : State, ∃ c : Nat, ∃ ws : List Word, ∃ u : State, c < 2 ∧ s.b.canOnBus c = true ∧ (s.b.can c).tx = none ∧ s.b.get
      CAN.CAN_CTL_OPMODE c ≠ 1 ∧ s.netTake (s.b.get CAN.CAN_TX_PRIO_HANDLE c) (4 + c) = some (ws, u)) ∧
    (∃ s : State, ∃ c : Nat, ∃ ws : List Word, ∃ u : State, c < 2 ∧ s.b.canOnBus c = true ∧ (s.b.can c).tx = none ∧ s.b.get
      CAN.CAN_CTL_OPMODE c ≠ 1 ∧ s.netTake (s.b.get CAN.CAN_TX_PRIO_HANDLE c) (4 + c) = none ∧ s.netTake (s.b.get CAN.CAN_TX_NORM_HANDLE c)
      (4 + c) = some (ws, u)) ∧
    (∃ s : State, ∃ c : Nat, ∃ fr : CanFrame, c < 2 ∧ s.b.canOnBus c = true ∧ (s.b.can c).tx = some fr ∧ s.b.get CAN.CAN_CTL_OPMODE c ≠ 2) ∧
    (∃ s : State, ∃ c : Nat, c < 2 ∧ s.b.canOnBus c = true ∧ s.b.get CAN.CAN_CTL_OPMODE c ≠ 1) ∧
    (∃ s : State, ∃ c : Nat, c < 2 ∧ s.b.canRuns c = true ∧ s.b.get CAN.CAN_STAT_STATE c = 2 ∧ (s.b.on CAN.CAN_CTL_AUTO_REC c = true ∨
      (s.b.can c).recovering = true)) ∧
    (∃ s : State, ∃ c : Nat, ∃ m : Master, ∃ w : Word, c < 2 ∧ s.writable m (7 + c) = true ∧ s.b.on CAN.CAN_CTL_EN c = true ∧
      CAN.CAN_CTL_EN.of w = 1 ∧ s.b.get CAN.CAN_STAT_STATE c = 2) :=
  ⟨⟨⟨{ blk 1 [(CAN.CAN_CTL_EN, 1, 1, 0)] with can1 := { integrated := true } }, [], []⟩, 1, ⟨5, false, false, false, false, false, 1, [7],
    1⟩, by decide⟩,
   ⟨⟨{ blk 1 [(CAN.CAN_CTL_EN, 1, 1, 0)] with can1 := { integrated := true, rec' := 127 } }, [], []⟩, 1, (CanFrame.seal ⟨5, false, false,
     false, false, true, 8, [], 0⟩), by decide⟩,
   ⟨⟨{ blk 1 [(CAN.CAN_CTL_EN, 1, 1, 0), (RG.RG_STAT_STATE, 1, 5, 0), (QRE.QRE_CTL_EN, 1, 0, 0), (RG.RG_BASE_BASE, 2097152, 5, 0), (BK.BANK_STAT_READY, 1, 0, 0), (BK.BANK_OWN_OWNER, 2, 0, 0), (RG.RG_CFG_TYPE, 3, 5, 0), (RG.RG_CFG_ESIZE, 20, 5, 0), (RG.RG_CFG_DLOG, 2, 5, 0), (RG.RG_ENDS_PROD, 5, 5, 0), (CAN.CAN_FLT_ID_EN, 1, 1, 15), (CAN.CAN_FLT_RING_HANDLE, 5, 1, 15), (CAN.CAN_FLT_ID_ID, 5, 1, 15)] with can1 := { integrated := true } },
     [], []⟩, 1, (CanFrame.seal ⟨5, false, false, false, false, false, 2, [1, 2], 0⟩), 15, 5, by decide⟩,
   ⟨⟨{ blk 1 [(CAN.CAN_CTL_EN, 1, 1, 0), (RG.RG_STAT_STATE, 1, 5, 0), (QRE.QRE_CTL_EN, 1, 0, 0), (RG.RG_BASE_BASE, 2097152, 5, 0), (BK.BANK_STAT_READY, 1, 0, 0), (BK.BANK_OWN_OWNER, 2, 0, 0), (RG.RG_CFG_TYPE, 4, 5, 0), (RG.RG_CFG_ESIZE, 20, 5, 0), (RG.RG_CFG_DLOG, 2, 5, 0), (RG.RG_ENDS_CONS, 5, 5, 0), (RG.RG_WIDX_INDEX, 1, 5, 0), (CAN.CAN_TX_PRIO_HANDLE, 5, 1, 0)] with can1 := { integrated := true } },
     [], []⟩, 1,
     (((⟨{ blk 1 [(CAN.CAN_CTL_EN, 1, 1, 0), (RG.RG_STAT_STATE, 1, 5, 0), (QRE.QRE_CTL_EN, 1, 0, 0), (RG.RG_BASE_BASE, 2097152, 5, 0), (BK.BANK_STAT_READY, 1, 0, 0), (BK.BANK_OWN_OWNER, 2, 0, 0), (RG.RG_CFG_TYPE, 4, 5, 0), (RG.RG_CFG_ESIZE, 20, 5, 0), (RG.RG_CFG_DLOG, 2, 5, 0), (RG.RG_ENDS_CONS, 5, 5, 0), (RG.RG_WIDX_INDEX, 1, 5, 0), (CAN.CAN_TX_PRIO_HANDLE, 5, 1, 0)] with can1 := { integrated := true } },
     [], []⟩ : State).netTake 5 5).getD ([], State.reset)).1,
     (((⟨{ blk 1 [(CAN.CAN_CTL_EN, 1, 1, 0), (RG.RG_STAT_STATE, 1, 5, 0), (QRE.QRE_CTL_EN, 1, 0, 0), (RG.RG_BASE_BASE, 2097152, 5, 0), (BK.BANK_STAT_READY, 1, 0, 0), (BK.BANK_OWN_OWNER, 2, 0, 0), (RG.RG_CFG_TYPE, 4, 5, 0), (RG.RG_CFG_ESIZE, 20, 5, 0), (RG.RG_CFG_DLOG, 2, 5, 0), (RG.RG_ENDS_CONS, 5, 5, 0), (RG.RG_WIDX_INDEX, 1, 5, 0), (CAN.CAN_TX_PRIO_HANDLE, 5, 1, 0)] with can1 := { integrated := true } },
     [], []⟩ : State).netTake 5 5).getD ([], State.reset)).2, by decide⟩,
   ⟨⟨{ blk 1 [(CAN.CAN_CTL_EN, 1, 1, 0), (RG.RG_STAT_STATE, 1, 5, 0), (QRE.QRE_CTL_EN, 1, 0, 0), (RG.RG_BASE_BASE, 2097152, 5, 0), (BK.BANK_STAT_READY, 1, 0, 0), (BK.BANK_OWN_OWNER, 2, 0, 0), (RG.RG_CFG_TYPE, 4, 5, 0), (RG.RG_CFG_ESIZE, 20, 5, 0), (RG.RG_CFG_DLOG, 2, 5, 0), (RG.RG_ENDS_CONS, 5, 5, 0), (RG.RG_WIDX_INDEX, 1, 5, 0), (CAN.CAN_TX_NORM_HANDLE, 5, 1, 0), (CAN.CAN_TX_PRIO_HANDLE, 6, 1, 0)] with can1 := { integrated := true } },
     [], []⟩, 1,
     (((⟨{ blk 1 [(CAN.CAN_CTL_EN, 1, 1, 0), (RG.RG_STAT_STATE, 1, 5, 0), (QRE.QRE_CTL_EN, 1, 0, 0), (RG.RG_BASE_BASE, 2097152, 5, 0), (BK.BANK_STAT_READY, 1, 0, 0), (BK.BANK_OWN_OWNER, 2, 0, 0), (RG.RG_CFG_TYPE, 4, 5, 0), (RG.RG_CFG_ESIZE, 20, 5, 0), (RG.RG_CFG_DLOG, 2, 5, 0), (RG.RG_ENDS_CONS, 5, 5, 0), (RG.RG_WIDX_INDEX, 1, 5, 0), (CAN.CAN_TX_NORM_HANDLE, 5, 1, 0), (CAN.CAN_TX_PRIO_HANDLE, 6, 1, 0)] with can1 := { integrated := true } },
     [], []⟩ : State).netTake 5 5).getD ([], State.reset)).1,
     (((⟨{ blk 1 [(CAN.CAN_CTL_EN, 1, 1, 0), (RG.RG_STAT_STATE, 1, 5, 0), (QRE.QRE_CTL_EN, 1, 0, 0), (RG.RG_BASE_BASE, 2097152, 5, 0), (BK.BANK_STAT_READY, 1, 0, 0), (BK.BANK_OWN_OWNER, 2, 0, 0), (RG.RG_CFG_TYPE, 4, 5, 0), (RG.RG_CFG_ESIZE, 20, 5, 0), (RG.RG_CFG_DLOG, 2, 5, 0), (RG.RG_ENDS_CONS, 5, 5, 0), (RG.RG_WIDX_INDEX, 1, 5, 0), (CAN.CAN_TX_NORM_HANDLE, 5, 1, 0), (CAN.CAN_TX_PRIO_HANDLE, 6, 1, 0)] with can1 := { integrated := true } },
     [], []⟩ : State).netTake 5 5).getD ([], State.reset)).2, by decide⟩,
   ⟨⟨{ blk 1 [(CAN.CAN_CTL_EN, 1, 1, 0)] with can1 := { integrated := true, tx := some ⟨5, false, false, false, false, false, 1, [1], 0⟩, tec := 248 } },
     [], []⟩, 1, ⟨5, false, false, false, false, false, 1, [1], 0⟩, by decide⟩,
   ⟨⟨{ blk 1 [(CAN.CAN_CTL_EN, 1, 1, 0)] with can1 := { integrated := true, rec' := 250 } }, [], []⟩, 1, by decide⟩,
   ⟨⟨(blk 1 [(CAN.CAN_CTL_EN, 1, 1, 0), (CAN.CAN_STAT_STATE, 2, 1, 0), (CAN.CAN_CTL_AUTO_REC, 1, 1, 0)]), [], []⟩, 1, by decide⟩,
   ⟨⟨(blk 1 [(CAN.CAN_CTL_EN, 1, 1, 0), (CAN.CAN_STAT_STATE, 2, 1, 0)]), [], []⟩, 1, .hsp, CAN.CAN_CTL_EN.into 0 1, by decide⟩⟩

/-- States and operands that meet the hypotheses of LoopRunStarts. -/
theorem witness_loopRunStarts :
    (∃ s : State, ∃ c : Nat, s.b.canStart c = true ∧ (s.b.mode ≠ 4 ∨ s.b.get LC.LC_CFG_ROLE c = 1)) ∧
    (∃ s : State, ∃ c : Nat, s.b.canStart c = true ∧ (s.b.mode ≠ 4 ∨ s.b.get LC.LC_CFG_ROLE c = 1)) ∧
    (∃ s : State, ∃ c : Nat, s.b.canStart c = true ∧ (s.b.mode ≠ 4 ∨ s.b.get LC.LC_CFG_ROLE c = 1)) ∧
    (∃ s : State, ∃ c : Nat, s.b.canStart c = true ∧ s.b.mode = 4 ∧ s.b.get LC.LC_CFG_ROLE c ≠ 1) :=
  ⟨⟨⟨(blk 1 [(LC.LC_STAT_ST, 2, 159, 0), (LC.LC_CFG_AXIS, 3, 159, 0), (LC.LC_CFG_PROG, 1, 159, 0), (EGA.TB_STAT_RUN, 1, 0, 0),
    (⟨EGA.TB_PERIOD_ACT, 0, 32⟩, 64000, 0, 0), (LC.LC_STAT_SWAP_PEND, 1, 159, 0)]), [(0x499F40, 1), (0x499F80, 2)], []⟩, 159, by decide⟩,
   ⟨⟨(blk 4 [(LC.LC_STAT_ST, 2, 159, 0), (LC.LC_CFG_AXIS, 3, 159, 0), (LC.LC_CFG_PROG, 1, 159, 0), (EGA.TB_STAT_RUN, 1, 0, 0),
     (⟨EGA.TB_PERIOD_ACT, 0, 32⟩, 64000, 0, 0), (LC.LC_CFG_ROLE, 1, 159, 0)]), [], []⟩, 159, by decide⟩,
   ⟨⟨{ blk 2 [(LC.LC_STAT_ST, 2, 159, 0), (LC.LC_CFG_AXIS, 3, 159, 0), (LC.LC_CFG_PROG, 1, 159, 0), (EGA.TB_STAT_RUN, 1, 0, 0), (⟨EGA.TB_PERIOD_ACT, 0, 32⟩, 64000, 0, 0)] with lcs := [(159, { xfer := some (true, false) })] },
     [], []⟩, 159, by decide⟩,
   ⟨⟨(blk 4 [(LC.LC_STAT_ST, 2, 159, 0), (LC.LC_CFG_AXIS, 3, 159, 0), (LC.LC_CFG_PROG, 1, 159, 0), (EGA.TB_STAT_RUN, 1, 0, 0),
     (⟨EGA.TB_PERIOD_ACT, 0, 32⟩, 64000, 0, 0)]), [], []⟩, 159, by decide⟩⟩

/-- States and operands that meet the hypotheses of LoopRunCompletes. -/
theorem witness_loopRunCompletes :
    (∃ s : State, ∃ c : Nat, ∃ r : RunResult, s.b.running = true ∧ c < s.b.numCtx ∧ s.b.ctxSt c = 2 ∧ (s.b.lc c).busy = true ∧ (s.b.dualNow
      c = false ∨ r.agree = true)) ∧
    (∃ s : State, ∃ c : Nat, ∃ r : RunResult, s.b.running = true ∧ c < s.b.numCtx ∧ s.b.ctxSt c = 2 ∧ (s.b.lc c).busy = true ∧ s.b.dualNow c
      = true ∧ r.agree = false) ∧
    (∃ s : State, ∃ c : Nat, ∃ x : Int, s.b.running = true ∧ c < s.b.numCtx ∧ s.b.ctxSt c = 2 ∧ (s.b.lc c).busy = true ∧ s.b.get
      LC.LC_CFG_PROG c = 0x18 ∧ s.b.get LC.LC_CFG_ROLE c ≠ 0 ∧ s.b.get LC.LC_CFG_ROLE c ≠ 3 ∧ s.b.dualNow c = false ∧ s.plausTemp c = some
      x) :=
  ⟨⟨⟨{ blk 1 [(LC.LC_STAT_ST, 2, 159, 0), (LC.LC_CFG_AXIS, 3, 159, 0), (LC.LC_CFG_PROG, 1, 159, 0), (LC.LC_CFG_SETS, 1, 159, 0), (AX.AX_STATE_STATE, 2, 3, 0), (AX.AX_STATE_SETS_LIVE, 1, 3, 0), (⟨AX.AX_LEGS_LO, 0, 32⟩, 7, 3, 0), (LEG.LEG_STAT_OWNER, 1, 0, 0), (LEG.LEG_STAT_OWNER, 1, 1, 0), (LEG.LEG_STAT_OWNER, 1, 2, 0)] with lcs := [(159, { busy := true, cur := { pairs := [⟨5, 0⟩, ⟨6, 0⟩, ⟨7, 0⟩], state := [-1, 3], limited := true } })] },
    [], []⟩, 159, ⟨true, 1, 2, 3, 4⟩, by decide⟩,
   ⟨⟨{ blk 1 [(LC.LC_STAT_ST, 2, 159, 0), (LC.LC_CFG_AXIS, 3, 159, 0), (LC.LC_CFG_PROG, 1, 159, 0), (LC.LC_CFG_DUAL, 1, 159, 0)] with lcs := [(159, { busy := true })] },
     [], []⟩, 159, ⟨false, 1, 2, 3, 4⟩, by decide⟩,
   ⟨⟨{ blk 1 [(LC.LC_STAT_ST, 2, 159, 0), (LC.LC_CFG_AXIS, 3, 159, 0), (LC.LC_CFG_PROG, 24, 159, 0), (LC.LC_CFG_ROLE, 4, 159, 0), (SNS.HK_CTL1_DIE, 1, 0, 0), (SNS.DIE_TEMP_TEMP, 100, 0, 0)] with lcs := [(159, { busy := true, cur := { resid := 5, th := 2 } })] },
     [(0x499F58, 1), (0x499F5A, 16)], []⟩, 159, 100, by decide⟩⟩

/-- States and operands that meet the hypotheses of EngineArithmetic. -/
theorem witness_engineArithmetic :
    (∃ a : Acc, ∃ x : Int, ∃ y : Int, -(2 ^ 39) ≤ a.v ∧ a.v ≤ accMax ∧ -32768 ≤ x ∧ x ≤ 32767 ∧ -32768 ≤ y ∧ y ≤ 32767 ∧ -(2 ^ 39) ≤ a.v + 2
      * x * y ∧ a.v + 2 * x * y ≤ accMax) ∧
    (∃ a : Acc, ∃ x : Int, ∃ y : Int, -(2 ^ 39) ≤ a.v ∧ a.v ≤ accMax ∧ -32768 ≤ x ∧ x ≤ 32767 ∧ -32768 ≤ y ∧ y ≤ 32767 ∧ accMax < a.v + 2 *
      x * y) ∧
    (∃ a : Acc, ∃ x : Int, ∃ y : Int, -(2 ^ 39) ≤ a.v ∧ a.v ≤ accMax ∧ -32768 ≤ x ∧ x ≤ 32767 ∧ -32768 ≤ y ∧ y ≤ 32767 ∧ a.v + 2 * x * y <
      -(2 ^ 39)) ∧
    (∃ v : Int, -32768 * 65536 ≤ v ∧ v ≤ 32767 * 65536 ∧ 2 * (q15 v * 65536 - v).natAbs = 65536) ∧
    (∃ v : Int, 32767 * 65536 < v) ∧
    (∃ v : Int, v < -32768 * 65536) ∧
    (∃ lo : Int, ∃ hi : Int, lo ≤ hi) ∧
    (∃ lo : Int, ∃ hi : Int, hi < lo) ∧
    (∃ lo : Int, ∃ hi : Int, ∃ v : Int, lo ≤ v ∧ v ≤ hi) ∧
    (∃ x : Int, x ≤ 0) ∧
    (∃ x : Int, 0 < x ∧ x ≤ accMax) ∧
    (∃ x : Int, 0 ≤ x ∧ x ≤ accMax) ∧
    (∃ target : Int, ∃ now : Int, now ≤ target) ∧
    (∃ target : Int, ∃ now : Int, target ≤ now) ∧
    (∃ vMax : Int, ∃ vb : Int, vMax ≤ vb) ∧
    (∃ v : Int, ∃ vMax : Int, ∃ vb : Int, v < vMax ∧ vb ≤ v) ∧
    (∃ s : State, ∃ c : Nat, (s.b.lc c).stopped = false ∧ (s.driveWord (s.b.get LC.LC_CFG_AXIS c)).clear = false ∧ s.b.drv (s.b.get
      LC.LC_CFG_AXIS c) ≠ 7) ∧
    (∃ s : State, ∃ c : Nat, s.b.drv (s.b.get LC.LC_CFG_AXIS c) = 7) :=
  ⟨⟨⟨5, false⟩, 3, 4, by decide⟩,
   ⟨⟨accMax, false⟩, 1, 1, by decide⟩,
   ⟨⟨-(2 ^ 39), true⟩, -1, 1, by decide⟩,
   ⟨32768, by decide⟩,
   ⟨32767 * 65536 + 1, by decide⟩,
   ⟨-32768 * 65536 - 1, by decide⟩,
   ⟨1, 2, by decide⟩,
   ⟨2, 1, by decide⟩,
   ⟨1, 3, 2, by decide⟩,
   ⟨0, by decide⟩,
   ⟨accMax, by decide⟩,
   ⟨accMax, by decide⟩,
   ⟨10, 4, by decide⟩,
   ⟨4, 10, by decide⟩,
   ⟨2, 2, by decide⟩,
   ⟨1, 2, 1, by decide⟩,
   ⟨⟨(blk 1 [(LC.LC_STAT_ST, 2, 159, 0), (LC.LC_CFG_AXIS, 3, 159, 0), (LC.LC_CFG_PROG, 4, 159, 0), (AX.AX_DRV_STATE, 3, 3, 0),
     (AX.AX_DRV_MASKED, 0, 3, 0)]), [], []⟩, 159, by decide⟩,
   ⟨⟨(blk 1 [(LC.LC_STAT_ST, 2, 159, 0), (LC.LC_CFG_AXIS, 3, 159, 0), (LC.LC_CFG_PROG, 4, 159, 0), (AX.AX_DRV_STATE, 7, 3, 0)]), [], []⟩,
     159, by decide⟩⟩

/-- States and operands that meet the hypotheses of LoopUpkeep. -/
theorem witness_loopUpkeep :
    (∃ s : State, ∃ m : Master, ∃ c : Nat, ∃ w : Word, c < s.b.numCtx ∧ s.writable m (0x140 + c) = true ∧ s.b.lcCtlNo c (LC.LC_CTL_SWAP.into
      w 1) = none ∧ LC.LC_CTL_XFER.of w = 0 ∧ LC.LC_CTL_RAMP_RESTART.of w = 0) ∧
    (∃ s : State, ∃ m : Master, ∃ c : Nat, ∃ w : Word, c < s.b.numCtx ∧ s.writable m (0x140 + c) = true ∧ s.b.lcCtlNo c (LC.LC_CTL_XFER.into
      w 1) = none ∧ LC.LC_CTL_SWAP.of w = 0) ∧
    (∃ s : State, ∃ m : Master, ∃ c : Nat, ∃ w : Word, c < s.b.numCtx ∧ s.writable m (0x140 + c) = true ∧ s.b.lcCtlNo c (LC.LC_CTL_XFER.into
      w 1) = none ∧ LC.LC_CTL_SWAP.of w = 0) ∧
    (∃ s : State, ∃ m : Master, ∃ c : Nat, ∃ w : Word, c < s.b.numCtx ∧ s.writable m (0x140 + c) = true ∧ s.b.lcCtlNo c
      (LC.LC_CTL_RAMP_RESTART.into w 1) = none ∧ LC.LC_CTL_SWAP.of w = 0 ∧ LC.LC_CTL_XFER.of w = 0 ∧ (s.b.get LC.LC_CFG_ROLE c = 0 ∨ s.b.get
      LC.LC_CFG_ROLE c = 3)) ∧
    (∃ s : State, ∃ m : Master, ∃ c : Nat, ∃ w : Word, c < s.b.numCtx ∧ s.writable m (0x140 + c) = true ∧ s.b.lcCtlNo c
      (LC.LC_CTL_RAMP_RESTART.into w 1) = none ∧ LC.LC_CTL_SWAP.of w = 0 ∧ LC.LC_CTL_XFER.of w = 0 ∧ s.b.get LC.LC_CFG_ROLE c ≠ 0 ∧ s.b.get
      LC.LC_CFG_ROLE c ≠ 3) ∧
    (∃ s : State, ∃ m : Master, ∃ c : Nat, ∃ w : Word, ∃ n : Nat, c < s.b.numCtx ∧ s.writable m (0x140 + c) = true ∧ s.b.lcCtlNo c
      (LC.LC_CTL_SWAP.into w 1) = some n) ∧
    (∃ s : State, ∃ c : Nat, ∃ off, s.b.running = true ∧ c < s.b.numCtx ∧ off < 0x100 ∧ off % 4 = 0 ∧ s.b.fenced 0xC = false) ∧
    (∃ s : State, ∃ e : Nat, ∃ off, s.b.running = true ∧ e < s.b.numEng ∧ off < 0x4000 ∧ off % 4 = 0 ∧ s.b.fenced (0x1E0 + e) = false) ∧
    (∃ s : State, s.b.running = true ∧ s.b.on LEA.LEA_STAT_PLAN_BUSY = true ∧ (∀ e, e < s.b.numEng → s.b.fenced (0x1E0 + e) = true →
      s.b.aloneOn e = [])) :=
  ⟨⟨⟨(blk 1 [(LC.LC_STAT_ST, 2, 159, 0), (LC.LC_CFG_AXIS, 3, 159, 0), (LC.LC_CFG_PROG, 1, 159, 0), (EGA.TB_STAT_RUN, 1, 0, 0),
    (⟨EGA.TB_PERIOD_ACT, 0, 32⟩, 64000, 0, 0)]), [], []⟩, .hsp, 159, LC.LC_CTL_HANDLE.into 0 159, by decide⟩,
   ⟨⟨(blk 1 [(LC.LC_STAT_ST, 2, 159, 0), (LC.LC_CFG_AXIS, 3, 159, 0), (LC.LC_CFG_PROG, 1, 159, 0), (EGA.TB_STAT_RUN, 1, 0, 0),
     (⟨EGA.TB_PERIOD_ACT, 0, 32⟩, 64000, 0, 0), (LC.LC_CFG_ROLE, 3, 159, 0)]), [], []⟩, .hsp, 159, LC.LC_CTL_HANDLE.into 0 159, by decide⟩,
   ⟨⟨(blk 1 [(LC.LC_STAT_ST, 2, 159, 0), (LC.LC_CFG_AXIS, 3, 159, 0), (LC.LC_CFG_PROG, 1, 159, 0), (EGA.TB_STAT_RUN, 1, 0, 0),
     (⟨EGA.TB_PERIOD_ACT, 0, 32⟩, 64000, 0, 0)]), [], []⟩, .hsp, 159, LC.LC_CTL_HANDLE.into 0 159, by decide⟩,
   ⟨⟨{ blk 1 [(LC.LC_STAT_ST, 2, 159, 0), (LC.LC_CFG_AXIS, 3, 159, 0), (LC.LC_CFG_PROG, 1, 159, 0), (EGA.TB_STAT_RUN, 1, 0, 0), (⟨EGA.TB_PERIOD_ACT, 0, 32⟩, 64000, 0, 0), (LC.LC_CFG_ROLE, 3, 159, 0)] with lcs := [(159, { rampFresh := false })] },
     [], []⟩, .hsp, 159, LC.LC_CTL_HANDLE.into 0 159, by decide⟩,
   ⟨⟨(blk 1 [(LC.LC_STAT_ST, 2, 159, 0), (LC.LC_CFG_AXIS, 3, 159, 0), (LC.LC_CFG_PROG, 1, 159, 0), (EGA.TB_STAT_RUN, 1, 0, 0),
     (⟨EGA.TB_PERIOD_ACT, 0, 32⟩, 64000, 0, 0), (LC.LC_CFG_ROLE, 1, 159, 0)]), [], []⟩, .hsp, 159, LC.LC_CTL_HANDLE.into 0 159, by decide⟩,
   ⟨⟨(blk 1 [(LC.LC_STAT_ST, 2, 159, 0), (LC.LC_CFG_AXIS, 3, 159, 0), (LC.LC_CFG_PROG, 1, 159, 0), (EGA.TB_STAT_RUN, 1, 0, 0),
     (⟨EGA.TB_PERIOD_ACT, 0, 32⟩, 64000, 0, 0)]), [], []⟩, .hsp, 159, LC.LC_CTL_HANDLE.into 0 158, 2, by decide⟩,
   ⟨⟨(blk 1 []), [(0x499FFF, 1)], []⟩, 159, 0xFC, by decide⟩,
   ⟨⟨(blk 1 []), [], []⟩, 7, 0x3FFC, by decide⟩,
   ⟨⟨(blk 1 [(LEA.LEA_STAT_PLAN_BUSY, 1, 0, 0)]), [], []⟩, by decide⟩⟩

/-- States and operands that meet the hypotheses of SafeStop. -/
theorem witness_safeStop :
    (∃ s : State, ∃ p : Nat, s.b.shlRuns = true ∧ p < 4) :=
  ⟨⟨{ blk 1 [(⟨SHL.STG_LEGS_LO, 0, 32⟩, 1, 0, 7), (SHL.STG_CFG_PAIRS, 8, 0, 7), (⟨SHL.GRP_STATE, 14, 2⟩, 2, 0, 0)] with shl := { stoA := 15, stoB := 15 } },
    [], []⟩, 3, by decide⟩

/-- States and operands that meet the hypotheses of SafetySettles. -/
theorem witness_safetySettles :
    (∃ c : Instr, ∃ s : State, shlEvent c = true ∧ s.b.shlRuns = true) ∧
    (∃ c : Instr, ∃ s : State, shlEvent c = true ∧ s.b.shlRuns = true) :=
  ⟨⟨.shlSelfcheck, ⟨(blk 1 []), [], []⟩, by decide⟩,
   ⟨.shlCfb 7, ⟨(blk 1 []), [], []⟩, by decide⟩⟩

/-- States and operands that meet the hypotheses of SafetyLatches. -/
theorem witness_safetyLatches :
    (∃ s : State, ∃ p : Nat, s.b.shlRuns = true ∧ p < 4 ∧ bit s.b.shl.stoA p ≠ bit s.b.shl.stoB p) ∧
    (∃ s : State, s.b.shlRuns = true ∧ s.b.mode ≠ 5 ∧ s.b.on SHL.SHL_STAT_SWAP_WINDOW = false) ∧
    (∃ s : State, s.b.shlRuns = true ∧ s.b.mode ≠ 5 ∧ s.b.on SHL.SHL_STAT_SWAP_WINDOW = false) ∧
    (∃ s : State, s.b.shlRuns = true ∧ s.b.mode ≠ 5 ∧ s.b.on SHL.SHL_STAT_SWAP_WINDOW = false) ∧
    (∃ s : State, s.b.shlRuns = true ∧ s.b.futOn = true) ∧
    (∃ s : State, s.b.shlRuns = true ∧ s.b.on SHL.SHL_STAT_SWAP_WINDOW = true) ∧
    (∃ s : State, ∃ ch, ∃ fault : TapFault, s.b.shlRuns = true ∧ (fault = .wire ch ∨ (fault = .hall ch ∧ (hallIndex (s.b.taps
      ch).hall).isNone = true))) ∧
    (∃ s : State, ∃ ch, ∃ fault : TapFault, s.b.shlRuns = true ∧ (fault = .wire ch ∨ (fault = .hall ch ∧ (hallIndex (s.b.taps
      ch).hall).isNone = true))) ∧
    (∃ s : State, ∃ n : Nat, s.b.shlRuns = true ∧ n < 8 ∧ bit s.b.shl.trans n = false ∧ s.b.cfbBad n = true) :=
  ⟨⟨⟨{ blk 1 [(SHL.STG_CFG_PAIRS, 8, 0, 7)] with shl := { stoA := 15, stoB := 7 } }, [], []⟩, 3, by decide⟩,
   ⟨⟨(blk 1 [(SHL.SHL_CFG_PCH_LOSS, 2, 0, 0)]), [], []⟩, by decide⟩,
   ⟨⟨(blk 1 [(SHL.SHL_CFG_PCH_LOSS, 1, 0, 0)]), [], []⟩, by decide⟩,
   ⟨⟨(blk 1 [(SHL.SHL_CFG_PCH_LOSS, 0, 0, 0)]), [], []⟩, by decide⟩,
   ⟨⟨(blk 1 [(SHL.SHL_STAT_CHECK_DONE, 1, 0, 0), (SHL.FUT_CFG_EN, 1, 0, 0), (SHL.STG_CFG_FUTRA, 1, 0, 7)]), [], []⟩, by decide⟩,
   ⟨⟨(blk 1 [(SHL.SHL_STAT_SWAP_WINDOW, 1, 0, 0), (SEC.SWAP_STAT_STATE, 3, 0, 0), (⟨SHL.GRP_STATE, 14, 2⟩, 2, 0, 0)]), [], []⟩, by decide⟩,
   ⟨⟨(blk 1 [(SHL.STG_CFG_SPD_EN, 1, 0, 7), (SHL.STG_CFG_SPD_CH, 23, 0, 7)]), [], []⟩, 23, .wire 23, by decide⟩,
   ⟨⟨(blk 1 [(SHL.STG_CFG_SPD_EN, 1, 0, 7), (SHL.STG_CFG_SPD_SRC, 1, 0, 7)]), [], []⟩, 0, .hall 0, by decide⟩,
   ⟨⟨(blk 1 [(SHL.CDR_CFG_EN, 1, 0, 7), (SHL.CDR_CFG_CFB, 1, 0, 7), (SHL.CDR_CFG_POL, 1, 0, 7), (SHL.CDR_CFG_GRP_EN, 1, 0, 7),
     (SHL.CDR_CFG_GROUP, 3, 0, 7)]), [], []⟩, 7, by decide⟩⟩

/-- States and operands that meet the hypotheses of SafetyCounts. -/
theorem witness_safetyCounts :
    (∃ s : State, ∃ g : Nat, s.b.shlRuns = true ∧ g < 8 ∧ s.b.grp g = 3) ∧
    (∃ s : State, ∃ g : Nat, s.b.shlRuns = true ∧ g < 8 ∧ s.b.on SHL.STG_CFG_SPD_EN 0 g = true) ∧
    (∃ s : State, ∃ g : Nat, ∃ ch, s.b.shlRuns = true ∧ g < 8 ∧ ch < 24) ∧
    (∃ s : State, ∃ g : Nat, ∃ ch, s.b.shlRuns = true ∧ g < 8 ∧ ch < 24) ∧
    (∃ s : State, ∃ g : Nat, ∃ ch, s.b.shlRuns = true ∧ g < 8 ∧ ch < 24) ∧
    (∃ s : State, ∃ g : Nat, ∃ ch, s.b.shlRuns = true ∧ g < 8 ∧ ch < 24 ∧ s.b.get SHL.STG_CFG_SPD_CH 0 g = ch ∧ (s.b.on SHL.STG_CFG_SPD_SRC
      0 g = false ∨ (hallIndex (s.b.taps ch).hall).isSome = true)) ∧
    (∃ s : State, ∃ g : Nat, s.b.shlRuns = true ∧ g < 8 ∧ (∀ h, h < 8 → (s.b.stg h).latch < 2 ^ 24 ∧ (s.b.stg h).latchSs1 < 2 ^ 24)) ∧
    (∃ s : State, ∃ g : Nat, s.b.shlRuns = true ∧ g < 8 ∧ s.b.on SHL.CDR_CFG_GRP_EN 0 g = true ∧ s.b.grp (s.b.get SHL.CDR_CFG_GROUP 0 g) = 0
      ∧ s.b.stoReq (s.b.get SHL.CDR_CFG_GROUP 0 g) = true) ∧
    (∃ s : State, ∃ g : Nat, ∃ i : Nat, s.b.shlRuns = true ∧ g < 8 ∧ i < 16) :=
  ⟨⟨⟨{ blk 1 [(⟨SHL.GRP_STATE, 14, 2⟩, 3, 0, 0)] with shl := { stoA := 15, stoB := 15 } }, [], []⟩, 7, by decide⟩,
   ⟨⟨{ blk 1 [(SHL.STG_CFG_SPD_EN, 1, 0, 7)] with stgs := [(7, { count := -5 })] }, [], []⟩, 7, by decide⟩,
   ⟨⟨(blk 1 [(SHL.STG_CFG_SPD_EN, 1, 0, 7), (SHL.STG_CFG_SPD_CH, 23, 0, 7)]), [], []⟩, 7, 23, by decide⟩,
   ⟨⟨{ blk 1 [(SHL.STG_CFG_SPD_EN, 1, 0, 7), (SHL.STG_CFG_SPD_SRC, 1, 0, 7)] with shl := { taps := [(0, { hall := 3 })] } }, [], []⟩, 7, 0,
     by decide⟩,
   ⟨⟨(blk 1 [(SHL.STG_CFG_SPD_EN, 1, 0, 7), (FBI.FBI_CTL_EN, 1, 0, 0), (FB.FB_CFG_MODE, 4, 23, 0)]), [], []⟩, 7, 23, by decide⟩,
   ⟨⟨{ blk 1 [(SHL.STG_CFG_SPD_CH, 23, 0, 7)] with stgs := [(7, { latch := 16 })] }, [], []⟩, 7, 23, by decide⟩,
   ⟨⟨{ blk 1 [] with shl := { trans := 128 } }, [], []⟩, 7, by decide⟩,
   ⟨⟨{ blk 1 [(SHL.CDR_CFG_GRP_EN, 1, 0, 7), (SHL.CDR_CFG_GROUP, 3, 0, 7), (SHL.PCH_REQ_STO, 8, 0, 0)] with shl := { delay := 128 } }, [],
     []⟩, 7, by decide⟩,
   ⟨⟨(blk 1 []), [], []⟩, 7, 15, by decide⟩⟩

/-- States and operands that meet the hypotheses of SafetyCommands. -/
theorem witness_safetyCommands :
    (∃ s : State, s.writable .spu 0x13 = true ∧ s.b.on SHL.SHL_STAT_SWAP_WINDOW = false ∧ s.b.on SHL.SHL_STAT_CONFIRMED = false) ∧
    (∃ s : State, s.writable .spu 0x13 = true ∧ s.b.on SHL.SHL_STAT_SWAP_WINDOW = true) ∧
    (∃ s : State, ∃ m : Master, m ≠ .spu ∧ s.writable m 0x13 = true) ∧
    (∃ s : State, ∃ m : Master, ∃ w : Word, ∃ g : Nat, s.writable m 0x13 = true ∧ g < 8 ∧ SHL.SHL_ACK_KEY.of w = 0x96 ∧ bit
      (SHL.SHL_ACK_GRP.of w) g = true ∧ s.b.grp g = 1 ∧ s.b.stoReq g = false ∧ s.b.ss1Req g = false ∧ (s.b.stg g).latch = 0 ∧ (s.b.stg
      g).latchSs1 = 0) ∧
    (∃ s : State, ∃ m : Master, ∃ w : Word, s.writable m 0x13 = true ∧ SHL.SHL_ACK_KEY.of w ≠ 0x96) ∧
    (∃ s : State, ∃ m : Master, ∃ w : Word, s.writable m 0x13 = true ∧ SHL.PLL_REL_GO.of w = 1 ∧ SHL.PLL_REL_KEY.of w = 0x96 ∧ (s.b.mode = 1
      ∨ s.b.mode = 4) ∧ s.b.on CRM.CLK_STAT_PLL_LOCK = true ∧ s.b.shl.pll.isSome = true ∧ (∀ g, g < 8 → s.b.tooFast g = false)) ∧
    (∃ s : State, ∃ w : Word, s.writable .spu 0x13 = true ∧ SHL.PCH_BEAT_GO.of w = 1 ∧ (s.b.shl.seqs = [] ∨ SHL.PCH_BEAT_SEQ.of w ∈
      s.b.shl.seqs)) ∧
    (∃ s : State, s.writable .spu 0x13 = true ∧ s.b.on SHL.SHL_STAT_SWAP_WINDOW = false ∧ s.b.on SHL.SHL_STAT_CONFIRMED = false) ∧
    (∃ s : State, s.writable .spu 0x13 = true ∧ s.b.on SHL.SHL_STAT_SWAP_WINDOW = false ∧ s.b.on SHL.SHL_STAT_CONFIRMED = true) ∧
    (∃ s : State, s.b.shlRuns = true ∧ s.b.shl.checking = true) :=
  ⟨⟨⟨{ blk 1 [(⟨SHL.GRP_STATE, 14, 2⟩, 2, 0, 0)] with shl := { stoA := 15, stoB := 15 } }, [], []⟩, by decide⟩,
   ⟨⟨(blk 1 [(SHL.SHL_STAT_SWAP_WINDOW, 1, 0, 0)]), [], []⟩, by decide⟩,
   ⟨⟨(blk 1 []), [], []⟩, .hsp, by decide⟩,
   ⟨⟨{ blk 1 [(⟨SHL.GRP_STATE, 14, 2⟩, 1, 0, 0), (SHL.GRP_FAULT_FAULTED, 128, 0, 0)] with shl := { stoA := 15, stoB := 15 } }, [], []⟩,
     .hsp, SHL.SHL_ACK_GRP.into (SHL.SHL_ACK_KEY.into 0 0x96) 128, 7, by decide⟩,
   ⟨⟨(blk 1 []), [], []⟩, .hsp, 1, by decide⟩,
   ⟨⟨{ blk 1 [(CRM.CLK_STAT_PLL_LOCK, 1, 0, 0)] with shl := { pll := some 0 } }, [], []⟩, .hsp, SHL.PLL_REL_KEY.into (SHL.PLL_REL_GO.into 0
     1) 0x96, by decide⟩,
   ⟨⟨{ blk 1 [] with shl := { seqs := [7, 6] } }, [], []⟩, SHL.PCH_BEAT_SEQ.into (SHL.PCH_BEAT_GO.into 0 1) 6, by decide⟩,
   ⟨⟨(blk 1 []), [], []⟩, by decide⟩,
   ⟨⟨(blk 1 [(SHL.SHL_STAT_CONFIRMED, 1, 0, 0)]), [], []⟩, by decide⟩,
   ⟨⟨{ blk 1 [] with shl := { checking := true } }, [], []⟩, by decide⟩⟩

set_option maxRecDepth 20000 in
/-- States and operands that meet the hypotheses of FutraPairs. -/
theorem witness_futraPairs :
    (∃ s : State, ∃ net : FutraNet, ∃ k : Nat, ∃ x : SnoopFrame, ∃ sampled : Bool, s.b.shlRuns = true ∧ s.b.futNet net = some k ∧ s.b.futOn
      = true ∧ (sampled = false ∨ s.b.snoop net x = none ∨ ∃ p, s.b.snoop net x = some p ∧ s.b.pduOk p = false)) ∧
    (∃ s : State, ∃ net : FutraNet, ∃ k : Nat, ∃ x : SnoopFrame, ∃ sampled : Bool, s.b.shlRuns = true ∧ s.b.futNet net = some k ∧ s.b.futOn
      = true ∧ (sampled = false ∨ s.b.snoop net x = none ∨ ∃ p, s.b.snoop net x = some p ∧ s.b.pduOk p = false)) ∧
    (∃ s : State, ∃ net : FutraNet, ∃ k : Nat, ∃ x : SnoopFrame, ∃ p : List Byte, s.b.shlRuns = true ∧ s.b.futNet net = some k ∧ s.b.futOn =
      true ∧ s.b.snoop net x = some p ∧ s.b.pduOk p = true ∧ pduByte p 0 % 16 = 0 ∧ (s.b.shl.seqs = [] ∨ (1 ≤ (pduSeq p + 65536 -
      s.b.shl.seqs.getD 0 0) % 65536 ∧ (pduSeq p + 65536 - s.b.shl.seqs.getD 0 0) % 65536 ≤ s.b.get SHL.FUT_CFG_SEQ_GAP)) ∧ (∀ q, q ∈
      s.b.shl.pend (1 - k) → pduSeq q ≠ pduSeq p) ∧ (s.b.shl.pend k).length < 4) ∧
    (∃ s : State, ∃ net : FutraNet, ∃ k : Nat, ∃ x : SnoopFrame, ∃ p : List Byte, s.b.shlRuns = true ∧ s.b.futNet net = some k ∧ s.b.futOn =
      true ∧ s.b.snoop net x = some p ∧ s.b.pduOk p = true ∧ pduByte p 0 % 16 = 0 ∧ (s.b.shl.seqs = [] ∨ (1 ≤ (pduSeq p + 65536 -
      s.b.shl.seqs.getD 0 0) % 65536 ∧ (pduSeq p + 65536 - s.b.shl.seqs.getD 0 0) % 65536 ≤ s.b.get SHL.FUT_CFG_SEQ_GAP)) ∧ (∀ q, q ∈
      s.b.shl.pend (1 - k) → pduSeq q ≠ pduSeq p) ∧ (s.b.shl.pend k).length < 4) ∧
    (∃ s : State, ∃ net : FutraNet, ∃ k : Nat, ∃ x : SnoopFrame, ∃ p : List Byte, s.b.shlRuns = true ∧ s.b.futNet net = some k ∧ s.b.futOn =
      true ∧ s.b.snoop net x = some p ∧ s.b.pduOk p = true ∧ pduByte p 0 % 16 = 0 ∧ (s.b.shl.seqs = [] ∨ (1 ≤ (pduSeq p + 65536 -
      s.b.shl.seqs.getD 0 0) % 65536 ∧ (pduSeq p + 65536 - s.b.shl.seqs.getD 0 0) % 65536 ≤ s.b.get SHL.FUT_CFG_SEQ_GAP)) ∧ s.b.shl.pend (1
      - k) = [p]) ∧
    (∃ s : State, ∃ net : FutraNet, ∃ k : Nat, ∃ p : List Byte, ∃ rest : List (List Byte), s.b.shlRuns = true ∧ s.b.futNet net = some k ∧
      s.b.shl.pend k = p :: rest) :=
  ⟨⟨⟨(blk 1 [(SHL.SHL_STAT_CHECK_DONE, 1, 0, 0), (SHL.FUT_CFG_EN, 1, 0, 0), (SHL.FUT_CFG_CONN_ID, 3, 0, 0), (SHL.FUT_CFG_SEQ_GAP, 2, 0, 0),
    (SHL.FUT_CAN0_EN, 1, 0, 0), (SHL.FUT_CFG_ETYPE, 35067, 0, 0)]), [], []⟩, .eth, 0, .eth ⟨List.replicate 12 1 ++ [0x81, 0, 0, 5, 0x88,
    0xFB] ++ pdu 3 1025 ++ List.replicate 26 0, crc32 (List.replicate 12 1 ++ [0x81, 0, 0, 5, 0x88, 0xFB] ++ pdu 3 1025 ++ List.replicate 26
    0)⟩, false, by decide⟩,
   ⟨⟨(blk 1 [(SHL.SHL_STAT_CHECK_DONE, 1, 0, 0), (SHL.FUT_CFG_EN, 1, 0, 0), (SHL.FUT_CFG_CONN_ID, 3, 0, 0), (SHL.FUT_CFG_SEQ_GAP, 2, 0, 0),
     (SHL.FUT_CAN0_EN, 1, 0, 0)]), [], []⟩, .eth, 0, .eth ⟨[1], 0⟩, true, by decide, by decide, by decide, by decide⟩,
   ⟨⟨(blk 1 [(SHL.SHL_STAT_CHECK_DONE, 1, 0, 0), (SHL.FUT_CFG_EN, 1, 0, 0), (SHL.FUT_CFG_CONN_ID, 3, 0, 0), (SHL.FUT_CFG_SEQ_GAP, 2, 0, 0),
     (SHL.FUT_CAN0_EN, 1, 0, 0), (SHL.FUT_CFG_ETYPE, 35067, 0, 0)]), [], []⟩, .eth, 0, .eth ⟨List.replicate 12 1 ++ [0x81, 0, 0, 5, 0x88,
     0xFB] ++ pdu 3 1025 ++ List.replicate 26 0, crc32 (List.replicate 12 1 ++ [0x81, 0, 0, 5, 0x88, 0xFB] ++ pdu 3 1025 ++ List.replicate
     26 0)⟩, pdu 3 1025, by decide⟩,
   ⟨⟨{ blk 1 [(SHL.SHL_STAT_CHECK_DONE, 1, 0, 0), (SHL.FUT_CFG_EN, 1, 0, 0), (SHL.FUT_CFG_CONN_ID, 3, 0, 0), (SHL.FUT_CFG_SEQ_GAP, 2, 0, 0), (SHL.FUT_CAN0_EN, 1, 0, 0), (SHL.FUT_CAN0_ID, 5, 0, 0), (SHL.FUT_CAN0_IDE, 1, 0, 0)] with shl := { seqs := [1023] } },
     [], []⟩, .can0, 1, .can (CanFrame.seal ⟨5, true, true, false, false, false, 10, pdu 3 1025, 0⟩), pdu 3 1025, by decide⟩,
   ⟨⟨{ blk 1 [(SHL.SHL_STAT_CHECK_DONE, 1, 0, 0), (SHL.FUT_CFG_EN, 1, 0, 0), (SHL.FUT_CFG_CONN_ID, 3, 0, 0), (SHL.FUT_CFG_SEQ_GAP, 2, 0, 0), (SHL.FUT_CAN0_EN, 1, 0, 0), (SHL.FUT_CFG_ETYPE, 35067, 0, 0)] with shl := { pend1 := [pdu 3 1025], seqs := [1024] } },
     [], []⟩, .eth, 0, .eth ⟨List.replicate 12 1 ++ [0x81, 0, 0, 5, 0x88, 0xFB] ++ pdu 3 1025 ++ List.replicate 26 0, crc32 (List.replicate
     12 1 ++ [0x81, 0, 0, 5, 0x88, 0xFB] ++ pdu 3 1025 ++ List.replicate 26 0)⟩, pdu 3 1025, by decide⟩,
   ⟨⟨{ blk 1 [(SHL.SHL_STAT_CHECK_DONE, 1, 0, 0), (SHL.FUT_CFG_EN, 1, 0, 0), (SHL.FUT_CFG_CONN_ID, 3, 0, 0), (SHL.FUT_CFG_SEQ_GAP, 2, 0, 0), (SHL.FUT_CAN0_EN, 1, 0, 0)] with shl := { pend0 := [pdu 3 1025] } },
     [], []⟩, .eth, 0, pdu 3 1025, [], by decide⟩⟩

/-! ## Fuse contents and a signed debug response -/

/-- A block at a phase of start-up with fuse words stored. -/
def fused (ph : Phase) (l : List (Nat × Word)) : Block :=
  { blk 0 [] with crm := { phase := ph, porstLow := false }, otp := { fuses := storedWords l } }

/-- The second lifecycle step without the first. -/
def badSteps : List (Nat × Word) := (List.range 4).map (fun j => (stepWord 2 j, stepPat 2 j))

/-- The first lifecycle step, and the finalise flag of unit 3 programmed with what is no flag word. -/
def badFlag : List (Nat × Word) := (List.range 4).map (fun j => (stepWord 1 j, stepPat 1 j)) ++ [(0x3E2, 1)]

/-- States that meet the hypotheses of StartUp's two clauses about faults. -/
theorem witness_startUpFaults :
    (∃ s : State, ∃ code : Nat, s.b.crm.phase = .arrayRead ∧ s.b.lifecycleFault = some code) ∧
    (∃ s : State, ∃ code unit : Nat, s.b.crm.phase = .digests ∧ s.b.startFault = some (code, unit)) := by
  refine ⟨⟨⟨fused .arrayRead badSteps, [], []⟩, 4, rfl, ?_⟩, ⟨⟨fused .digests badFlag, [], []⟩, 3, 3, rfl, startFault_of_flag ?_⟩⟩
  · have h : ∀ w, (fused .arrayRead badSteps).fuseVal w = Tab.get 0 badSteps w := fuseVal_storedWords rfl
    simp only [Block.lifecycleFault, Block.lifecycle, Block.stepHere, Block.stepCount, h]
    decide
  · have h : ∀ w, (fused .digests badFlag).fuseVal w = Tab.get 0 badFlag w := fuseVal_storedWords rfl
    have hb : ∀ w, (fused .digests badFlag).burnt w = (Tab.get 0 badFlag w != 0) := burnt_storedWords rfl
    show List.find? (fun u => (fused .digests badFlag).badFlagAt u) sealedUnits = some 3
    simp only [Block.badFlagAt, Block.lifecycle, Block.stepHere, Block.stepCount, Block.finalised, h, hb]
    decide

/-- The debug key slot that holds the digest of the key below. -/
def keyFuses : List (Nat × Word) :=
  [(0x061, 0xE845), (0x062, 0x21A3), (0x063, 0xB114), (0x064, 0x1124), (0x065, 0x972D), (0x066, 0xE3DE), (0x067, 0x0558), (0x068, 0x0F81),
   (0x069, 0xCDA8), (0x06A, 0x2FD0), (0x06B, 0xA4D2), (0x06C, 0x6109), (0x06D, 0xEB64), (0x06E, 0x076D), (0x06F, 0xF29E), (0x070, 0x9D67)]

/-- A key and a signature of the challenge of `challenged` (made outside the model). -/
def response : List Word :=
  [0xD0D3894C, 0xDFE06108, 0xD9EE02C1, 0x1D97285C, 0xA396BE28, 0xC1EF6DCB, 0x31E043ED, 0x7FA5DEDF, 0x83B1C71E, 0x71CBFDC0, 0x53FE7067,
   0x3FA93A27, 0x0A057FD2, 0x26EC5068, 0x624E21FA, 0xD94EEA00, 0x96FBE86A, 0x7EB10DFF, 0x69293C6E, 0xC84C7A2D, 0x89BC18E5, 0x3132B1F5,
   0xC2DE5C99, 0x4FEFE84E, 0x96FBE86A, 0x7EB10DFF, 0x69293C6E, 0xC84C7A2D, 0x89BC18E5, 0x3132B1F5, 0xC2DE5C99, 0x4FEFE84E]

def challenged : Block :=
  { blk 1 [] with
    otp := { fuses := storedWords keyFuses }
    sec := { response := some response, chal := true, chalLevel := 2 } }

set_option maxRecDepth 20000 in
theorem test_sha256 :
    bigOf (sha256 ((((response.drop 0).take 16).map bytesBE).flatten)) =
      0xE84521A3B1141124972DE3DE05580F81CDA82FD0A4D26109EB64076DF29E9D67 := by
  decide +kernel

set_option maxRecDepth 20000 in
theorem test_signature :
    ecdsaOk (bigOf ((response.drop 0).take 8)) (bigOf ((response.drop 8).take 8)) (bigOf ((response.drop 16).take 8))
      (bigOf ((response.drop 24).take 8)) challenged.chalMessage = true := by
  decide +kernel

set_option maxRecDepth 20000 in
theorem test_keySlot :
    challenged.keyHere 2 = true ∧ challenged.keyRevoked 2 = false ∧
      challenged.keyHash 2 = 0xE84521A3B1141124972DE3DE05580F81CDA82FD0A4D26109EB64076DF29E9D67 := by
  have h : ∀ w, challenged.fuseVal w = Tab.get 0 keyFuses w := fuseVal_storedWords rfl
  have hb : ∀ w, challenged.burnt w = (Tab.get 0 keyFuses w != 0) := burnt_storedWords rfl
  simp only [Block.keyHere, Block.keyRevoked, Block.keyHash, h, hb]
  decide

/-- A state that meets the hypotheses of DebugAccess's clause about a response that verifies. -/
theorem witness_debugGrant :
    ∃ s : State, ∃ d : List Word, s.b.running = true ∧ s.b.mode ≠ 5 ∧ s.b.sec.response = some d ∧ s.b.responseCode d = 0 := by
  refine ⟨⟨challenged, [], []⟩, response, by decide, by decide, rfl, ?_⟩
  obtain ⟨h1, h2, h3⟩ := test_keySlot
  have hm : ¬challenged.maxLevel < challenged.sec.chalLevel := by decide
  simp only [Block.responseCode, h1, h2, h3, test_sha256, test_signature, hm]
  decide

/-! ## What WellFormed refuses -/

/-- One command with an operand out of range for each check. -/
theorem test_wf_refuses :
    ([.avsEvaluate (List.replicate 15 9), .wakeInputChange 4 true, .otpUnknownOp .hsp 16 0, .counterLowRead .hsp 0x1000000,
      .pageLock .hsp 0x200 0, .xspEphemerisFire 16, .firmwareLoad [] [] true, .canTransmitStart 2,
      .canFrameReceived 0 ⟨0, false, false, false, false, false, 9, List.replicate 9 0, 0⟩,
      .canFrameReceived 0 ⟨0, false, true, false, false, false, 15, List.replicate 65 0, 0⟩, .tbFirstMeridian 8, .legWindowOpen 64,
      .dllLock 2, .sampleHold 24 false, .converterSelftestSkip 32, .busConversionDone 8 0, .hkConversionDone 49 0, .mbxCreate .hsp 2,
      .mbxBadOp .hsp 0 16, .cmdLoss 24, .loopRunStart 160] : List Instr).all (fun i => !i.wf) = true ∧
    ([.indexEvent 24, .hallTransition 0 8, .wireDisagree 0 3 true, .pcDisarm .hsp 32 0, .pcoPulseEnd 8, .tcuRecordWrite 4, .bankReady 44,
      .stripeRecomputeDone 5, .ringStagedEntryWrite 64, .escWindowExpire 0x4F, .escWindowExpire 0, .degradeClear .hsp 3 0, .stoDiscrepancy 4,
      .ss1Timeout 8, .cfbInputChange 16 true] : List Instr).all (fun i => !i.wf) = true := by
  decide

/-- Commands with operands at the ends of their ranges are well formed. -/
theorem test_wf_accepts :
    ([.avsEvaluate (List.replicate 16 9), .wakeInputChange 3 true, .counterLowRead .hsp 0xFFFFFF, .pageLock .hsp 0x1FF 0,
      .canFrameReceived 1 ⟨0, false, true, false, false, false, 15, List.replicate 64 0, 0⟩, .legWindowOpen 63, .loopRunStart 159,
      .escWindowExpire 0x4E, .cfbInputChange 15 true] : List Instr).all Instr.wf = true := by
  decide

set_option maxRecDepth 20000 in
/-- The three cyclic codes of CAN over the digits 1 to 9, with the check values that catalogues of such codes print. -/
theorem test_can_crc_codes :
    let xs := [0x31, 0x32, 0x33, 0x34, 0x35, 0x36, 0x37, 0x38, 0x39].flatMap (bitsBE 8)
    crcBits 15 0x4599 0 xs = 0x059E ∧ crcBits 17 0x1685B 0 xs = 0x04F03 ∧ crcBits 21 0x102899 0 xs = 0x0ED841 := by
  decide

/-! ## Examples that the manual works out -/

/-- R81: L05 is page 0x025, LC042 is page 0x16A. -/
theorem test_pages : LEG.LEG_CFG.addr 5 0 / 4096 = 0x025 ∧ LC.LC_CFG.addr 42 0 / 4096 = 0x16A := by decide

/-- The steering joystick after R211: full deflection gives 32767, and play inside the deadband gives 0. -/
theorem test_joystick :
    let b := blk 1 [(CFU.CP_IN_U_MID, 32768, 0, 0), (CFU.CP_IN_DEADBAND, 1311, 0, 0), (CFU.CP_SLOPE_SLOPE, 86231, 0, 0),
      (CFU.CP_LIM_Y_MIN, 0x8000, 0, 0), (CFU.CP_LIM_Y_MAX, 0x7FFF, 0, 0)]
    b.cpMap 0 58982 = 32767 ∧ b.cpMap 0 34079 = 0 := by
  decide

/-- The table spells no command by bits, so no word is one. -/
theorem test_noTableWord : decodeTableWord 8 0xFF = none := by decide

end Sys2Proof.Tests
end

section
/-!
PROOF. A bank that is not READY serves no master (R341): the register fabric, the host's READ frame and the SPU at an address of such a bank.
-/

namespace Sys2Proof.Machine

/-! ## Addresses of banks -/

section Banks

variable {s : State} {a n : Nat}

theorem bankOf_window (h : bankOf a = some n) : 0x200000 ≤ a ∧ a < 0x490000 := by
  unfold bankOf at h
  split at h
  · omega
  · split at h
    · omega
    · cases h

/-- The bytes of an aligned word lie in one bank. -/
theorem bankOf_alignedWord (a : Nat) : bankOf (a / 4 * 4) = bankOf a := by
  unfold bankOf
  exact ite_congr (propext (by omega)) (fun _ => congrArg some (by omega)) fun _ =>
    ite_congr (propext (by omega)) (fun _ => congrArg (fun k => some (40 + k)) (by omega)) fun _ => rfl

/-- No register stands at an address of a bank. -/
theorem Block.placeAt_bank (b : Block) (h : bankOf a = some n) : b.placeAt a = none := by
  have := (bankOf_window h).1
  simp [Block.placeAt, this]

/-! ## The register fabric -/

theorem Block.wrote_refuse (b : Block) (page off : Nat) (m : Master) (code : Nat) :
    Wrote [HDR.REFUSAL.addr page 0, HDR.REFUSAL_CNT.addr page 0] b (b.refuse page off m code) := by
  have hcnt : HDR.REFUSAL_CNT.addr page 0 ∈ [HDR.REFUSAL.addr page 0, HDR.REFUSAL_CNT.addr page 0] := by simp
  exact ((Wrote.refl _ b).wr _ _ _ _ (by simp)).bump _ _ _ _ hcnt hcnt

/-- A saturating counter leaves every register but its own. -/
theorem Block.rd_bump_ne (b : Block) (cnt ovf : Fld) (r : Reg) (i j k l : Nat) (hc : r.addr k l ≠ cnt.reg.addr i j)
    (ho : r.addr k l ≠ ovf.reg.addr i j) : (b.bump cnt ovf i j).rd r k l = b.rd r k l := by
  unfold Block.bump
  split
  · exact Block.rd_put_ne b ovf r 1 i j k l ho
  · exact Block.rd_put_ne b cnt r _ i j k l hc

theorem Block.rd_bumpBy_ne (b : Block) (m : Nat) (cnt ovf : Fld) (r : Reg) (i j k l : Nat) (hc : r.addr k l ≠ cnt.reg.addr i j)
    (ho : r.addr k l ≠ ovf.reg.addr i j) : (b.bumpBy m cnt ovf i j).rd r k l = b.rd r k l := by
  unfold Block.bumpBy
  dsimp only
  split
  · exact (Block.rd_put_ne _ ovf r 1 i j k l ho).trans (Block.rd_put_ne b cnt r _ i j k l hc)
  · exact Block.rd_put_ne b cnt r _ i j k l hc

/-- The word of `REFUSAL` that a refusal leaves (R83, R84). -/
theorem Block.rd_refuse (b : Block) (page off : Nat) (m : Master) (code : Nat) :
    (b.refuse page off m code).rd HDR.REFUSAL page =
      BitVec.ofNat 32 (code % 256 + off % 4096 * 256 + Master.refusalCode m * 1048576) := by
  have hne : HDR.REFUSAL.addr page 0 ≠ HDR.REFUSAL_CNT.addr page 0 := by
    simp [Reg.addr, HDR.REFUSAL, HDR.REFUSAL_CNT]
  exact (Block.rd_bump_ne _ HDR.REFUSAL_CNT_COUNT HDR.REFUSAL_CNT_OVF _ page 0 page 0 hne hne).trans (Block.rd_wr_same ..)

theorem Block.get_refuse_code (b : Block) (page off : Nat) (m : Master) (code : Nat) :
    (b.refuse page off m code).get HDR.REFUSAL_CODE page = code % 256 := by
  have hrd : (b.refuse page off m code).rd HDR.REFUSAL_CODE.reg page = _ := b.rd_refuse page off m code
  rw [Block.get, hrd]
  simp only [Fld.of, slice, HDR.REFUSAL_CODE, BitVec.toNat_ofNat]
  omega

/-- The memory of a state that is written out; through this lemma the kernel compares the memories and not the blocks. -/
theorem State.mem_mk (b : Block) (m : List Host.Cell) (p : List Instr) : (State.mk b m p).mem = m := rfl

theorem State.refuseAt_mem (s : State) (page off : Nat) (m : Master) (code : Nat) : (s.refuseAt page off m code).2.mem = s.mem := by
  unfold State.refuseAt
  exact State.mem_mk _ s.mem s.pending

theorem State.refuseAt_only (s : State) (page off : Nat) (m : Master) (code : Nat) :
    OnlyRegs [HDR.REFUSAL.addr page 0, HDR.REFUSAL_CNT.addr page 0] s (s.refuseAt page off m code).2 := by
  unfold State.refuseAt
  exact (s.b.wrote_refuse page off m code).only

/-- The page shows the code of the refusal. -/
theorem State.refuseAt_code (s : State) (page off : Nat) (m : Master) (code : Nat) :
    (s.refuseAt page off m code).2.b.get HDR.REFUSAL_CODE page = code % 256 := by
  unfold State.refuseAt
  exact s.b.get_refuse_code page off m code

theorem State.busRead_bankNotReady (hb : bankOf a = some n) (hr : s.b.bankReady n = false) (m : Master) (access : Nat) :
    s.busRead m a access = (0, { unmapped := true }, false, s) := by
  simp [State.busRead, s.b.placeAt_bank hb, hb, hr]

theorem State.busWrite_bankNotReady (hb : bankOf a = some n) (hr : s.b.bankReady n = false) (m : Master) (w mask : Word) :
    s.busWrite m a w mask = s.refuseAt (bankPage n) (a % 4096) m 2 := by
  have hw : bankOf (a / 4 * 4) = some n := (bankOf_alignedWord a).trans hb
  have hc : s.b.bankWriteCheck n m = some 2 := by simp [Block.bankWriteCheck, hr]
  simp only [State.busWrite, s.b.placeAt_bank hw, hw, hc]

/-! ## A READ frame of the host -/

/-- While the port serves frames, the nightwatch responder does not have it. -/
theorem State.responds_served (h : s.served = true) : s.b.responds = false := by
  simp only [State.served, Block.running, Bool.and_eq_true, Bool.or_eq_true, beq_iff_eq, bne_iff_ne] at h
  obtain ⟨hphase, hmode⟩ := h
  rcases hphase with hp | hp <;> simp [Block.responds, hp, hmode]

/-- A whole READ without a trailer reads its words; nothing else befalls it. -/
theorem State.frameRun_read (s : State) (h : HspHdr) (c : FrameCfg) (k : Nat) (hc : c.crc = false) (hk : k ≠ 0) :
    s.frameRun 0x10 h c [] k .whole = s.frameRead c {} k h.late := by
  simp [State.frameRun, State.frameBody, hspCodes, hc, hk]

/-- A READ of one word is one read of the fabric, with its flags. -/
theorem State.frameRead_one (s : State) (c : FrameCfg) :
    s.frameRead c {} 1 [] =
      ({ acc := (s.busRead .hsp (c.at' 0 / 4 * 4) 1).2.1, wrap := decide (c.room ≤ 1),
         data := [c.cut ((s.busRead .hsp (c.at' 0 / 4 * 4) 1).1 >>> (8 * (c.at' 0 % 4)))], done := 1 },
       (s.busRead .hsp (c.at' 0 / 4 * 4) 1).2.2.2) := by
  simp [State.frameRead, Access.or]

/-- The flags of `LAST_FRAME` as a number. -/
theorem flagBits_lastFrame (w f l u r d : Bool) :
    flagBits [(24, w), (25, f), (26, l), (27, u), (28, r), (29, d)] =
      2 ^ 24 * w.toNat + 2 ^ 25 * f.toNat + 2 ^ 26 * l.toNat + 2 ^ 27 * u.toNat + 2 ^ 28 * r.toNat + 2 ^ 29 * d.toNat := by
  revert w f l u r d
  decide

/-- The word of `LAST_FRAME` that the end of a frame leaves (R104). -/
theorem Block.rd_frameEnd_lastFrame (b : Block) (cmd : Nat) (c : FrameCfg) (f : Frame) (drop : Nat) (timeout : Bool) :
    (b.frameEnd cmd c f drop timeout).rd HSP.LAST_FRAME =
      BitVec.ofNat 32 (f.code + c.tag * 256 + cmd * 65536 +
        flagBits [(24, f.wrap), (25, f.acc.fenced), (26, f.acc.locked), (27, f.acc.unmapped), (28, f.acc.refused), (29, f.discard)]) := by
  have herr (d : Block) : (if f.code = 0 then d else d.bump HSP.ERR_CNT_COUNT HSP.ERR_CNT_OVF).rd HSP.LAST_FRAME = d.rd HSP.LAST_FRAME := by
    split
    · rfl
    · exact Block.rd_bump_ne d _ _ _ 0 0 0 0 (by decide) (by decide)
  have hprev (d : Block) (x : HspSt) : ({ d with hsp := x } : Block).rd HSP.LAST_FRAME = d.rd HSP.LAST_FRAME := rfl
  unfold Block.frameEnd
  dsimp only
  rw [hprev, Block.rd_bumpBy_ne _ _ HSP.DISCARD_CNT_COUNT _ _ _ _ _ _ (by decide) (by decide), herr,
    Block.rd_bump_ne _ HSP.FRAME_CNT_COUNT _ _ _ _ _ _ (by decide) (by decide), Block.rd_put_ne _ HSP.WORDS_DROPPED _ _ _ _ _ _ (by decide),
    Block.rd_put_ne _ HSP.WORDS_DONE _ _ _ _ _ _ (by decide), Block.rd_wr_ne _ HSP.LAST_ADDR _ _ _ _ _ _ (by decide), Block.rd_wr_same]

/-- The flag UNMAPPED of `LAST_FRAME` is that of the frame's accesses. -/
theorem Block.frameEnd_unmapped (b : Block) (cmd : Nat) (c : FrameCfg) (f : Frame) (drop : Nat) (timeout : Bool) (hcmd : cmd < 256)
    (htag : c.tag < 256) (hcode : f.code < 256) :
    (b.frameEnd cmd c f drop timeout).on HSP.LAST_FRAME_UNMAPPED = f.acc.unmapped := by
  have hrd : (b.frameEnd cmd c f drop timeout).rd HSP.LAST_FRAME_UNMAPPED.reg = _ := b.rd_frameEnd_lastFrame cmd c f drop timeout
  have hw := f.wrap.toNat_le
  have hf := f.acc.fenced.toNat_le
  have hl := f.acc.locked.toNat_le
  have hu := f.acc.unmapped.toNat_le
  have hr := f.acc.refused.toNat_le
  have hd := f.discard.toNat_le
  have hbit : (b.frameEnd cmd c f drop timeout).get HSP.LAST_FRAME_UNMAPPED = f.acc.unmapped.toNat := by
    rw [Block.get, hrd, flagBits_lastFrame]
    simp only [Fld.of, slice, HSP.LAST_FRAME_UNMAPPED, BitVec.toNat_ofNat]
    omega
  rw [Block.on, hbit]
  cases f.acc.unmapped <;> rfl

/-- Frames of 32-bit words with full addresses and no trailer start at the aligned word of their address. -/
theorem Block.frameCfg_plain (b : Block) (h : HspHdr) (hb : b.plainFrames = true) :
    (b.frameCfg h).crc = false ∧ (b.frameCfg h).at' 0 = frameAddr h ∧ (b.frameCfg h).tag < 256 := by
  simp only [Block.plainFrames, Bool.and_eq_true, Bool.not_eq_true', beq_iff_eq] at hb
  obtain ⟨⟨hcrc, hwidth⟩, haddr⟩ := hb
  refine ⟨by simp [Block.frameCfg, hcrc], ?_, ?_⟩
  · simp only [FrameCfg.at', Block.frameCfg, hwidth, haddr, frameAddr, ite_true]
    omega
  · have := h.tag.isLt
    simp only [Block.frameCfg]
    split <;> omega

/-- A frame that the port serves to its end sends the words of its outcome and records the flag UNMAPPED of its accesses. -/
theorem State.frame_served (s t : State) (cmd : Nat) (h : HspHdr) (data : List Word) (k : Nat) (e : Ending) (f : Frame)
    (hs : s.served = true) (hrun : s.frameRun cmd h (s.b.frameCfg h) data k e = (f, t)) (ht : t.served = true) (hcmd : cmd < 256)
    (htag : (s.b.frameCfg h).tag < 256) (hcode : f.code < 256) :
    (s.frame cmd h data k e).b.hsp.data = f.data ∧ (s.frame cmd h data k e).b.on HSP.LAST_FRAME_UNMAPPED = f.acc.unmapped := by
  simp only [State.frame, State.responds_served hs, hs, hrun, ht, Bool.not_true, Bool.false_and, Bool.false_eq_true, ite_false]
  exact ⟨trivial, Block.frameEnd_unmapped _ _ _ _ _ _ hcmd htag hcode⟩

/-- A READ of one word at an address of such a bank answers zero with UNMAPPED. -/
theorem State.frameRead_bankNotReady (h : HspHdr) (hlate : h.late = []) (hs : s.served = true) (hp : s.b.plainFrames = true)
    (hb : bankOf (frameAddr h) = some n) (hr : s.b.bankReady n = false) :
    (s.frame 0x10 h [] 1 .whole).b.hsp.data = [0] ∧ (s.frame 0x10 h [] 1 .whole).b.on HSP.LAST_FRAME_UNMAPPED = true := by
  obtain ⟨hcrc, hat, htag⟩ := s.b.frameCfg_plain h hp
  have hw : bankOf ((s.b.frameCfg h).at' 0 / 4 * 4) = some n := by rw [hat, bankOf_alignedWord, hb]
  have hrun := s.frameRun_read h _ 1 hcrc (by decide)
  rw [hlate, State.frameRead_one, State.busRead_bankNotReady hw hr] at hrun
  obtain ⟨hdata, hflag⟩ := State.frame_served _ _ _ _ _ _ _ _ hs hrun hs (by decide) htag (by simp)
  exact ⟨by simpa [FrameCfg.cut] using hdata, hflag⟩

/-! ## The SPU -/

/-- What shows as a bank word is read leaves the bank's state. -/
theorem State.bankReady_see (s : State) (a k : Nat) (seen : Ecc) : (s.see a seen).b.bankReady k = s.b.bankReady k := by
  unfold State.see
  split
  · cases seen with
    | clean | double => rfl
    | single =>
      simp only [Block.see]
      split <;> rfl
  · rfl

/-- An access touches the word that holds its address, and perhaps the next. -/
theorem spanOf_cases (a k : Nat) : spanOf a k = [a / 4 * 4] ∨ spanOf a k = [a / 4 * 4, a / 4 * 4 + 4] := by
  unfold spanOf
  split
  · exact .inl rfl
  · exact .inr rfl

/-- The SPU's access to a bank, where the fabric is open to it. -/
theorem State.spuAccess_bank (hb : bankOf a = some n) (ho : s.b.busOpen .spu = true) (write : Bool) (width : SpuWidth) (w : Word)
    (seen : Ecc) :
    s.spuAccess write width a w seen = if write then s.spuStore a (spuBytes width) w else s.spuLoad a width seen := by
  have hlo : ¬ a < 0x200000 := by have := bankOf_window hb; omega
  have hhi : ¬ 2 ^ 24 ≤ a := by have := bankOf_window hb; omega
  simp only [State.spuAccess, ho, hlo, hhi, decide_false, Bool.not_true, Bool.or_false, Bool.false_eq_true, ite_false]

theorem State.spuLoad_bankNotReady (hb : bankOf a = some n) (hr : s.b.bankReady n = false) (width : SpuWidth) (seen : Ecc) :
    (s.spuLoad a width seen).b.spu.fault = true := by
  have hw : bankOf (a / 4 * 4) = some n := (bankOf_alignedWord a).trans hb
  have hsee : (s.see (a / 4 * 4) seen).b.bankReady n = false := (s.bankReady_see _ n seen).trans hr
  rcases spanOf_cases a (spuBytes width) with hspan | hspan <;>
    simp only [State.spuLoad, hspan, List.foldl_cons, List.foldl_nil, State.busRead_bankNotReady hw hsee, Block.spuGot, Bool.false_or,
      Bool.true_or]

/-- A store whose first part is refused writes nothing. -/
theorem State.spuStore_bankNotReady (hb : bankOf a = some n) (hr : s.b.bankReady n = false) (k : Nat) (w : Word) :
    (s.spuStore a k w).b.spu.fault = true ∧ (s.spuStore a k w).mem = s.mem := by
  have hw : bankOf (a / 4 * 4) = some n := (bankOf_alignedWord a).trans hb
  have hle : a / 4 * 4 ≤ a := Nat.div_mul_le_self a 4
  have hfirst (w mask : Word) : (s.busWrite .spu a w mask).1.refused = true := by
    rw [State.busWrite_bankNotReady hb hr]
    rfl
  have hmem (w mask : Word) : (s.busWrite .spu a w mask).2.mem = s.mem := by
    rw [State.busWrite_bankNotReady hb hr, State.refuseAt_mem]
  rcases spanOf_cases a k with hspan | hspan <;>
    simp only [State.spuStore, hspan, List.map_cons, hle, if_true, List.find?_cons, hfirst, hmem, Bool.true_or, List.any_cons,
      hw, hr, Bool.not_false, and_self]

end Banks

/-- Settles O33: the fabric itself turns the access away, and frames and the SPU reach a bank only through the fabric. -/
theorem bankNotReady : Obligations.BankNotReady := by
  intro s a n hb hr
  refine ⟨State.busRead_bankNotReady hb hr, fun m w mask => ?_, fun h hs hp ha => ?_, fun width w seen ho => ⟨?_, ?_⟩⟩
  · rw [State.busWrite_bankNotReady hb hr]
    exact ⟨rfl, s.refuseAt_mem .., s.refuseAt_code .., s.refuseAt_only ..⟩
  · subst ha
    exact ⟨_, rfl, State.frameRead_bankNotReady { h with late := [] } rfl hs hp hb hr⟩
  · refine ⟨_, rfl, ?_⟩
    rw [State.spuAccess_bank hb ho]
    exact State.spuLoad_bankNotReady hb hr width seen
  · refine ⟨_, rfl, ?_⟩
    rw [State.spuAccess_bank hb ho]
    exact State.spuStore_bankNotReady hb hr _ w

end Sys2Proof.Machine
end

section
/-!
PROOF. AXREL releases the AXIS_SAFE reaction on one axis (R382). What a refresh of pads and axes leaves of the causes that hold an axis makes
`HELD_SRC` the same before and after it, and so says where the axis goes.
-/

namespace Sys2Proof.Machine

/-! ## Refused writes -/

/-- A write that the block behind the page refuses as it stands changes the refusal registers of the page only, and shows its code there. -/
theorem State.write_refused {s : State} {m : Master} {r : Reg} {i j c : Nat} {w : Word} (hp : placeOkay r i j = true)
    (hw : s.writable m (r.page + i) = true) (h : s.b.pageWrite m ⟨r, i, j⟩ w = (s.b, .refused c)) :
    (s.write m r i j w).b.get HDR.REFUSAL_CODE (r.page + i) = c % 256 ∧
      OnlyRegs [HDR.REFUSAL.addr (r.page + i) 0, HDR.REFUSAL_CNT.addr (r.page + i) 0] s (s.write m r i j w) := by
  simp only [State.writable, Bool.and_eq_true] at hw
  have hs : s.write m r i j w = { s with b := s.b.refuse (r.page + i) (r.off + j * r.stride) m c } := by
    rw [State.write, State.onBlock, Block.command_refused s.b s.b m r i j c w hp hw.1 hw.2 h]
  rw [hs]
  exact ⟨s.b.get_refuse_code .., (s.b.wrote_refuse ..).only⟩

/-! ## What a refresh of pads and axes leaves -/

/-- The causes of ranks 2 and 3 that a leg itself carries (R153). -/
def LegSt.causes (l : LegSt) : Option Nat × Option Nat × Option Nat := (l.shl, l.failPat, l.fcrPat)

/-- The registers that such a refresh writes: event bits, the page of SEC, and the drive states of the axes in `l`. -/
def refreshRegs (l : List Nat) (x : Nat) : Prop :=
  x % 4096 = 0xC ∨ x / 4096 = 3 ∨ ∃ a ∈ l, x ∈ [AX.AX_DRV.addr a 0, AX.AX_DRV_TS_LO.addr a 0, AX.AX_DRV_TS_HI.addr a 0]

/-- From `b` to `c` nothing changed that an override depends on, and no drive state but those of the axes in `l`. -/
structure Steady (l : List Nat) (b c : Block) : Prop where
  crm : c.crm = b.crm
  causes : ∀ n, (c.leg n).causes = (b.leg n).causes
  rd : ∀ r i j, ¬ refreshRegs l (r.addr i j) → c.rd r i j = b.rd r i j

namespace Steady

variable {l : List Nat} {a b c : Block}

theorem refl (l : List Nat) (b : Block) : Steady l b b := ⟨rfl, fun _ => rfl, fun _ _ _ _ => rfl⟩

theorem trans (h : Steady l a b) (k : Steady l b c) : Steady l a c :=
  ⟨k.crm.trans h.crm, fun n => (k.causes n).trans (h.causes n), fun r i j p => (k.rd r i j p).trans (h.rd r i j p)⟩

theorem mono {l' : List Nat} (h : Steady l a b) (hl : l ⊆ l') : Steady l' a b :=
  ⟨h.crm, h.causes, fun r i j p => h.rd r i j fun q => p (q.imp_right (.imp_right fun ⟨k, hk, hx⟩ => ⟨k, hl hk, hx⟩))⟩

theorem wr (h : Steady l a b) (q : Reg) (v : Word) (i j : Nat) (hq : refreshRegs l (q.addr i j)) : Steady l a (b.wr q v i j) :=
  ⟨h.crm, h.causes, fun r k n p => by
    rw [Block.rd_wr_ne b q r v i j k n fun e => p (by rwa [e])]
    exact h.rd r k n p⟩

theorem put (h : Steady l a b) (f : Fld) (v i j : Nat) (hq : refreshRegs l (f.reg.addr i j)) : Steady l a (b.put f v i j) :=
  h.wr _ _ _ _ hq

theorem evt (h : Steady l a b) (p k : Nat) : Steady l a (b.evt p k) :=
  h.wr _ _ _ _ (.inl (by simp only [Reg.addr, HDR.EVT_STAT_BITS, HDR.EVT_STAT]; omega))

theorem putDrv (h : Steady l a b) {k : Nat} (hk : k ∈ l) (f : Fld) (v : Nat) (hf : f.reg = AX.AX_DRV) : Steady l a (b.put f v k) :=
  h.put _ _ _ _ (.inr (.inr ⟨k, hk, by simp [hf]⟩))

theorem setAx (h : Steady l a b) (n : Nat) (x : AxSt) : Steady l a (b.setAx n x) := ⟨h.crm, h.causes, h.rd⟩

theorem setLeg (h : Steady l a b) (n : Nat) (x : LegSt) (hx : x.causes = (b.leg n).causes) : Steady l a (b.setLeg n x) := by
  refine ⟨h.crm, fun k => ?_, h.rd⟩
  by_cases hk : k = n
  · rw [hk, Block.leg_setLeg_same, hx, h.causes]
  · rw [Block.leg_setLeg_ne b x hk, h.causes]

theorem each (h : Steady l a b) (ns : List Nat) (f : Block → Nat → Block) (hf : ∀ d, ∀ n ∈ ns, Steady l d (f d n)) :
    Steady l a (b.each ns f) := by
  unfold Block.each
  induction ns generalizing b with
  | nil => exact h
  | cons n ns ih =>
    exact ih (h.trans (hf b n List.mem_cons_self)) fun d k hk => hf d k (List.mem_cons_of_mem n hk)

end Steady

theorem padMoved_steady (b : Block) (leg : Nat) (o : Bool × Bool) : Steady [] b (b.padMoved leg o) := by
  unfold Block.padMoved
  split
  · exact .refl _ b
  · exact (Steady.refl _ b).setLeg _ _ rfl

/-- An override that engages at a pad is none of its causes. -/
theorem padRefresh_steady (b : Block) (leg : Nat) : Steady [] b (b.padRefresh leg) := by
  unfold Block.padRefresh
  dsimp only
  split
  · split
    · exact .refl _ b
    · refine (((Steady.refl _ b).setLeg leg _ ?_).trans (padMoved_steady _ _ _)).evt _ _
      split <;> rfl
  · exact .refl _ b

theorem debugLower_steady (b : Block) : Steady [] b b.debugLower := by
  unfold Block.debugLower
  split
  · exact (((Steady.refl _ b).put SEC.SEC_STAT_LEVEL 1 0 0 (.inr (.inl rfl))).put SEC.SEC_STAT_HALTED 0 0 0 (.inr (.inl rfl))).evt 3 0
  · exact .refl _ b

theorem padsRefresh_steady (b : Block) : Steady [] b b.padsRefresh :=
  ((Steady.refl _ b).each _ _ fun d n _ => padRefresh_steady d n).trans (debugLower_steady _)

theorem setDrv_steady (b : Block) (a st : Nat) : Steady [a] b (b.setDrv a st) := by
  unfold Block.setDrv Block.stamp
  dsimp only
  have ha : a ∈ [a] := List.mem_singleton_self a
  have hstate := ((Steady.refl _ b).putDrv ha AX.AX_DRV_PREV (b.drv a) rfl).putDrv ha AX.AX_DRV_STATE st rfl
  exact ((hstate.wr _ _ _ _ (.inr (.inr ⟨a, ha, by simp⟩))).wr _ _ _ _ (.inr (.inr ⟨a, ha, by simp⟩))).evt _ _

theorem mask_steady (b : Block) (a : Nat) (v : Bool) : Steady [a] b (b.mask a v) := by
  unfold Block.mask
  split
  · exact (Steady.refl _ b).putDrv (List.mem_singleton_self a) AX.AX_DRV_MASKED _ rfl
  · exact (Steady.refl _ b).each _ _ fun d n _ => (Steady.refl _ d).setLeg n _ rfl

theorem toHeld_steady (b : Block) (a src : Nat) : Steady [a] b (b.toHeld a src) :=
  ((((setDrv_steady b a 9).putDrv (List.mem_singleton_self a) AX.AX_DRV_HELD_SRC src rfl).setAx _ _).trans (mask_steady _ _ _)).evt _ _

/-- One axis after overrides changed (R260). -/
def Block.axisHeld (b : Block) (a : Nat) : Block :=
  if b.heldSrc a ≠ 0 then (if b.drv a = 9 then b.put AX.AX_DRV_HELD_SRC (b.heldSrc a) a else b.toHeld a (b.heldSrc a))
  else if b.drv a = 9 then (b.put AX.AX_DRV_HELD_SRC 0 a).setDrv a 0
  else b

theorem Block.axesHeld_eq_each (b : Block) : b.axesHeld = b.each b.liveAxes Block.axisHeld := rfl

theorem axisHeld_steady (b : Block) (a : Nat) : Steady [a] b (b.axisHeld a) := by
  have hput (v : Nat) := (Steady.refl _ b).putDrv (List.mem_singleton_self a) AX.AX_DRV_HELD_SRC v rfl
  unfold Block.axisHeld
  split
  · split
    · exact hput _
    · exact toHeld_steady b a _
  · split
    · exact (hput 0).trans (setDrv_steady _ _ _)
    · exact .refl _ b

theorem each_axisHeld_steady (b : Block) (l : List Nat) : Steady l b (b.each l Block.axisHeld) :=
  (Steady.refl l b).each l _ fun d n hn => (axisHeld_steady d n).mono (List.cons_subset.2 ⟨hn, List.nil_subset _⟩)

/-! ## What rests on the causes and registers that stay -/

namespace Steady

variable {l : List Nat} {b c : Block} (h : Steady l b c)
include h

/-- Registers below the drive state stay on every page but that of SEC. -/
theorem rd_low (r : Reg) (i : Nat) (ho : 0x40 ≤ r.off ∧ r.off < 0x108) (hp : r.page + i ≠ 3) : c.rd r i = b.rd r i := by
  refine h.rd r i 0 fun hr => ?_
  simp only [refreshRegs, Reg.addr, AX.AX_DRV, AX.AX_DRV_TS_LO, AX.AX_DRV_TS_HI, List.mem_cons, List.not_mem_nil, or_false] at hr
  obtain hr | hr | ⟨a, -, hr⟩ := hr <;> omega

theorem get_low (f : Fld) (i : Nat) (ho : 0x40 ≤ f.reg.off ∧ f.reg.off < 0x108) (hp : f.reg.page + i ≠ 3) : c.get f i = b.get f i :=
  congrArg f.of (h.rd_low f.reg i ho hp)

/-- So do they on the pages of units. -/
theorem rd_unit (r : Reg) (i : Nat) (ho : 0x40 ≤ r.off ∧ r.off < 0x108) (hp : 3 < r.page) : c.rd r i = b.rd r i :=
  h.rd_low r i ho (by omega)

theorem get_unit (f : Fld) (i : Nat) (ho : 0x40 ≤ f.reg.off ∧ f.reg.off < 0x108) (hp : 3 < f.reg.page) : c.get f i = b.get f i :=
  congrArg f.of (h.rd_unit f.reg i ho hp)

theorem drv (a : Nat) (ha : a ∉ l) : c.drv a = b.drv a := by
  refine congrArg AX.AX_DRV_STATE.of (h.rd AX.AX_DRV a 0 fun hr => ?_)
  simp only [refreshRegs, Reg.addr, AX.AX_DRV, AX.AX_DRV_TS_LO, AX.AX_DRV_TS_HI, List.mem_cons, List.not_mem_nil, or_false] at hr
  obtain hr | hr | ⟨k, hk, hr⟩ := hr
  · omega
  · omega
  · exact ha ((show a = k by omega) ▸ hk)

theorem numAxes : c.numAxes = b.numAxes := by
  simp only [Block.numAxes, Block.lim, Block.variant, h.get_low OTP.FEAT_VARIANT 0 (by decide) (by decide)]

theorem axState (a : Nat) : c.axState a = b.axState a := h.get_unit AX.AX_STATE_STATE a (by decide) (by decide)

theorem axLegs (a : Nat) : c.axLegs a = b.axLegs a := by
  unfold Block.axLegs
  rw [h.rd_unit AX.AX_LEGS_LO a (by decide) (by decide), h.rd_unit AX.AX_LEGS_HI a (by decide) (by decide)]

theorem liveLegs (a : Nat) : c.liveLegs a = b.liveLegs a := by
  have hlive := h.get_unit AX.AX_STATE_SETS_LIVE a (by decide) (by decide)
  simp only [Block.liveLegs, Block.setOf, Block.mapBit, h.axLegs a, hlive]

theorem rank3 (n : Nat) : c.rank3 n = b.rank3 n := by
  have hcauses := h.causes n
  simp only [LegSt.causes, Prod.mk.injEq] at hcauses
  obtain ⟨-, hfail, hfcr⟩ := hcauses
  unfold Block.rank3 Block.mode Block.legOwner
  dsimp only
  rw [hfail, hfcr, h.crm, h.get_low CRM.MODE_CUR 0 (by decide) (by decide), h.get_unit LEG.LEG_STAT_OWNER n (by decide) (by decide),
    h.get_unit LEG.LEG_CFG_SAFE_PAT n (by decide) (by decide)]

theorem override (n : Nat) : c.override n = b.override n := by
  have hshl : (c.leg n).shl = (b.leg n).shl := congrArg Prod.fst (h.causes n)
  unfold Block.override Block.on
  rw [hshl, h.rank3 n, h.get_unit LEG.LEG_FLT_HELD n (by decide) (by decide)]

theorem heldSrc (a : Nat) : c.heldSrc a = b.heldSrc a := by
  simp only [Block.heldSrc, h.axState a, h.liveLegs a, h.override]

end Steady

/-! ## Where an axis in HELD goes -/

theorem Block.drv_setDrv (b : Block) (a st : Nat) : (b.setDrv a st).drv a = st % 16 := by
  have hne (r : Reg) (i : Nat) (hr : r = AX.AX_DRV_TS_LO ∨ r = AX.AX_DRV_TS_HI ∨ r = HDR.EVT_STAT) :
      AX.AX_DRV_STATE.reg.addr a 0 ≠ r.addr i 0 := by
    obtain rfl | rfl | rfl := hr <;>
      simp only [Reg.addr, AX.AX_DRV_STATE, AX.AX_DRV, AX.AX_DRV_TS_LO, AX.AX_DRV_TS_HI, HDR.EVT_STAT] <;> omega
  unfold Block.setDrv Block.stamp Block.drv Block.evt Block.setMap
  dsimp only
  rw [Block.get_put_ne _ HDR.EVT_STAT_BITS _ _ _ _ _ _ (hne _ _ (by simp [HDR.EVT_STAT_BITS])),
    Block.get_wr_ne _ _ _ _ _ _ _ _ (hne _ _ (by simp)), Block.get_wr_ne _ _ _ _ _ _ _ _ (hne _ _ (by simp)),
    Block.get_put_same _ _ _ _ _ (by decide)]
  rfl

/-- An axis in HELD stays there under an override, and goes to IDLE under none (R260). -/
theorem Block.drv_axisHeld (b : Block) (a : Nat) (hd : b.drv a = 9) : (b.axisHeld a).drv a = if b.heldSrc a = 0 then 0 else 9 := by
  by_cases hsrc : b.heldSrc a = 0
  · simp only [Block.axisHeld, hsrc, hd, ne_eq, not_true_eq_false, ite_false, ite_true, Block.drv_setDrv, Nat.zero_mod]
  · simp only [Block.axisHeld, hsrc, hd, ne_eq, not_false_eq_true, ite_true, ite_false]
    exact (b.get_put_beside AX.AX_DRV_HELD_SRC AX.AX_DRV_STATE _ a 0 rfl (by decide) (by decide)).trans hd

theorem Block.mem_liveAxes {b : Block} {a : Nat} : a ∈ b.liveAxes ↔ a < b.numAxes ∧ 2 ≤ b.axState a := by
  simp [Block.liveAxes]

/-- The axes are passed once each, so that what is said of one axis holds of it after all. -/
theorem Block.drv_axesHeld (b : Block) (a : Nat) (ha : a ∈ b.liveAxes) (hd : b.drv a = 9) :
    b.axesHeld.drv a = if b.axesHeld.heldSrc a = 0 then 0 else 9 := by
  have hnodup : b.liveAxes.Nodup := List.nodup_range.filter _
  obtain ⟨before, after, hl⟩ := List.append_of_mem ha
  rw [hl, List.nodup_append, List.nodup_cons] at hnodup
  obtain ⟨-, ⟨hafter, -⟩, hapart⟩ := hnodup
  have hbefore : a ∉ before := fun h => hapart a h a List.mem_cons_self rfl
  have hsplit : b.axesHeld = (((b.each before Block.axisHeld).axisHeld a).each after Block.axisHeld) := by
    rw [Block.axesHeld_eq_each, hl]
    simp only [Block.each, List.foldl_append, List.foldl_cons]
  have hearlier := (each_axisHeld_steady b before).drv a hbefore
  have hlater := each_axisHeld_steady ((b.each before Block.axisHeld).axisHeld a) after
  rw [hsplit, hlater.drv a hafter, hlater.heldSrc, (axisHeld_steady _ a).heldSrc, Block.drv_axisHeld _ a (hearlier.trans hd)]

theorem overridesChanged_steady (b : Block) : Steady b.padsRefresh.liveAxes b b.overridesChanged :=
  ((padsRefresh_steady b).mono (List.nil_subset _)).trans (each_axisHeld_steady _ _)

theorem Block.drv_overridesChanged (b : Block) (a : Nat) (ha : a ∈ b.liveAxes) (hd : b.drv a = 9) :
    b.overridesChanged.drv a = if b.overridesChanged.heldSrc a = 0 then 0 else 9 := by
  have hpads := padsRefresh_steady b
  refine b.padsRefresh.drv_axesHeld a ?_ ((hpads.drv a List.not_mem_nil).trans hd)
  rwa [Block.mem_liveAxes, hpads.numAxes, hpads.axState, ← Block.mem_liveAxes]

/-! ## The release -/

/-- FCR's override of a leg ended. -/
def Block.endFcr (b : Block) (leg : Nat) : Block := b.setLeg leg { b.leg leg with fcrPat := none }

theorem Block.each_endFcr_regs (b : Block) (l : List Nat) : (b.each l Block.endFcr).regs = b.regs := by
  unfold Block.each
  induction l generalizing b with
  | nil => rfl
  | cons n l ih => exact (ih _).trans (Block.setLeg_regs ..)

theorem Block.fcrPat_endFcr (b : Block) (n k : Nat) (h : k = n ∨ (b.leg k).fcrPat = none) : ((b.endFcr n).leg k).fcrPat = none := by
  unfold Block.endFcr
  by_cases hk : k = n
  · rw [hk, Block.leg_setLeg_same]
  · rw [Block.leg_setLeg_ne b _ hk, h.resolve_left hk]

theorem Block.fcrPat_each_endFcr (b : Block) (l : List Nat) (n : Nat) (h : n ∈ l ∨ (b.leg n).fcrPat = none) :
    ((b.each l Block.endFcr).leg n).fcrPat = none := by
  unfold Block.each
  induction l generalizing b with
  | nil => exact h.resolve_left List.not_mem_nil
  | cons k l ih =>
    rw [List.mem_cons, or_assoc, or_left_comm] at h
    exact ih _ (h.imp_right (b.fcrPat_endFcr k n))

/-- The block as `AXREL` releases axis `a`, before pads and axes follow. -/
def Block.axisFreed (b : Block) (a : Nat) : Block := (b.each (b.axLegs a) Block.endFcr).setMap FCR.AX_SAFE_MAP_SLOT a false

/-- A release writes no register but the map. -/
theorem Block.rd_axisFreed (b : Block) (a : Nat) (r : Reg) (i : Nat) (h : r.addr i 0 ≠ FCR.AX_SAFE_MAP.addr 0 0) :
    (b.axisFreed a).rd r i = b.rd r i :=
  (Block.rd_put_ne _ FCR.AX_SAFE_MAP_SLOT r _ 0 0 i 0 h).trans
    (congrArg (fun t => Tab.get (r.resetW i 0) t (r.addr i 0)) (b.each_endFcr_regs _))

/-- A bit that is cleared in a field reads as clear. -/
theorem bit_clear (n k w : Nat) (h : bit n k = true) : bit (setBit n k false % 2 ^ w) k = false := by
  have hodd : n / 2 ^ k % 2 = 1 := by simpa [bit] using h
  have hclear : (n - 2 ^ k) / 2 ^ k % 2 = 0 := by
    have := Nat.sub_mul_div n (2 ^ k) 1
    rw [Nat.mul_one] at this
    omega
  have hset : setBit n k false = n - 2 ^ k := by simp [setBit, h]
  have htest : (n - 2 ^ k).testBit k = false := by simp [Nat.testBit_eq_decide_div_mod_eq, hclear]
  have : ((n - 2 ^ k) % 2 ^ w).testBit k = false := by rw [Nat.testBit_mod_two_pow, htest, Bool.and_false]
  simpa [hset, bit, Nat.testBit_eq_decide_div_mod_eq] using this

theorem Block.mapBit_axisFreed (b : Block) (a : Nat) (h : b.mapBit FCR.AX_SAFE_MAP_SLOT a = true) :
    (b.axisFreed a).mapBit FCR.AX_SAFE_MAP_SLOT a = false := by
  have hmap : (b.each (b.axLegs a) Block.endFcr).mapBit FCR.AX_SAFE_MAP_SLOT a = true := by
    rw [Block.mapBit, Block.get, Block.rd, b.each_endFcr_regs]
    exact h
  unfold Block.axisFreed Block.setMap
  rw [Block.mapBit, Block.get_put_same _ _ _ _ _ (by decide)]
  exact bit_clear _ a 24 hmap

theorem Block.mem_liveAxes_axisFreed (b : Block) (a : Nat) : a ∈ (b.axisFreed a).liveAxes ↔ a ∈ b.liveAxes := by
  have hfeat : (b.axisFreed a).get OTP.FEAT_VARIANT = b.get OTP.FEAT_VARIANT := congrArg _ (b.rd_axisFreed a OTP.FEAT 0 (by decide))
  have hstate : (b.axisFreed a).axState a = b.axState a :=
    congrArg _ (b.rd_axisFreed a AX.AX_STATE a (by simp only [Reg.addr, AX.AX_STATE, FCR.AX_SAFE_MAP]; omega))
  simp only [Block.mem_liveAxes, Block.numAxes, Block.lim, Block.variant, hfeat, hstate]

/-- What `AXREL` does to the axis it frees: the bit of the map clears, no leg stays under FCR's override, and an axis in HELD stays there only
where another override holds it. -/
theorem Block.axisFreed_overridesChanged (b : Block) (a : Nat) (hmap : b.mapBit FCR.AX_SAFE_MAP_SLOT a = true) (ha : a ∈ b.liveAxes)
    (hd : b.drv a = 9) :
    (b.axisFreed a).overridesChanged.mapBit FCR.AX_SAFE_MAP_SLOT a = false ∧
      (∀ leg ∈ b.axLegs a, ((b.axisFreed a).overridesChanged.leg leg).fcrPat = none) ∧
      (b.axisFreed a).overridesChanged.drv a = if (b.axisFreed a).overridesChanged.heldSrc a = 0 then 0 else 9 := by
  have hsteady := overridesChanged_steady (b.axisFreed a)
  refine ⟨?_, fun leg hleg => ?_, ?_⟩
  · rw [Block.mapBit, hsteady.get_low FCR.AX_SAFE_MAP_SLOT 0 (by decide) (by decide)]
    exact b.mapBit_axisFreed a hmap
  · have hcause := congrArg (fun x => x.2.2) (hsteady.causes leg)
    exact hcause.trans (b.fcrPat_each_endFcr _ leg (.inl hleg))
  · have hdrv : (b.axisFreed a).drv a = b.drv a :=
      congrArg _ (b.rd_axisFreed a AX.AX_DRV a (by simp only [Reg.addr, AX.AX_DRV, FCR.AX_SAFE_MAP]; omega))
    exact (b.axisFreed a).drv_overridesChanged a ((b.mem_liveAxes_axisFreed a).2 ha) (hdrv.trans hd)

/-! ## The write of `AXREL` -/

section Axrel

variable {b : Block} {m : Master} {w : Word} (hgo : FCR.AXREL_GO.of w = 1)
include hgo

theorem Block.axrel_released (hh : b.handleCheck (FCR.AXREL_HANDLE.of w) = none)
    (hmap : b.mapBit FCR.AX_SAFE_MAP_SLOT (FCR.AXREL_HANDLE.of w % 32) = true) :
    b.pageWrite m ⟨FCR.AXREL, 0, 0⟩ w = ((b.axisFreed (FCR.AXREL_HANDLE.of w % 32)).overridesChanged, .ok) := by
  show b.axRel w = _
  simp only [Block.axRel, hgo, hh, hmap, Nat.one_ne_zero, ite_false, Bool.not_true, Bool.false_eq_true]
  rfl

theorem Block.axrel_badHandle {code : Nat} (hh : b.handleCheck (FCR.AXREL_HANDLE.of w) = some code) :
    b.pageWrite m ⟨FCR.AXREL, 0, 0⟩ w = (b, .refused (if code = 18 then 12 else 13)) := by
  show b.axRel w = _
  simp only [Block.axRel, hgo, hh, Nat.one_ne_zero, ite_false]

theorem Block.axrel_notHeld (hh : b.handleCheck (FCR.AXREL_HANDLE.of w) = none)
    (hmap : b.mapBit FCR.AX_SAFE_MAP_SLOT (FCR.AXREL_HANDLE.of w % 32) = false) :
    b.pageWrite m ⟨FCR.AXREL, 0, 0⟩ w = (b, .refused 11) := by
  show b.axRel w = _
  simp only [Block.axRel, hgo, hh, hmap, Nat.one_ne_zero, ite_false, Bool.not_false, ite_true]

end Axrel

theorem Block.slot_lt_of_handleCheck {b : Block} {h : Nat} (hc : b.handleCheck h = none) : h % 32 < b.numAxes := by
  refine Nat.lt_of_not_le fun hge => ?_
  simp only [Block.handleCheck, hge, or_true, ite_true, reduceCtorEq] at hc

/-- Settles O43: an accepted release ends FCR's override and lets pads and axes follow, and each refusal leaves the block as it was. -/
theorem axisReleases : Obligations.AxisReleases := by
  rintro s m w a hw hgo rfl
  refine ⟨fun hh hmap hst hd => ?_, fun code hh => ?_, fun hh hmap => ?_⟩
  · obtain ⟨hclear, hlegs, hdrv⟩ :=
      s.b.axisFreed_overridesChanged _ hmap (Block.mem_liveAxes.2 ⟨Block.slot_lt_of_handleCheck hh, hst⟩) hd
    have hopen := hw
    simp only [State.writable, Bool.and_eq_true] at hopen
    have hb : (s.write m FCR.AXREL 0 0 w).b = _ :=
      Block.command_ok s.b _ m FCR.AXREL 0 0 w (by decide) hopen.1 hopen.2 (Block.axrel_released hgo hh hmap)
    refine ⟨s.write m FCR.AXREL 0 0 w, rfl, ?_⟩
    rw [hb]
    exact ⟨hclear, hlegs, hdrv, State.onBlock_mem ..⟩
  · obtain ⟨hcode, honly⟩ := State.write_refused (by decide) hw (Block.axrel_badHandle hgo hh)
    refine ⟨s.write m FCR.AXREL 0 0 w, rfl, hcode.trans ?_, honly⟩
    split <;> rfl
  · obtain ⟨hcode, honly⟩ := State.write_refused (by decide) hw (Block.axrel_notHeld hgo hh hmap)
    exact ⟨s.write m FCR.AXREL 0 0 w, rfl, hcode, honly⟩

end Sys2Proof.Machine
end
